-- ==== Sys2Proof/Word.lean ====
section
/-! DEFINITION. The plain value types of the controller: bytes, identifiers, tick-count values and the two index types. -/

namespace Sys2Proof

/-- One byte of either serial line, or a local cycle number 0 to 255 (Table 6-1). -/
abbrev Byte := BitVec 8

/-- A tag 0 to 65 535 (Table 8-1), or a frame check (section 6.7). -/
abbrev Word16 := BitVec 16

/-- A tick-count value, 0 to 4 294 967 295, wrapping (R31). -/
abbrev Tick := BitVec 32

/-- A station index 0 to 15. -/
abbrev StationIx := Fin 16

/-- A slot of the request table's storage, 0 to 23 (Table 8-1). -/
abbrev SlotIx := Fin 24

end Sys2Proof
end

