-- ==== Sys2Proof/Syntax.lean ====
section
/-! DEFINITION. The commands of the controller: one constructor per row of spec/opcode_table.json, in the table's order. -/

namespace Sys2Proof

/-- One step of the controller, as the table of operations and events lists them. A request row is a whole request
frame from the host, with its echo byte and its payload. A row that happens at one station, or to one entry of the
request table, carries the station index or the entry's slot. What comes from outside (a pin level, the bytes heard on a
line, whether a written image reads back) is an operand. -/
inductive Instr where
  /-- POWER_ON_RESET, with the level of the INCIDENT pin at the end of the reset. -/
  | powerOnReset (incident : Bool)
  /-- TICK. -/
  | tick
  /-- MINUTE_BOUNDARY. -/
  | minuteBoundary
  /-- MASTER_BOUNDARY. -/
  | masterBoundary
  /-- INCIDENT_CHANGE, with the level of the INCIDENT pin taken at the tick. -/
  | incidentChange (level : Bool)
  /-- LOCAL_ZERO of a station's cycle model. -/
  | localZero (k : StationIx)
  /-- ORDER_POINT of a station. -/
  | orderPoint (k : StationIx)
  /-- ORDER_DEADLINE_PASSED for a station's waiting order. -/
  | orderDeadlinePassed (k : StationIx)
  /-- REVISE_LATEST_TICK_PASSED for a station's waiting REVISE. -/
  | reviseLatestTickPassed (k : StationIx)
  /-- TRANSIT_EXPIRY of the entry in a slot. -/
  | transitExpiry (slot : SlotIx)
  /-- EMERGENCY_EXPIRY of the entry in a slot. -/
  | emergencyExpiry (slot : SlotIx)
  /-- ROUTE_DUE of the entry in a slot. -/
  | routeDue (slot : SlotIx)
  /-- ROUTE_TOO_LATE of the entry in a slot. -/
  | routeTooLate (slot : SlotIx)
  /-- ROUTE_REFUSED of the entry in a slot. -/
  | routeRefused (slot : SlotIx)
  /-- SLOT_START. -/
  | slotStart
  /-- EXCHANGE_END, with the bytes heard on CRX in the slot and the two either-order choices that R137 leaves open: whether
  a returning link reaches the Station Tracker before the reply's flags reach the Hold Logic, and whether the queue
  fields and counts reach the Measurement Unit before the cycle part reaches the Station Tracker. -/
  | exchangeEnd (heard : List Byte) (returnFirst queuesFirst : Bool)
  /-- SAVE_COMPLETE, with whether the image read back passes its check. -/
  | saveComplete (passes : Bool)
  /-- HOST_FRAME_RECEIVED, with the bytes gathered after the length byte: kind, echo, payload and check. -/
  | hostFrameReceived (rest : List Byte)
  /-- HOST_FRAME_ABANDONED. -/
  | hostFrameAbandoned
  /-- HOST_FRAME_SENT. -/
  | hostFrameSent
  /-- BAD_KIND: a whole frame whose kind is no request kind. -/
  | badKind (kind echo : Byte) (payload : List Byte)
  /-- DEFINE_CORRIDOR, request kind 0x01. -/
  | defineCorridor (echo : Byte) (payload : List Byte)
  /-- LOAD_STATION, request kind 0x02. -/
  | loadStation (echo : Byte) (payload : List Byte)
  /-- LOAD_PLAN, request kind 0x03. -/
  | loadPlan (echo : Byte) (payload : List Byte)
  /-- QUERY_PLAN, request kind 0x04. -/
  | queryPlan (echo : Byte) (payload : List Byte)
  /-- ADD_SCHEDULE, request kind 0x05. -/
  | addSchedule (echo : Byte) (payload : List Byte)
  /-- DELETE_SCHEDULE, request kind 0x06. -/
  | deleteSchedule (echo : Byte) (payload : List Byte)
  /-- SET_CLOCK, request kind 0x07. -/
  | setClock (echo : Byte) (payload : List Byte)
  /-- START, request kind 0x08. -/
  | start (echo : Byte) (payload : List Byte)
  /-- STOP, request kind 0x09. -/
  | stop (echo : Byte) (payload : List Byte)
  /-- SELECT_PLAN, request kind 0x0A. -/
  | selectPlan (echo : Byte) (payload : List Byte)
  /-- RELEASE_PLAN, request kind 0x0B. -/
  | releasePlan (echo : Byte) (payload : List Byte)
  /-- HOLD_STATION, request kind 0x0C. -/
  | holdStation (echo : Byte) (payload : List Byte)
  /-- SET_PRIORITY_MASK, request kind 0x0D. -/
  | setPriorityMask (echo : Byte) (payload : List Byte)
  /-- SET_INCIDENT, request kind 0x0E. -/
  | setIncident (echo : Byte) (payload : List Byte)
  /-- SET_AUTOSTART, request kind 0x0F. -/
  | setAutostart (echo : Byte) (payload : List Byte)
  /-- ROUTE_CLEAR, request kind 0x10. -/
  | routeClear (echo : Byte) (payload : List Byte)
  /-- CANCEL_REQUEST, request kind 0x11. -/
  | cancelRequest (echo : Byte) (payload : List Byte)
  /-- QUERY_CORRIDOR, request kind 0x12. -/
  | queryCorridor (echo : Byte) (payload : List Byte)
  /-- QUERY_STATION, request kind 0x13. -/
  | queryStation (echo : Byte) (payload : List Byte)
  /-- QUERY_REQUESTS, request kind 0x14. -/
  | queryRequests (echo : Byte) (payload : List Byte)
  /-- READ_EVENTS, request kind 0x15. -/
  | readEvents (echo : Byte) (payload : List Byte)
  /-- SET_NOTICE, request kind 0x16. -/
  | setNotice (echo : Byte) (payload : List Byte)
  /-- SAVE, request kind 0x17. -/
  | save (echo : Byte) (payload : List Byte)
  /-- RESET, request kind 0x18. -/
  | reset (echo : Byte) (payload : List Byte)
  /-- WAITING_FRAME_REFUSED. -/
  | waitingFrameRefused
  /-- RESET_CARRIED_OUT, with the level of the INCIDENT pin at the end of the reset. -/
  | resetCarriedOut (incident : Bool)
  /-- HOST_FRAME_BEGUN: a 0xA5 found while hunting, with the length byte that follows it. -/
  | hostFrameBegun (length : Byte)
  deriving DecidableEq, Repr

end Sys2Proof
end

