-- ==== Sys2Proof/Decode.lean ====
section
/-! DEFINITION. The command a word of spec/opcode_table.json spells. The table gives no row of this block any bits (every
row's "fields" is empty and no row has a match or a mask), so no word spells a command. -/

namespace Sys2Proof

/-- The command that the `nbits` bits `w` spell by the table: none, for the table gives no row bits. -/
def decodeTableWord (_nbits _w : Nat) : Option Instr := none

end Sys2Proof
end

