-- ==== Sys2Proof/Config.lean ====
section
/-! DEFINITION. The shared figures of Table 0-4 that the chapters' rules use. The manual leaves no value of a step open:
what it does not fix (how long a save takes, whether the written image reads back, which of two events of one
instant is taken first) comes with the command, so this file holds no free value. -/

namespace Sys2Proof.Config

/-- In-step tolerance, in ticks (R91). -/
def inStepTolerance : Nat := 2

/-- Drift tolerance, in ticks (R96). -/
def driftTolerance : Nat := 3

/-- Ticks from the order point to the modelled next local zero (R88). -/
def orderPointLead : Nat := 30

/-- Ticks from the order deadline to the modelled next local zero (R101). -/
def orderDeadlineLead : Nat := 5

/-- Ticks from the entry to STOPPING to the deadline of its RELEASE orders (R42, R109). -/
def releaseLife : Nat := 50

/-- Greatest queue value held, in vehicles (R72). -/
def queueLimit : Nat := 60

/-- Queue age at which a sample is stale (R72). -/
def sampleLife : Nat := 3

/-- Greatest value of a cycle accumulator (R77). -/
def countLimit : Nat := 65535

/-- Greatest ETA a notice is held at, in seconds (R116). -/
def etaLimit : Nat := 120

/-- Grace after the ETA tick, in ticks (R123). -/
def grace : Nat := 300

/-- Ticks by which a route entry's due tick leads its ETA tick (R126). -/
def routeLead : Nat := 100

/-- Ticks after a route entry's due tick at the end of which it is too late (R127). -/
def routeLateness : Nat := 100

/-- Ticks after a PREEMPT's delivery at the end of which it is refused (R128). -/
def refusalTime : Nat := 20

/-- Entries the request table holds (R114). -/
def tableSize : Nat := 24

/-- Records the event queue holds (R156). -/
def eventLimit : Nat := 32

/-- Records one READ_EVENTS removes at most (R157). -/
def readLimit : Nat := 8

/-- Entries the schedule table holds (R27). -/
def scheduleSize : Nat := 24

/-- Frames the receive queue holds (R146). -/
def receiveLimit : Nat := 4

/-- Entries one QUERY_REQUESTS reply carries at most (R151). -/
def requestPage : Nat := 7

/-- Consecutive failed exchanges that lose a link (R141). -/
def missLimit : Nat := 3

/-- Consecutive non-routine slots after which ROUTINE takes the slot (R139). -/
def nonRoutineLimit : Nat := 3

/-- Greatest number of ticks that the write of a save takes (R159). -/
def saveLimit : Nat := 30

/-- Ticks in one day (R32). -/
def dayTicks : Nat := 864000

/-- Ticks in one minute (R33). -/
def minuteTicks : Nat := 600

end Sys2Proof.Config
end

