-- ==== Sys2Proof/Machine/State.lean ====
section
/-! DEFINITION. The state of the controller, block by block (Table 0-1), and its values right after reset. -/

namespace Sys2Proof.Machine

/-! ## Geometry (Chapter 1) -/

/-- The three link fields of a station's configuration part (Table 1-1): metres and km/h. -/
structure LinkFields where
  distance : Nat
  vIn : Nat
  vOut : Nat
  deriving DecidableEq, Repr

/-- The configuration part of a loaded station (R2, Table 1-1). `minimums` are the stored minimums; their count is n. -/
structure StationConfig where
  drop : Nat
  minimums : List Nat
  headwayIn : Nat
  headwayOut : Nat
  honourManual : Bool
  incidentGate : Bool
  link : Option LinkFields
  deriving DecidableEq, Repr

/-- The number of phases n (R2: the minimum list holds exactly n items). -/
def StationConfig.phases (c : StationConfig) : Nat := c.minimums.length

/-! ## Plans and the schedule (Chapter 2) -/

/-- How the inbound and outbound ideal offsets are balanced (Table 2-1). -/
inductive BandMode where
  | inbound | outbound | weighted | tidal
  deriving DecidableEq, Repr

/-- One item of a plan's split list (R14). -/
structure SplitItem where
  half : Bool
  splits : List Nat
  deriving DecidableEq, Repr

/-- A plan record less its number, which is the slot that holds it (R14, Table 2-1). -/
structure Plan where
  cycle : Nat
  base : Nat
  ref : Nat
  mode : BandMode
  weight : Nat
  tidal : Option Nat
  shorten : Nat
  lengthen : Nat
  stepLimit : Nat
  advanceCap : Nat
  maxExtension : Nat
  lockout : Nat
  items : List SplitItem
  deriving DecidableEq, Repr

/-- The reason codes of Table 2-2 in its order, after EMPTY (R24). -/
inductive PlanReason where
  | empty | geometry | reference | tidalStation | listLength | phaseCount | sum | minimum
  deriving DecidableEq, Repr

/-- A plan's first failing item, with the station and phase where Table 2-2 names them (R15). -/
structure FailItem where
  reason : PlanReason
  station : Option Nat
  phase : Option Nat
  deriving DecidableEq, Repr

/-- A stored plan's verdict (R13). -/
inductive Verdict where
  | valid
  | invalid (item : FailItem)
  deriving DecidableEq, Repr

/-- A plan slot that holds a record holds its verdict too (R13). -/
structure PlanSlot where
  plan : Plan
  verdict : Verdict
  deriving DecidableEq, Repr

/-- A schedule entry (R27). Day d of the mask is bit d − 1. -/
structure ScheduleEntry where
  start : Nat
  days : BitVec 7
  plan : Nat
  deriving DecidableEq, Repr

/-- The corridor states (section 3.6). -/
inductive CorridorState where
  | idle | running | stopping
  deriving DecidableEq, Repr

/-- The reasons of Table 3-3. -/
inductive Reason where
  | start | stop | setClock | minute | selectPlan | releasePlan | reset | restart | stopped
  deriving DecidableEq, Repr

/-- The terms of the may-run condition, Table 3-1. -/
inductive Term where
  | enable | clock | geometry | plan
  deriving DecidableEq, Repr

/-! ## Station coordination (Chapter 4) -/

/-- The coordination states (R46). -/
inductive Coord where
  | free | held | seeking | inStep
  deriving DecidableEq, Repr

/-- The causes of Table 4-2. -/
inductive StateCause where
  | run | linkBack | linkLost | released | hold | unhold | orderPoint
  deriving DecidableEq, Repr

/-- The active level of the INCIDENT input (R56). -/
inductive Polarity where
  | activeHigh | activeLow
  deriving DecidableEq, Repr

/-! ## The cycle model (Chapter 6) -/

/-- A cycle's length and its phase ends, in ticks after the zero (Table 6-1). -/
structure Course where
  length : Nat
  ends : List Nat
  deriving DecidableEq, Repr

/-- The length basis, with the length and ends it gives (R82). -/
inductive Basis where
  | none
  | plan (c : Course)
  | order (c : Course)
  deriving DecidableEq, Repr

/-- The order delivered for the next cycle (Table 6-1). -/
structure OrderedNext where
  number : Byte
  course : Course
  deriving DecidableEq, Repr

/-- The cycle model of a station (Table 6-1). -/
structure CycleModel where
  zeroTick : Tick
  number : Byte
  basis : Basis
  lastZero : Byte
  mark : Option Byte
  next : Option OrderedNext
  deriving DecidableEq, Repr

/-- The correction direction (R81), in Table 4-4's order. -/
inductive Correction where
  | shorten | lengthen | none
  deriving DecidableEq, Repr

/-! ## Orders and revisions (Chapter 7) -/

/-- The two grants a frame can carry (Table 7-1). -/
inductive FoldKind where
  | extend | early
  deriving DecidableEq, Repr

/-- The transit grant folded into an order (Table 7-1). `amount` is the ticks taken from phases 2 to n. -/
structure Fold where
  slot : SlotIx
  kind : FoldKind
  amount : Nat
  deriving DecidableEq, Repr

/-- The fields that a cycle order has and a RELEASE lacks (Table 7-1). `takenOver` is the model's own: a plan take-over has
fallen since the order point (R107). -/
structure OrderBody where
  course : Course
  plan : Nat
  target : Nat
  fold : Option Fold
  takenOver : Bool
  deriving DecidableEq, Repr

/-- A waiting order (Table 7-1); the release flag is set exactly when there is no body. `placed` is the tick at which it joined
the ORDER set (R133). -/
structure WaitingOrder where
  number : Byte
  body : Option OrderBody
  deadline : Tick
  placed : Tick
  deriving DecidableEq, Repr

/-- The release flag of a waiting order (Table 7-1). -/
def WaitingOrder.release (o : WaitingOrder) : Bool := o.body.isNone

/-- A waiting REVISE (Table 7-2). `offset` is the latest tick's distance from the zero tick (R112). -/
structure WaitingRevise where
  number : Byte
  kind : FoldKind
  slot : SlotIx
  course : Course
  latest : Tick
  offset : Nat
  deriving DecidableEq, Repr

/-! ## Requests (Chapter 8) -/

/-- Kind of vehicle (Table 8-1). -/
inductive ReqClass where
  | transit | emergency
  deriving DecidableEq, Repr

/-- A junction's notice or a host route (Table 8-1). -/
inductive Origin where
  | station | route
  deriving DecidableEq, Repr

/-- Direction of travel (Table 8-1). -/
inductive Direction where
  | inward | outward
  deriving DecidableEq, Repr

/-- The grant an entry holds (Table 8-1). -/
inductive GrantKind where
  | passive | extend | early
  deriving DecidableEq, Repr

/-- The state of an entry (Table 8-1). -/
inductive ReqState where
  | pending | scheduled | active
  deriving DecidableEq, Repr

/-- The outcomes of Table 8-3. -/
inductive ReqOutcome where
  | done | expired | refused | cancelled | dropped | superseded
  deriving DecidableEq, Repr

/-- A request table entry (Table 8-1). `delivered` is the tick at which a route entry's PREEMPT was delivered (R128). A flag
that Table 8-1 gives another class or origin stands clear. -/
structure Entry where
  slot : SlotIx
  cls : ReqClass
  level : Nat
  origin : Origin
  station : StationIx
  dir : Direction
  tag : Word16
  arrival : Tick
  eta : Tick
  due : Option Tick
  masked : Bool
  grant : Option GrantKind
  outstanding : Bool
  seen : Bool
  posted : Bool
  delivered : Option Tick
  state : ReqState
  deriving DecidableEq, Repr

/-! ## The corridor link (Chapter 9) -/

/-- Link states (R141). -/
inductive LinkState where
  | online | lost
  deriving DecidableEq, Repr

/-- The causes of Table 9-6. -/
inductive FailureCause where
  | noReply | truncated | check | address | kind | format | phase
  deriving DecidableEq, Repr

/-- What a frame in URGENT is (R138). A PREEMPT carries the content of its route entry (R127). -/
inductive UrgentKind where
  | revise
  | preempt (slot : SlotIx) (dir : Direction) (level : Nat) (tag : Word16)
  deriving DecidableEq, Repr

/-- A frame in URGENT, with the tick at which it was placed (R133). -/
structure UrgentFrame where
  station : StationIx
  kind : UrgentKind
  placed : Tick
  deriving DecidableEq, Repr

/-- The frame an exchange carries. -/
inductive SentFrame where
  | poll
  | order (o : WaitingOrder)
  | revise (r : WaitingRevise) (f : UrgentFrame)
  | preempt (slot : SlotIx) (f : UrgentFrame)
  deriving DecidableEq, Repr

/-- The exchange of the present slot (R133): the station addressed, the frame carried, the tick of the slot, the bytes sent on CTX
(R135), and whether its result is to be discarded (R141). -/
structure Exchange where
  station : StationIx
  frame : SentFrame
  slotTick : Tick
  bytes : List Byte
  discarded : Bool
  deriving DecidableEq, Repr

/-! ## Events (Chapter 11) -/

/-- Causes of LINK_LOST (Table 11-1). -/
inductive LossCause where
  | misses | redefined | readdressed
  deriving DecidableEq, Repr

/-- Causes of ORDER_LATE (Table 7-3). -/
inductive LateCause where
  | deadline | overtaken | release
  deriving DecidableEq, Repr

/-- The event kinds of Table 11-1, in its order, with the content of their station and detail fields. -/
inductive EventBody where
  | corridorState (new : CorridorState) (reason : Reason)
  | planTaken (new previous : Nat)
  | planRejected (plan : Nat) (reason : PlanReason) (station : Option Nat)
  | stationState (k : StationIx) (new : Coord) (cause : StateCause)
  | linkLost (k : StationIx) (cause : LossCause)
  | linkBack (k : StationIx)
  | drift (k : StationIx) (time step : Int)
  | orderLate (k : StationIx) (number : Byte) (cause : LateCause)
  | grant (k : StationIx) (kind : GrantKind) (tag : Word16)
  | grantWithdrawn (k : StationIx) (tag : Word16) (slot : SlotIx)
  | requestEnd (k : StationIx) (outcome : ReqOutcome) (grant : Option GrantKind) (tag : Word16)
  | tableFull (k : StationIx) (cls : ReqClass) (tag : Word16)
  | tidal (weight measured : Nat)
  | clockSet
  | saveEnd (passed : Bool) (ticks : Nat)
  deriving DecidableEq, Repr

/-- An event record: the time of day, absent while the clock was not set, and the rest (R156). -/
structure Event where
  time : Option Nat
  body : EventBody
  deriving DecidableEq, Repr

/-! ## The host link (Chapter 10) -/

/-- What the HLI does with bytes on HRX (R145, R154): it hunts, gathers a frame of the payload length given, or ignores
them while a RESET request is being carried out. -/
inductive RxState where
  | hunting
  | gathering (length : Nat)
  | ignoring
  deriving DecidableEq, Repr

/-- An accepted request frame (Table 10-1). -/
structure HostFrame where
  kind : Byte
  echo : Byte
  payload : List Byte
  deriving DecidableEq, Repr

/-- A frame of the transmit queue. A notice has its payload from when it begins to be sent (R153). -/
inductive TxFrame where
  | reply (kind echo : Byte) (payload : List Byte)
  | notice (count : Option Nat)
  deriving DecidableEq, Repr

/-! ## The stored configuration (Chapter 11) -/

/-- The stored items (section 11.2). -/
structure StoredItems where
  count : Option Nat
  configs : Vector (Option StationConfig) 16
  plans : Vector (Option Plan) 8
  schedule : List ScheduleEntry
  masks : Vector (Bool × Bool) 16
  polarity : Polarity
  autostart : Bool
  deriving DecidableEq, Repr

/-- The non-volatile image: the items and the check word (R158). -/
structure Image where
  items : StoredItems
  check : Word16
  deriving DecidableEq, Repr

/-! ## The blocks -/

/-- One station record: each part is owned by the block named (section 2.3). -/
structure Station where
  /-- GT: the configuration part, absent while the station is not loaded. -/
  config : Option StationConfig
  /-- GT: the minimums in force (R3). -/
  minsInForce : List Nat
  /-- GT: a minimums change is pending (R3). -/
  minsPending : Bool
  /-- CLC: link state, miss count, last failure, acknowledge mark (R141, R136, R143). -/
  link : LinkState
  misses : Nat
  lastFailure : Option FailureCause
  ackMark : Bool
  /-- HL: the inputs (R54, R55), the ROUTE source as the PU reports it (R58), and the effective hold (R53). -/
  hostHold : Bool
  manualFlag : Bool
  preemptFlag : Bool
  routeActive : Bool
  hold : Bool
  /-- ST: coordination state, synchronised flag, cycle model, last projected error, correction direction. -/
  coord : Coord
  synced : Bool
  model : Option CycleModel
  lastError : Option Nat
  correction : Option Correction
  /-- OE: raw target, target offset T, jump flag (R60). -/
  raw : Option Nat
  target : Option Nat
  jump : Bool
  /-- MU: the queue sample (R72). -/
  queueIn : Nat
  queueOut : Nat
  sampleNo : Option Byte
  age : Nat
  /-- OB: the waiting order, which is also the station's place in ORDER, and the waiting REVISE (R100). -/
  order : Option WaitingOrder
  revise : Option WaitingRevise
  /-- PU: the lockout count and the transit masks, set for on (R117, R121). -/
  lockout : Nat
  maskIn : Bool
  maskOut : Bool
  deriving DecidableEq, Repr

/-- The Time Base (R31, R32, R35). The last two fields are the model's own: the present tick raised a minute boundary, or a master
boundary, that has not yet been handed to the Plan Store. -/
structure TimeBase where
  tick : Tick
  time : Nat
  day : Nat
  clockSet : Bool
  m : Nat
  minuteDue : Bool
  masterDue : Bool
  deriving DecidableEq, Repr

/-- The Plan Store (R13, R20, R24, R27, R37, R38 and section 3.6). -/
structure PlanStore where
  slots : Vector (Option PlanSlot) 8
  active : Option Nat
  staged : Option Nat
  override : Option Nat
  rejection : Option Nat
  schedule : List ScheduleEntry
  enable : Bool
  autostart : Bool
  corridor : CorridorState
  deriving DecidableEq, Repr

/-- The corridor-wide part of the Hold Logic: the polarity and the INCIDENT level last taken (R56). -/
structure HoldLogic where
  polarity : Polarity
  level : Bool
  deriving DecidableEq, Repr

/-- The corridor-wide part of the Corridor Link Controller (R133, R138, R139, R140). The last two fields are the model's own: the slot
of the present tick has not begun, and the station whose cycle model was resynchronised in the present tick (R97). -/
structure LinkControl where
  urgent : List UrgentFrame
  nonRoutine : Nat
  pollPtr : Nat
  exchange : Option Exchange
  slotOpen : Bool
  resynced : Option StationIx
  deriving DecidableEq, Repr

/-- The corridor-wide part of the Measurement Unit (R76, R77). -/
structure Measurement where
  weight : Nat
  accIn : Nat
  accOut : Nat
  primed : Bool
  ring : List (Nat × Nat)
  deriving DecidableEq, Repr

/-- The Event Queue (R156). -/
structure EventQueue where
  records : List Event
  overflow : Bool
  deriving DecidableEq, Repr

/-- The Host Link Interface (R145, R146, R147, R152). `emptied` is the model's own: after an accepted RESET the transmit queue has been
sent empty with no request waiting, so the RESET is carried out at the end of the tick (R154, step 4; log entry 28). -/
structure HostLink where
  rx : RxState
  received : List HostFrame
  overrun : Bool
  transmit : List TxFrame
  notice : Bool
  armed : Bool
  emptied : Bool
  deriving DecidableEq, Repr

/-- The Configuration Store (R158): the image, and while a save is in flight the tick noted at its acceptance. -/
structure ConfigStore where
  image : Image
  saving : Option Tick
  deriving DecidableEq, Repr

/-- The whole controller, and the queue of the commands that wait for it. `count` is N (R1). -/
structure State where
  pending : List Instr
  count : Option Nat
  stations : Vector Station 16
  tb : TimeBase
  ps : PlanStore
  hl : HoldLogic
  clc : LinkControl
  mu : Measurement
  table : List Entry
  eq : EventQueue
  hli : HostLink
  cs : ConfigStore
  deriving DecidableEq, Repr

/-- Faults: none. No rule of the manual stops the controller, so no command answers a fault. -/
inductive Fault where
  deriving DecidableEq, Repr

/-- Refusals. -/
inductive Refusal where
  /-- Raised by an arm of exec for a command that has no meaning yet; no arm raises it. Safe: the machine stops. -/
  | notModelled (mnemonic : String)
  deriving DecidableEq, Repr

/-! ## Reset values -/

/-- A station record after a reset that loads an empty configuration (R12, R46, R53, R55, R60, R72, R81, R100, R117, R121, R141, R143). -/
def Station.blank : Station where
  config := none
  minsInForce := []
  minsPending := false
  link := .lost
  misses := 3
  lastFailure := none
  ackMark := false
  hostHold := false
  manualFlag := false
  preemptFlag := false
  routeActive := false
  hold := false
  coord := .free
  synced := false
  model := none
  lastError := none
  correction := none
  raw := none
  target := none
  jump := true
  queueIn := 0
  queueOut := 0
  sampleNo := none
  age := 3
  order := none
  revise := none
  lockout := 0
  maskIn := true
  maskOut := true

/-- The empty value of every stored item (R160). -/
def StoredItems.empty : StoredItems where
  count := none
  configs := .replicate 16 none
  plans := .replicate 8 none
  schedule := []
  masks := .replicate 16 (true, true)
  polarity := .activeHigh
  autostart := false

/-- The machine right after a power-on reset that found no good image, with the INCIDENT pin low. The manual gives no first content of
the image: DESIGN CHOICE of an image of empty items whose check word is 0, which is not their CRC. -/
def State.reset : State where
  pending := []
  count := none
  stations := .replicate 16 .blank
  tb := { tick := 0, time := 0, day := 1, clockSet := false, m := 0, minuteDue := false, masterDue := false }
  ps := {
    slots := .replicate 8 none, active := none, staged := none, override := none, rejection := none, schedule := [],
    enable := false, autostart := false, corridor := .idle }
  hl := { polarity := .activeHigh, level := false }
  clc := { urgent := [], nonRoutine := 0, pollPtr := 0, exchange := none, slotOpen := false, resynced := none }
  mu := { weight := 0, accIn := 0, accOut := 0, primed := false, ring := [] }
  table := []
  eq := { records := [], overflow := false }
  hli := { rx := .hunting, received := [], overrun := false, transmit := [], notice := false, armed := false, emptied := false }
  cs := { image := { items := .empty, check := 0 }, saving := none }

end Sys2Proof.Machine
end

