-- ==== Sys2Proof/Machine/Operands.lean ====
section
/-! DEFINITION. The manual's arithmetic (section 6.2), its check sequence (section 6.7), and how fields and names are carried as
bytes (R150). -/

namespace Sys2Proof.Machine

/-! ## Arithmetic -/

/-- The circular difference modulo `M` of values that differ by `x`: taken modulo `M` and moved into the range greater than
−M/2 and up to +M/2 (section 6.2). -/
def circDiff (M : Nat) (x : Int) : Int :=
  let r := x % (M : Int)
  if 2 * r > (M : Int) then r - M else r

/-- The circular difference a − b of two tick-count values (R31). -/
def tickDiff (a b : Tick) : Int :=
  circDiff 4294967296 ((a.toNat : Int) - b.toNat)

/-- The tick `n` ticks after `t`; before it for a negative `n`. -/
def tickAdd (t : Tick) (n : Int) : Tick :=
  t + BitVec.ofInt 32 n

/-- The tick `t` has come: the present tick is `t` or a later one, by circular difference (R31). -/
def reached (now t : Tick) : Bool :=
  0 ≤ tickDiff now t

/-- A value modulo `M`, in 0 to M − 1 (section 6.2). -/
def modulo (x : Int) (M : Nat) : Nat :=
  (x % (M : Int)).toNat

/-- A value clamped to a range (section 6.2). -/
def clamp (low high x : Nat) : Nat :=
  max low (min high x)

/-- A quotient rounded up (section 6.2). -/
def ceilDiv (a b : Nat) : Nat :=
  (a + b - 1) / b

/-- `s` divided by 100 and rounded to nearest, halves away from zero: sign(s) · floor((|s| + 50) / 100) (R69). -/
def roundPercent (s : Int) : Int :=
  s.sign * (((s.natAbs + 50) / 100 : Nat) : Int)

/-- The next local cycle number, modulo 256. -/
def nextNumber (n : Byte) : Byte := n + 1

/-! ## The check sequence (section 6.7) -/

/-- One step of the CRC register: generator x^16 + x^12 + x^5 + 1. -/
def crcShift (c : Word16) : Word16 :=
  if c.msb then (c <<< 1) ^^^ 0x1021 else c <<< 1

/-- One byte into the CRC register, most significant bit first. -/
def crcByte (c : Word16) (b : Byte) : Word16 :=
  let c := c ^^^ (b.setWidth 16 <<< 8)
  crcShift (crcShift (crcShift (crcShift (crcShift (crcShift (crcShift (crcShift c)))))))

/-- The check over a list of bytes: initial value all ones, no reflection, nothing combined at the end. -/
def crc (bytes : List Byte) : Word16 :=
  bytes.foldl crcByte 0xFFFF

/-! ## Values as bytes (R150, section 6.4) -/

/-- A one-byte value. -/
def be8 (n : Nat) : List Byte := [BitVec.ofNat 8 n]

/-- A two-byte value, high byte first. -/
def be16 (n : Nat) : List Byte := [BitVec.ofNat 8 (n / 256), BitVec.ofNat 8 n]

/-- A four-byte value, high byte first. -/
def be32 (n : Nat) : List Byte :=
  [BitVec.ofNat 8 (n / 16777216), BitVec.ofNat 8 (n / 65536), BitVec.ofNat 8 (n / 256), BitVec.ofNat 8 n]

/-- A signed value in two bytes of two's complement. -/
def sbe16 (x : Int) : List Byte := be16 (modulo x 65536)

/-- A signed value in four bytes of two's complement. -/
def sbe32 (x : Int) : List Byte := be32 (modulo x 4294967296)

/-- A yes/no, set/clear or on/off value. -/
def flagByte (b : Bool) : List Byte := be8 b.toNat

/-- An optional item: a presence byte, then the value when it is present. -/
def optBytes {α : Type} (f : α → List Byte) : Option α → List Byte
  | none => be8 0
  | some a => be8 1 ++ f a

/-- A list: a count byte, then the items. -/
def listBytes {α : Type} (f : α → List Byte) (l : List α) : List Byte :=
  be8 l.length ++ l.flatMap f

/-- The 1-byte value at an offset of a payload. -/
def rd8 (p : List Byte) (i : Nat) : Nat := (p.getD i 0).toNat

/-- The 2-byte value at an offset, high byte first. -/
def rd16 (p : List Byte) (i : Nat) : Nat := 256 * rd8 p i + rd8 p (i + 1)

/-- The 4-byte value at an offset, high byte first. -/
def rd32 (p : List Byte) (i : Nat) : Nat := 65536 * rd16 p i + rd16 p (i + 2)

/-- The station indices 0 to 15, in ascending order. -/
def allStations : List StationIx := [0, 1, 2, 3, 4, 5, 6, 7, 8, 9, 10, 11, 12, 13, 14, 15]

/-- The slots 0 to 23 of the request table, in ascending order. -/
def allSlots : List SlotIx :=
  [0, 1, 2, 3, 4, 5, 6, 7, 8, 9, 10, 11, 12, 13, 14, 15, 16, 17, 18, 19, 20, 21, 22, 23]

/-- The indices 0 to 7 of the plan slots 1 to 8. -/
def allPlanSlots : List (Fin 8) := [0, 1, 2, 3, 4, 5, 6, 7]

/-- A set over stations, station k in bit k of two bytes. -/
def setBytes (f : StationIx → Bool) : List Byte :=
  be16 (allStations.foldl (fun n k => n + if f k then 2 ^ k.val else 0) 0)

/-! ## Names as codes (R150) -/

/-- Position in section 3.6. -/
def CorridorState.code : CorridorState → Nat
  | .idle => 0 | .running => 1 | .stopping => 2

/-- Position in Table 3-3. -/
def Reason.code : Reason → Nat
  | .start => 0 | .stop => 1 | .setClock => 2 | .minute => 3 | .selectPlan => 4 | .releasePlan => 5 | .reset => 6 | .restart => 7
  | .stopped => 8

/-- Position in Table 3-1. -/
def Term.code : Term → Nat
  | .enable => 0 | .clock => 1 | .geometry => 2 | .plan => 3

/-- Position in Table 4-1. -/
def Coord.code : Coord → Nat
  | .free => 0 | .held => 1 | .seeking => 2 | .inStep => 3

/-- Position in Table 4-2. -/
def StateCause.code : StateCause → Nat
  | .run => 0 | .linkBack => 1 | .linkLost => 2 | .released => 3 | .hold => 4 | .unhold => 5 | .orderPoint => 6

/-- The code of a plan reason in a CONFLICT reply and in PLAN_REJECTED: EMPTY 0, Table 2-2 codes 1 to 7 (R150). -/
def PlanReason.code : PlanReason → Nat
  | .empty => 0 | .geometry => 1 | .reference => 2 | .tidalStation => 3 | .listLength => 4 | .phaseCount => 5 | .sum => 6
  | .minimum => 7

/-- The code of a first failing item's reason in a verdict: its position in Table 2-2, counted from 0 (R150's general rule, whose
exception names a CONFLICT reply and PLAN_REJECTED alone). DEDUCED: log entry 12. -/
def PlanReason.verdictCode (r : PlanReason) : Nat := r.code - 1

/-- Table 2-3, field 5. -/
def BandMode.code : BandMode → Nat
  | .inbound => 0 | .outbound => 1 | .weighted => 2 | .tidal => 3

/-- The band mode that a byte of LOAD_PLAN names. -/
def BandMode.ofCode : Nat → BandMode
  | 0 => .inbound | 1 => .outbound | 2 => .weighted | _ => .tidal

/-- R57: 0 for ACTIVE_HIGH, 1 for ACTIVE_LOW. -/
def Polarity.code : Polarity → Nat
  | .activeHigh => 0 | .activeLow => 1

/-- Position in Table 6-1. -/
def Basis.code : Basis → Nat
  | .none => 0 | .plan _ => 1 | .order _ => 2

/-- Position in Table 4-4. -/
def Correction.code : Correction → Nat
  | .shorten => 0 | .lengthen => 1 | .none => 2

/-- Position in Table 7-1. -/
def FoldKind.code : FoldKind → Nat
  | .extend => 0 | .early => 1

/-- The grant kind that a fold carries. -/
def FoldKind.grant : FoldKind → GrantKind
  | .extend => .extend | .early => .early

/-- Position in Table 8-1. -/
def ReqClass.code : ReqClass → Nat
  | .transit => 0 | .emergency => 1

/-- Position in Table 8-1. -/
def Origin.code : Origin → Nat
  | .station => 0 | .route => 1

/-- R150: 0 for IN, 1 for OUT. -/
def Direction.code : Direction → Nat
  | .inward => 0 | .outward => 1

/-- The direction that a byte names. -/
def Direction.ofCode : Nat → Direction
  | 0 => .inward | _ => .outward

/-- R156: PASSIVE, EXTEND and EARLY are coded 0, 1 and 2. -/
def GrantKind.code : GrantKind → Nat
  | .passive => 0 | .extend => 1 | .early => 2

/-- The grant kind or NONE, coded 255 (R156). -/
def grantCode : Option GrantKind → Nat
  | none => 255 | some g => g.code

/-- Position in Table 8-1. -/
def ReqState.code : ReqState → Nat
  | .pending => 0 | .scheduled => 1 | .active => 2

/-- Position in Table 8-3. -/
def ReqOutcome.code : ReqOutcome → Nat
  | .done => 0 | .expired => 1 | .refused => 2 | .cancelled => 3 | .dropped => 4 | .superseded => 5

/-- R150: ONLINE 0 and LOST 1. -/
def LinkState.code : LinkState → Nat
  | .online => 0 | .lost => 1

/-- R150: the causes of Table 9-6 coded 0 to 6. -/
def FailureCause.code : FailureCause → Nat
  | .noReply => 0 | .truncated => 1 | .check => 2 | .address => 3 | .kind => 4 | .format => 5 | .phase => 6

/-- The last failure, NONE coded 7 (R150). -/
def failureCode : Option FailureCause → Nat
  | none => 7 | some c => c.code

/-- Position in Table 11-1's list of causes. -/
def LossCause.code : LossCause → Nat
  | .misses => 0 | .redefined => 1 | .readdressed => 2

/-- Position in Table 7-3. -/
def LateCause.code : LateCause → Nat
  | .deadline => 0 | .overtaken => 1 | .release => 2

/-! ## Event records as bytes (Table 11-1, Table 11-2) -/

/-- The kind code of Table 11-1. -/
def EventBody.code : EventBody → Nat
  | .corridorState _ _ => 0
  | .planTaken _ _ => 1
  | .planRejected _ _ _ => 2
  | .stationState _ _ _ => 3
  | .linkLost _ _ => 4
  | .linkBack _ => 5
  | .drift _ _ _ => 6
  | .orderLate _ _ _ => 7
  | .grant _ _ _ => 8
  | .grantWithdrawn _ _ _ => 9
  | .requestEnd _ _ _ _ => 10
  | .tableFull _ _ _ => 11
  | .tidal _ _ => 12
  | .clockSet => 13
  | .saveEnd _ _ => 14

/-- The station field of Table 11-1. -/
def EventBody.station : EventBody → Option Nat
  | .planRejected _ _ st => st
  | .stationState k _ _ | .linkLost k _ | .linkBack k | .drift k _ _ | .orderLate k _ _ | .grant k _ _ | .grantWithdrawn k _ _
  | .requestEnd k _ _ _ | .tableFull k _ _ => some k.val
  | .corridorState _ _ | .planTaken _ _ | .tidal _ _ | .clockSet | .saveEnd _ _ => none

/-- The two detail values of Table 11-1. -/
def EventBody.details : EventBody → Int × Int
  | .corridorState new reason => (new.code, reason.code)
  | .planTaken new previous => (new, previous)
  | .planRejected plan reason _ => (plan, reason.code)
  | .stationState _ new cause => (new.code, cause.code)
  | .linkLost _ cause => (cause.code, 0)
  | .linkBack _ => (0, 0)
  | .drift _ time step => (time, step)
  | .orderLate _ number cause => (number.toNat, cause.code)
  | .grant _ kind tag => (kind.code, tag.toNat)
  | .grantWithdrawn _ tag slot => (tag.toNat, slot.val)
  | .requestEnd _ outcome held tag => (256 * outcome.code + grantCode held, tag.toNat)
  | .tableFull _ cls tag => (cls.code, tag.toNat)
  | .tidal weight measured => (weight, measured)
  | .clockSet => (0, 0)
  | .saveEnd passed ticks => (if passed then 0 else 1, ticks)

/-- An event record as READ_EVENTS carries it (Table 11-2). -/
def Event.bytes (e : Event) : List Byte :=
  be8 e.body.code ++ optBytes be32 e.time ++ optBytes be8 e.body.station
    ++ sbe16 e.body.details.1 ++ sbe16 e.body.details.2

/-! ## Host frames as bytes (Table 10-1) -/

/-- A host frame on the line: sync, length, kind, echo, payload and check. -/
def hostWire (kind echo : Byte) (payload : List Byte) : List Byte :=
  let body := be8 payload.length ++ [kind, echo] ++ payload
  0xA5 :: body ++ be16 (crc body).toNat

/-- A frame of the transmit queue on HTX. A notice has kind 0x40, echo 0 and the count as its payload (R153). -/
def TxFrame.wire : TxFrame → List Byte
  | .reply kind echo payload => hostWire kind echo payload
  | .notice count => hostWire 0x40 0 (be8 (count.getD 0))

end Sys2Proof.Machine
end

