-- ==== Sys2Proof/Machine/Ops.lean ====
section
/-! DEFINITION. Reading and writing the state: station records, plan slots, table entries, the event queue and the transmit queue. -/

namespace Sys2Proof.Machine

/-! ## Station records -/

/-- The record of station `k`. -/
def State.st (s : State) (k : StationIx) : Station := s.stations[k]

/-- Station `k`'s record changed by `f`. -/
def State.modSt (s : State) (k : StationIx) (f : Station → Station) : State :=
  { s with stations := s.stations.set k (f s.stations[k]) }

/-- Every station's record changed by `f`. -/
def State.modAll (s : State) (f : Station → Station) : State :=
  allStations.foldl (fun s k => s.modSt k f) s

/-- An action on every station in ascending index. -/
def State.eachStation (s : State) (f : State → StationIx → State) : State :=
  allStations.foldl f s

/-- The record at a station number, where there is one. -/
def State.stNat (s : State) (k : Nat) : Option Station := s.stations[k]?

/-- The present tick count. -/
def State.now (s : State) : Tick := s.tb.tick

/-- A save is in flight (R158). -/
def State.busy (s : State) : Bool := s.cs.saving.isSome

/-- The station index that a byte names, when it is below N (R1, note 2). -/
def State.stationOf (s : State) (i : Nat) : Option StationIx :=
  if h : i < 16 then
    if s.count.any (i < ·) then some ⟨i, h⟩ else none
  else none

/-! ## Plan slots -/

/-- What plan slot `p` holds (R13: slots are numbered 1 to 8). -/
def State.slot (s : State) (p : Nat) : Option PlanSlot :=
  if p = 0 then none else (s.ps.slots[p - 1]?).join

/-- Slot `p` holds a record with the verdict VALID. -/
def State.planValid (s : State) (p : Nat) : Bool :=
  (s.slot p).any (·.verdict = .valid)

/-- The record of the active plan. -/
def State.activePlan (s : State) : Option Plan :=
  s.ps.active.bind fun p => (s.slot p).map (·.plan)

/-- The plan's item for station `k` (R14). -/
def Plan.item (p : Plan) (k : StationIx) : Option SplitItem := p.items[k.val]?

/-- The local cycle Cl of a station under the plan: C/2 where its item carries the half-cycle flag, and C otherwise (R14). -/
def Plan.localCycle (p : Plan) (k : StationIx) : Nat :=
  if (p.item k).any (·.half) then p.cycle / 2 else p.cycle

/-- The plan's splits for a station (R14). -/
def Plan.splits (p : Plan) (k : StationIx) : List Nat :=
  ((p.item k).map (·.splits)).getD []

/-- Station `k` is the plan's tidal station, which is present in TIDAL mode only (R14). -/
def Plan.tidalAt (p : Plan) (k : StationIx) : Bool :=
  p.mode = .tidal && p.tidal = some k.val

/-! ## The transmit queue and the event queue -/

/-- A frame at the head of the transmit queue begins to be sent; a notice takes its payload then (R147, R153). -/
def State.beginHead (s : State) : State :=
  match s.hli.transmit with
  | .notice none :: rest =>
    { s with hli := { s.hli with transmit := .notice (some s.eq.records.length) :: rest } }
  | _ => s

/-- A frame joins the end of the transmit queue (R147). -/
def State.transmit (s : State) (f : TxFrame) : State :=
  ({ s with hli := { s.hli with transmit := s.hli.transmit ++ [f] } }).beginHead

/-- The Event Queue's report that it went from empty to holding a record (R153). -/
def State.noticeReport (s : State) : State :=
  if s.hli.notice && s.hli.armed then
    ({ s with hli := { s.hli with armed := false } }).transmit (.notice none)
  else s

/-- A block writes an event record (R156). -/
def State.emit (s : State) (body : EventBody) : State :=
  if s.eq.records.length < Config.eventLimit then
    let e : Event := { time := if s.tb.clockSet then some s.tb.time else none, body }
    let s' := { s with eq := { s.eq with records := s.eq.records ++ [e] } }
    if s.eq.records.isEmpty then s'.noticeReport else s'
  else
    { s with eq := { s.eq with overflow := true } }

/-! ## The request table -/

/-- The entry in a slot. -/
def State.entry (s : State) (slot : SlotIx) : Option Entry :=
  s.table.find? (·.slot = slot)

/-- The entry in a slot changed by `f`. -/
def State.modEntry (s : State) (slot : SlotIx) (f : Entry → Entry) : State :=
  { s with table := s.table.map fun e => if e.slot = slot then f e else e }

/-- The entry in a slot leaves the list, and its slot becomes free (R114). -/
def State.removeEntry (s : State) (slot : SlotIx) : State :=
  { s with table := s.table.filter (·.slot ≠ slot) }

/-- The lowest-numbered free slot (R114). -/
def State.freeSlot (s : State) : Option SlotIx :=
  allSlots.find? fun i => s.table.all (·.slot ≠ i)

/-- The table can take an entry (R114). -/
def State.tableHasRoom (s : State) : Bool :=
  s.table.length < Config.tableSize && s.freeSlot.isSome

/-- A new entry joins the end of the list and takes the lowest-numbered free slot (R114). -/
def State.addEntry (s : State) (mk : SlotIx → Entry) : State :=
  match s.freeSlot with
  | some i => if s.table.length < Config.tableSize then { s with table := s.table ++ [mk i] } else s
  | none => s

/-- The station's ACTIVE entry, of either class (R114: at most one). -/
def State.activeAt (s : State) (k : StationIx) : Option Entry :=
  s.table.find? fun e => e.station = k && e.state = .active

/-- The station's ACTIVE EMERGENCY entry. -/
def State.activeEmergency (s : State) (k : StationIx) : Option Entry :=
  s.table.find? fun e => e.station = k && e.state = .active && e.cls = .emergency

/-- The station's ACTIVE TRANSIT entry. -/
def State.activeTransit (s : State) (k : StationIx) : Option Entry :=
  s.table.find? fun e => e.station = k && e.state = .active && e.cls = .transit

/-- The station's entry whose PREEMPT is posted (R127). -/
def State.postedAt (s : State) (k : StationIx) : Option Entry :=
  s.table.find? fun e => e.station = k && e.posted

/-- An entry into a list ordered by higher level first, behind its equals. -/
def insertByLevel (e : Entry) : List Entry → List Entry
  | [] => [e]
  | x :: xs => if x.level < e.level then e :: x :: xs else x :: insertByLevel e xs

/-- Entries by higher level first, then earlier in the table (R119, R125). -/
def byLevel (l : List Entry) : List Entry :=
  l.foldl (fun acc e => insertByLevel e acc) []

/-! ## The URGENT set -/

/-- The frames of URGENT that meet `p` are removed. -/
def State.dropUrgent (s : State) (p : UrgentFrame → Bool) : State :=
  { s with clc := { s.clc with urgent := s.clc.urgent.filter fun f => !p f } }

/-- A frame joins the end of URGENT (R138). -/
def State.placeUrgent (s : State) (k : StationIx) (kind : UrgentKind) : State :=
  { s with clc := { s.clc with urgent := s.clc.urgent ++ [{ station := k, kind, placed := s.now }] } }

/-- The frame is the station's REVISE. -/
def UrgentFrame.isRevise (f : UrgentFrame) (k : StationIx) : Bool :=
  f.station = k && f.kind = .revise

/-- The frame is the PREEMPT of the entry in a slot. -/
def UrgentFrame.isPreempt (f : UrgentFrame) (slot : SlotIx) : Bool :=
  match f.kind with
  | .revise => false
  | .preempt i _ _ _ => i = slot

/-! ## The end of the present tick -/

/-- The present tick's slot has begun and no exchange is in progress, so the tick is at its end and the result of any exchange
begun in its slot has been taken (R104, R112, R127, R133). -/
def State.slotOver (s : State) : Bool := !s.clc.slotOpen && s.clc.exchange.isNone

/-! ## The cycle model -/

/-- The length and ends of the current cycle; absent when the basis is NONE (Table 6-1). -/
def Basis.course : Basis → Option Course
  | .none => Option.none
  | .plan c => some c
  | .order c => some c

/-- The modelled local time (R81). -/
def CycleModel.localTime (m : CycleModel) (now : Tick) : Int := tickDiff now m.zeroTick

/-- The modelled next zero, while the basis is PLAN or ORDER (R81). -/
def CycleModel.nextZero (m : CycleModel) : Option Tick :=
  m.basis.course.map fun c => tickAdd m.zeroTick c.length

/-- The running sums of a list of phase intervals (R82, R95). -/
def runningSums : Nat → List Nat → List Nat
  | _, [] => []
  | acc, x :: xs => (acc + x) :: runningSums (acc + x) xs

/-- The cycle with the given phase intervals: the ends are their running sums, and the length is the last (R95). -/
def Course.ofIntervals (intervals : List Nat) : Course :=
  { length := intervals.sum, ends := runningSums 0 intervals }

/-- The differences of successive phase ends. -/
def differences : Nat → List Nat → List Nat
  | _, [] => []
  | acc, x :: xs => (x - acc) :: differences x xs

/-- The phase intervals of a cycle. -/
def Course.intervals (c : Course) : List Nat := differences 0 c.ends

/-- The end of phase 1. -/
def Course.firstEnd (c : Course) : Nat := c.ends.headD 0

/-- The cycle of plan length with the plan's splits (R82, basis PLAN). -/
def Plan.course (p : Plan) (k : StationIx) : Course :=
  { length := p.localCycle k, ends := runningSums 0 (p.splits k) }

end Sys2Proof.Machine
end

