-- ==== Sys2Proof/Machine/Flags.lean ====
section
/-! DEFINITION. The flags and conditions that the blocks derive from their state: hold sources, geometry valid, the governing plan
and the terms of the may-run condition. -/

namespace Sys2Proof.Machine

/-! ## Holds (R53, R56) -/

/-- The INCIDENT input is active: the level last taken equals the polarity (R56). -/
def State.incidentActive (s : State) : Bool :=
  match s.hl.polarity with
  | .activeHigh => s.hl.level
  | .activeLow => !s.hl.level

/-- honour_manual of a station, no while it is not loaded (R53). -/
def Station.honours (t : Station) : Bool := t.config.any (·.honourManual)

/-- incident_gate of a station, no while it is not loaded (R53). -/
def Station.gated (t : Station) : Bool := t.config.any (·.incidentGate)

/-- The five hold sources of a station in Table 4-3's order: HOST, MANUAL, INCIDENT, PREEMPT, ROUTE. -/
def State.sources (s : State) (k : StationIx) : List Bool :=
  let t := s.st k
  [t.hostHold, t.manualFlag && t.honours, s.incidentActive && t.gated, t.preemptFlag, t.routeActive]

/-- Any source holds (R53). -/
def State.anySource (s : State) (k : StationIx) : Bool := (s.sources k).any id

/-! ## Priority (R117) -/

/-- The station's mask for a direction is off. -/
def Station.masked (t : Station) : Direction → Bool
  | .inward => !t.maskIn
  | .outward => !t.maskOut

/-! ## Queue samples (R72, R75) -/

/-- The sample is fresh (R72). -/
def Station.fresh (t : Station) : Bool := t.sampleNo.isSome && t.age < Config.sampleLife

/-- The inbound queue as counted (R75). -/
def Station.countedIn (t : Station) : Nat := if t.fresh then t.queueIn else 0

/-- The outbound queue as counted (R75). -/
def Station.countedOut (t : Station) : Nat := if t.fresh then t.queueOut else 0

/-! ## Geometry (R1, R4, R15) -/

/-- Every station 0 to N − 1 is loaded, for N present (R1). -/
def State.geometryValid (s : State) : Bool :=
  match s.count with
  | none => false
  | some n => allStations.all fun k => !(k.val < n) || (s.st k).config.isSome

/-- A travel time: floor((72 · distance + V) / (2 · V)) (R4). -/
def travelTime (distance speed : Nat) : Nat := (72 * distance + speed) / (2 * speed)

/-- t_in of a link (R4). -/
def LinkFields.tIn (l : LinkFields) : Nat := travelTime l.distance l.vIn

/-- t_out of a link (R4). -/
def LinkFields.tOut (l : LinkFields) : Nat := travelTime l.distance l.vOut

/-- The link fields of station `k`'s link. -/
def State.linkAt (s : State) (k : Nat) : Option LinkFields :=
  (s.stNat k).bind fun t => t.config.bind (·.link)

/-- The first failing check of item `k` against a station's stored minimums: PHASE_COUNT, SUM, then MINIMUM (R15). -/
def judgeItem (p : Plan) (k : StationIx) (mins : List Nat) : Option FailItem :=
  let splits := p.splits k
  if splits.length ≠ mins.length then some { reason := .phaseCount, station := some k.val, phase := none }
  else if splits.sum ≠ p.localCycle k then some { reason := .sum, station := some k.val, phase := none }
  else match (splits.zip mins).findIdx? (fun x => x.1 < x.2) with
    | some i => some { reason := .minimum, station := some k.val, phase := some (i + 1) }
    | none => none

/-- The verdict on a plan against the geometry as it stands, by the checks of Table 2-2 in order (R15). -/
def State.judge (s : State) (p : Plan) : Verdict :=
  let fails (r : PlanReason) : Verdict := .invalid { reason := r, station := none, phase := none }
  match s.count with
  | none => fails .geometry
  | some n =>
    if !s.geometryValid then fails .geometry
    else if n ≤ p.ref then fails .reference
    else if p.tidal.any (n ≤ ·) then fails .tidalStation
    else if p.items.length ≠ n then fails .listLength
    else
      match allStations.findSome? fun k =>
          if k.val < n then (s.st k).config.bind fun c => judgeItem p k c.minimums else none with
      | some item => .invalid item
      | none => .valid

/-- The verdict on the record that a slot holds, taken afresh. -/
def State.judgeSlot (s : State) (x : PlanSlot) : PlanSlot :=
  { x with verdict := s.judge x.plan }

/-- All eight stored plans are judged again (R9, R16). -/
def State.judgeAll (s : State) : State :=
  allPlanSlots.foldl (init := s) fun t (i : Fin 8) =>
    { t with ps := { t.ps with slots := t.ps.slots.set i (t.ps.slots[i].map s.judgeSlot) } }

/-! ## The schedule plan and the governing plan (R22, R30) -/

/-- The entry's mask includes a day 1 to 7. -/
def ScheduleEntry.onDay (e : ScheduleEntry) (day : Nat) : Bool := e.days.getLsbD (day - 1)

/-- The entry with the latest start minute among those considered. -/
def latestEntry (l : List ScheduleEntry) : Option ScheduleEntry :=
  l.foldl (fun best e => if best.any (e.start ≤ ·.start) then best else some e) none

/-- The day `j` days before day `d`, counted backward with wrap-around (R30). -/
def dayBefore (d j : Nat) : Nat := (d + 13 - j) % 7 + 1

/-- The governing-entry search of Table 2-5, at day `d` and time of day `t`. -/
def governingEntry (table : List ScheduleEntry) (d t : Nat) : Option ScheduleEntry :=
  let p := t / Config.minuteTicks
  let step1 := latestEntry (table.filter fun e => e.onDay d && e.start ≤ p)
  let steps := [1, 2, 3, 4, 5, 6].map fun j => latestEntry (table.filter fun e => e.onDay (dayBefore d j))
  let step8 := latestEntry (table.filter fun e => e.onDay d && p < e.start)
  (step1 :: steps ++ [step8]).findSome? id

/-- The schedule plan: 0 while the clock is not set or no entry governs (R22, R30). -/
def State.schedulePlan (s : State) : Nat :=
  if s.tb.clockSet then ((governingEntry s.ps.schedule s.tb.day s.tb.time).map (·.plan)).getD 0 else 0

/-- The governing plan: the override plan when one is present, and otherwise the schedule plan (R22). -/
def State.governing (s : State) : Nat := s.ps.override.getD s.schedulePlan

/-! ## The may-run condition (R22, R39) -/

/-- The plan term for the present corridor state, reported as holding while STOPPING (R22, R45). -/
def State.planTerm (s : State) : Bool :=
  match s.ps.corridor with
  | .idle => s.governing ≠ 0 && s.planValid s.governing
  | .running => s.governing ≠ 0
  | .stopping => true

/-- Whether a term of Table 3-1 holds. -/
def State.termHolds (s : State) : Term → Bool
  | .enable => s.ps.enable
  | .clock => s.tb.clockSet
  | .geometry => s.geometryValid
  | .plan => s.planTerm

/-- The terms in Table 3-1's order. -/
def allTerms : List Term := [.enable, .clock, .geometry, .plan]

/-- The corridor may run (R39). -/
def State.mayRun (s : State) : Bool := allTerms.all s.termHolds

/-- The first term that fails, in the order of Table 3-1 (R37). -/
def State.firstFailing (s : State) : Option Term := allTerms.find? fun t => !s.termHolds t

/-! ## RELEASE orders (R43) -/

/-- Station `k` has a RELEASE outstanding. -/
def State.releaseOut (s : State) (k : StationIx) : Bool := (s.st k).order.any (·.release)

/-- The number of stations whose RELEASE is outstanding (R45). -/
def State.releasesOut (s : State) : Nat := (allStations.filter s.releaseOut).length

end Sys2Proof.Machine
end

