-- ==== Sys2Proof/Machine/Transition.lean ====
section
/-! DEFINITION. The Station Tracker's projected error and correction, the reduction rule, transit folds, and the classification of
a transit entry (R90 to R95, R102, R118). -/

namespace Sys2Proof.Machine

/-! ## The reduction rule (R95) -/

/-- The reduction of phases given as (interval, minimum) pairs, in the order in which they give: each gives as much of the
amount as it can. -/
def takeInOrder : Nat → List (Nat × Nat) → List Nat
  | _, [] => []
  | a, (iv, mn) :: rest => (iv - min a (iv - mn)) :: takeInOrder (a - min a (iv - mn)) rest

/-- The reduction rule: the amount is taken from the highest-numbered phase first, each down to its minimum in force (R95). -/
def reduce (amount : Nat) (intervals mins : List Nat) : List Nat :=
  (takeInOrder amount (intervals.zip mins).reverse).reverse

/-- The sum of the room of each phase: its interval less its minimum, or 0 when the interval is not above it (R102). -/
def roomSum (intervals mins : List Nat) : Nat :=
  ((intervals.zip mins).map fun x => x.1 - x.2).sum

/-- The reduction with the set of phases 2 to n (R95). -/
def reduceRest (amount : Nat) (intervals mins : List Nat) : List Nat :=
  match intervals, mins with
  | iv :: ivs, _ :: ms => iv :: reduce amount ivs ms
  | ivs, _ => ivs

/-! ## Projected error (R90) -/

/-- The projected error d for a zero `u` ticks ahead at master time `m`, against the target `t` (R90). -/
def projectedError (C Cl m t : Nat) (u : Int) : Nat :=
  let a := modulo ((m : Int) + u) C % Cl
  modulo ((a : Int) - t) Cl

/-! ## The correction (R91 to R95) -/

/-- A decided transition: the direction, the correction amount c, and the phase intervals of the next cycle. -/
structure Transition where
  correction : Correction
  amount : Nat
  intervals : List Nat
  deriving DecidableEq, Repr

/-- d is within the in-step tolerance (R91). -/
def withinTolerance (Cl d : Nat) : Bool :=
  d ≤ Config.inStepTolerance || Cl ≤ d + Config.inStepTolerance

/-- The effective shorten limit: the lesser of the shorten limit and the slack (R92). -/
def shortenLimit (Cl percent : Nat) (mins : List Nat) : Nat :=
  min (Cl * percent / 100) (Cl - mins.sum)

/-- The lengthen limit G (R92). -/
def lengthenLimit (Cl percent : Nat) : Nat := Cl * percent / 100

/-- Phase 1 takes an added time. -/
def growFirst (c : Nat) : List Nat → List Nat
  | [] => []
  | x :: xs => (x + c) :: xs

/-- The transition for a projected error `d` (R91 to R95). -/
def transition (p : Plan) (k : StationIx) (mins : List Nat) (d : Nat) : Transition :=
  let Cl := p.localCycle k
  let splits := p.splits k
  if withinTolerance Cl d then { correction := .none, amount := 0, intervals := splits }
  else
    let sEff := shortenLimit Cl p.shorten mins
    let g := lengthenLimit Cl p.lengthen
    if sEff ≠ 0 ∧ ceilDiv d sEff < ceilDiv (Cl - d) g then
      let c := min d sEff
      { correction := .shorten, amount := c, intervals := reduce c splits mins }
    else
      let c := min (Cl - d) g
      { correction := .lengthen, amount := c, intervals := growFirst c splits }

/-! ## Transit folds (R102) -/

/-- The extension room X: the lesser of the plan's maximum transit extension and the room of phases 2 to n (R102). -/
def extensionRoom (maxExt : Nat) (intervals mins : List Nat) : Nat :=
  min maxExt (roomSum intervals.tail mins.tail)

/-- The early floor: E1 plus the minimums in force of phases 2 to n (R102). -/
def earlyFloor (intervals mins : List Nat) : Nat :=
  intervals.headD 0 + mins.tail.sum

/-- EXTEND by `x`: phase 1 grows by x, and x is taken from phases 2 to n (R102). -/
def foldExtend (x : Nat) (intervals mins : List Nat) : List Nat :=
  growFirst x (reduceRest x intervals mins)

/-- EARLY to `l`: L − l is taken from phases 2 to n (R102). -/
def foldEarly (l : Nat) (intervals mins : List Nat) : List Nat :=
  reduceRest (intervals.sum - l) intervals mins

/-! ## Classification (R118) -/

/-- What the classification of a candidate gives (R118). -/
inductive Classified where
  | passive
  | wait
  | extend (x : Nat)
  | early (l : Nat)
  deriving DecidableEq, Repr

/-- A transit entry classified against one cycle of the given intervals, with its ETA_pos (R118). -/
def classify (maxExt lockout : Nat) (intervals mins : List Nat) (etaPos : Int) : Classified :=
  let e1 := intervals.headD 0
  if etaPos < e1 then .passive
  else if 0 < lockout then .wait
  else
    let x := extensionRoom maxExt intervals mins
    if 1 ≤ x ∧ etaPos < e1 + x then .extend (min (etaPos - e1 + 20).toNat x)
    else
      let l := max (etaPos - 20).toNat (earlyFloor intervals mins)
      if l < intervals.sum then .early l else .passive

/-- The intervals after a classification's fold, with the fold's kind and the ticks it takes from phases 2 to n (R102). -/
def Classified.fold (c : Classified) (intervals mins : List Nat) : Option (FoldKind × Nat × List Nat) :=
  match c with
  | .extend x => some (.extend, x, foldExtend x intervals mins)
  | .early l => some (.early, intervals.sum - l, foldEarly l intervals mins)
  | .passive => none
  | .wait => none

end Sys2Proof.Machine
end

