-- ==== Sys2Proof/Machine/Grants.lean ====
section
/-! DEFINITION. Transit grants: evaluation against the cycle in progress, REVISE building, folding into an order, and withdrawal
(R110, R118 to R122). -/

namespace Sys2Proof.Machine

/-- The station is SEEKING or IN_STEP. -/
def Station.coordinated (t : Station) : Bool := t.coord = .seeking || t.coord = .inStep

/-- The station's candidates against a cycle of length `L` that begins at `zero`: PENDING, not masked, ETA_pos below L; by
higher level first, then earlier in the table (R118, R119). -/
def State.candidates (s : State) (k : StationIx) (zero : Tick) (L : Nat) : List Entry :=
  byLevel (s.table.filter fun e =>
    e.station = k && e.cls = .transit && e.state = .pending && !e.masked && tickDiff e.eta zero < (L : Int))

/-- An entry takes a grant, and GRANT is written (R119, R120). -/
def State.grantEntry (s : State) (e : Entry) (kind : GrantKind) (outstanding : Bool) : State :=
  (s.modEntry e.slot fun e => { e with state := .active, grant := some kind, outstanding }).emit (.grant e.station kind e.tag)

/-- The station's lockout count takes a value. -/
def State.setLockout (s : State) (k : StationIx) (n : Nat) : State := s.modSt k fun t => { t with lockout := n }

/-- The distance of a REVISE's latest tick from the zero tick: E1 − 10 for EXTEND, E1 − 1 for EARLY (R110). -/
def latestOffset (kind : FoldKind) (e1 : Nat) : Nat :=
  match kind with
  | .extend => e1 - 10
  | .early => e1 - 1

/-- The tick that lies `offset` after a model's zero tick is past: it lies before the present tick, or it is the present tick and
that tick is over (R110, R112, R122; that a tick is over when its slot is: log entry 7). -/
def State.offsetPast (s : State) (m : CycleModel) (offset : Nat) : Bool :=
  (offset : Int) < m.localTime s.now || (m.localTime s.now = (offset : Int) && s.slotOver)

/-- The REVISE that the Order Builder builds for a grant against the cycle in progress; none when one is waiting already or its
latest tick is past (R110). The decision points of R119 are those latest ticks. -/
def State.buildRevise (s : State) (k : StationIx) (m : CycleModel) (c : Course) (slot : SlotIx) (kind : FoldKind)
    (intervals : List Nat) : Option WaitingRevise :=
  let offset := latestOffset kind c.firstEnd
  if (s.st k).revise.isNone && !s.offsetPast m offset then
    some {
      number := m.number, kind, slot, course := .ofIntervals intervals, latest := tickAdd m.zeroTick offset, offset }
  else none

/-- One candidate is classified against the cycle in progress; the state after its grant, or none when it earns no grant or its
grant cannot be made (R119). -/
def State.tryGrant (s : State) (k : StationIx) (p : Plan) (m : CycleModel) (c : Course) (e : Entry) : Option State :=
  let t := s.st k
  let cl := classify p.maxExtension t.lockout c.intervals t.minsInForce (tickDiff e.eta m.zeroTick)
  match cl with
  | .passive => some (s.grantEntry e .passive false)
  | .wait => none
  | _ =>
    match cl.fold c.intervals t.minsInForce with
    | none => none
    | some (kind, _, ivs) =>
      (s.buildRevise k m c e.slot kind ivs).map fun r =>
        let s := (s.modSt k fun t => { t with revise := some r }).placeUrgent k .revise
        (s.setLockout k p.lockout).grantEntry e kind.grant true

/-- The first candidate that earns a grant takes it (R119). -/
def State.grantFirst (s : State) (k : StationIx) (p : Plan) (m : CycleModel) (c : Course) : List Entry → State
  | [] => s
  | e :: es => (s.tryGrant k p m c e).getD (s.grantFirst k p m c es)

/-- A station's transit requests are evaluated against the cycle in progress, when all the conditions of R119 hold. -/
def State.evaluateTransit (s : State) (k : StationIx) : State :=
  let t := s.st k
  if s.ps.corridor = .running && t.coordinated && t.synced && (s.activeAt k).isNone then
    match t.model, s.activePlan with
    | some m, some p =>
      match m.basis.course with
      | some c => s.grantFirst k p m c (s.candidates k m.zeroTick c.length)
      | none => s
    | _, _ => s
  else s

/-- A grant is withdrawn: its frame was not delivered (R122). -/
def State.withdrawGrant (s : State) (slot : SlotIx) : State :=
  match s.entry slot with
  | some e =>
    if e.outstanding then
      let s := s.modEntry slot fun e => { e with state := .pending, grant := none, outstanding := false }
      ((s.setLockout e.station 0).emit (.grantWithdrawn e.station e.tag slot)).evaluateTransit e.station
    else s
  | none => s

/-- A grant's frame was delivered, and the grant stands (R122). -/
def State.grantDelivered (s : State) (slot : SlotIx) : State :=
  s.modEntry slot fun e => { e with outstanding := false }

/-- The withdrawal or drop of a cycle order is reported for the fold it carries, if any (R113). -/
def State.foldLost (s : State) : Option Fold → State
  | some f => s.withdrawGrant f.slot
  | none => s

/-- The delivery of a cycle order is reported for the fold it carries, if any (R113). -/
def State.foldDelivered (s : State) : Option Fold → State
  | some f => s.grantDelivered f.slot
  | none => s

/-- The first grant earned against the cycle being ordered, among the candidates: the state, the intervals and the fold after it
(R120). -/
def State.foldFirst (s : State) (k : StationIx) (p : Plan) (zero : Tick) (intervals : List Nat) :
    List Entry → State × List Nat × Option Fold
  | [] => (s, intervals, none)
  | e :: es =>
    let t := s.st k
    let cl := classify p.maxExtension t.lockout intervals t.minsInForce (tickDiff e.eta zero)
    match cl with
    | .passive => (s.grantEntry e .passive false, intervals, none)
    | .wait => s.foldFirst k p zero intervals es
    | _ =>
      match cl.fold intervals t.minsInForce with
      | none => (s, intervals, none)
      | some (kind, amount, ivs) =>
        ((s.setLockout k p.lockout).grantEntry e kind.grant true, ivs, some { slot := e.slot, kind, amount })

/-- The grant that the Priority Unit offers for folding into an order whose cycle begins at `zero`, only while no entry at the
station is ACTIVE (R120). -/
def State.offerFold (s : State) (k : StationIx) (p : Plan) (zero : Tick) (intervals : List Nat) :
    State × List Nat × Option Fold :=
  if (s.activeAt k).isNone then
    s.foldFirst k p zero intervals (s.candidates k zero intervals.sum)
  else (s, intervals, none)

/-- The fold of a rebuilt order is taken again: its entry alone is classified against the rebuilt cycle by steps 1, 3 and 4 of
R118, with the lockout counted as 0 and the mask not counted (R120). A slot that holds no TRANSIT entry has none to fold. -/
def State.refold (s : State) (k : StationIx) (p : Plan) (zero : Tick) (intervals : List Nat) (f : Fold) :
    State × List Nat × Option Fold :=
  match (s.entry f.slot).filter (·.cls = .transit) with
  | none => (s, intervals, none)
  | some e =>
    let t := s.st k
    let etaPos := tickDiff e.eta zero
    if (intervals.sum : Int) ≤ etaPos then (s.withdrawGrant f.slot, intervals, none)
    else
      let cl := classify p.maxExtension 0 intervals t.minsInForce etaPos
      match cl.fold intervals t.minsInForce with
      | some (kind, amount, ivs) =>
        (s.modEntry f.slot fun e => { e with grant := some kind.grant }, ivs, some { slot := f.slot, kind, amount })
      | none =>
        ((s.modEntry f.slot fun e => { e with grant := some .passive, outstanding := false }).setLockout k 0, intervals, none)

end Sys2Proof.Machine
end

