-- ==== Sys2Proof/Machine/Holds.lean ====
section
/-! DEFINITION. Withdrawal of orders and revisions, the changes of a station's coordination state, and the effective hold
(R46 to R53, R106, R112). -/

namespace Sys2Proof.Machine

/-- The station's waiting cycle order is withdrawn, and its fold reported; a RELEASE stays (R106, R109). -/
def State.withdrawOrder (s : State) (k : StationIx) : State :=
  match (s.st k).order.bind (·.body) with
  | some b => (s.modSt k fun t => { t with order := none }).foldLost b.fold
  | none => s

/-- The station's waiting REVISE leaves URGENT and is absent. -/
def State.clearRevise (s : State) (k : StationIx) : State :=
  (s.modSt k fun t => { t with revise := none }).dropUrgent (·.isRevise k)

/-- The station's waiting REVISE is withdrawn and reported as not delivered (R112). -/
def State.withdrawRevise (s : State) (k : StationIx) : State :=
  match (s.st k).revise with
  | some r => (s.clearRevise k).withdrawGrant r.slot
  | none => s

/-- A station's coordination state takes a value; a change writes STATION_STATE (R52). -/
def State.setCoord (s : State) (k : StationIx) (new : Coord) (cause : StateCause) : State :=
  if (s.st k).coord = new then s
  else (s.modSt k fun t => { t with coord := new }).emit (.stationState k new cause)

/-- The synchronised flag is cleared, and the projected error and correction direction become absent (R48, R49). -/
def Station.unsynced (t : Station) : Station := { t with synced := false, lastError := none, correction := none }

/-- A station enters FREE (R48). Its STATION_STATE comes before the GRANT_WITHDRAWN of its withdrawn REVISE: at the loss of a link R141
says so; at the end of a RELEASE it is a DESIGN CHOICE, log entry 50 (R43, R48 and R112 do not say). -/
def State.enterFree (s : State) (k : StationIx) (cause : StateCause) : State :=
  (((s.setCoord k .free cause).modSt k (·.unsynced)).withdrawOrder k).withdrawRevise k

/-- A FREE station leaves FREE at an entry to RUNNING or a link's return, when the corridor is RUNNING and its link ONLINE (R47). -/
def State.leaveFree (s : State) (k : StationIx) (cause : StateCause) : State :=
  let t := s.st k
  if s.ps.corridor = .running && t.link = .online && t.coord = .free then
    (s.modSt k fun t => { t.unsynced with jump := true }).setCoord k (if t.hold then .held else .seeking) cause
  else s

/-- The Station Tracker acts on a changed effective hold (R49). A station that becomes HELD writes its STATION_STATE and then its
GRANT_WITHDRAWN records. -/
def State.holdChanged (s : State) (k : StationIx) : State :=
  let t := s.st k
  if s.ps.corridor = .running && t.link = .online then
    if t.hold then
      if t.coordinated then
        (((s.setCoord k .held .hold).modSt k (·.unsynced)).withdrawOrder k).withdrawRevise k
      else s
    else if t.coord = .held then
      (s.modSt k fun t => { t with synced := false, jump := true }).setCoord k .seeking .unhold
    else s
  else s

/-- The Hold Logic recomputes a station's effective hold, and hands a change to the Station Tracker (R53). -/
def State.rehold (s : State) (k : StationIx) : State :=
  let new := s.anySource k
  if (s.st k).hold = new then s
  else (s.modSt k fun t => { t with hold := new }).holdChanged k

/-- The effective hold of every station is recomputed, in ascending index (R52). Each station is done, its withdrawals included, before
the next: DESIGN CHOICE, log entry 43 (R52 orders the STATION_STATE records alone). -/
def State.reholdAll (s : State) : State := s.eachStation (·.rehold)

end Sys2Proof.Machine
end

