-- ==== Sys2Proof/Machine/Requests.lean ====
section
/-! DEFINITION. The request table: departures, emergencies, posting of PREEMPT frames, and displacement (R114, R115, R124, R125,
R127, R129). -/

namespace Sys2Proof.Machine

/-- An order body without the fold that names a slot; it keeps its length and ends (R115). -/
def OrderBody.dropFold (b : OrderBody) (slot : SlotIx) : OrderBody :=
  if b.fold.any (·.slot = slot) then { b with fold := none } else b

/-- A departing entry's outstanding grant frame is let go without a report back: its REVISE is withdrawn, and the order that
carries its fold loses the fold and keeps its length and ends (R115, step 2). -/
def State.letGo (s : State) (e : Entry) : State :=
  if e.outstanding then
    let k := e.station
    let s := if (s.st k).revise.any (·.slot = e.slot) then s.clearRevise k else s
    s.modSt k fun t =>
      { t with order := t.order.map fun o => { o with body := o.body.map (·.dropFold e.slot) } }
  else s

/-- An entry leaves the table: REQUEST_END is written, its frames are let go, and its slot is freed (R115, steps 1, 2 and 4). -/
def State.leave (s : State) (e : Entry) (outcome : ReqOutcome) : State :=
  let s := (s.emit (.requestEnd e.station outcome e.grant e.tag)).letGo e
  let s := if e.posted then s.dropUrgent (·.isPreempt e.slot) else s
  s.removeEntry e.slot

/-- The entry is one for which the ROUTE source holds its station: ACTIVE, of origin ROUTE (R58, Table 4-3). -/
def Entry.holdsRoute (e : Entry) : Bool := e.state = .active && e.origin = .route

/-- The end of a station's ACTIVE route entry is reported to the Hold Logic (R58, R115, step 3). -/
def State.routeEnded (s : State) (k : StationIx) : State := (s.modSt k fun t => { t with routeActive := false }).rehold k

/-- An entry leaves the table, and the end of an ACTIVE route entry is reported to the Hold Logic (R115, less the taking up of step 3). -/
def State.endEntry (s : State) (e : Entry) (outcome : ReqOutcome) : State :=
  let s := s.leave e outcome
  if e.holdsRoute then s.routeEnded e.station else s

/-- The station's ACTIVE TRANSIT entry, if any, ends SUPERSEDED before an emergency becomes ACTIVE there (R124, R127). The emergency is
what the station takes up. -/
def State.supersede (s : State) (k : StationIx) : State :=
  match s.activeTransit k with
  | some e => s.endEntry e .superseded
  | none => s

/-- A route entry's PREEMPT is posted in URGENT (R127). -/
def State.post (s : State) (e : Entry) : State :=
  (s.placeUrgent e.station (.preempt e.slot e.dir e.level e.tag)).modEntry e.slot fun e =>
    { e with posted := true, state := .scheduled }

/-- A posted PREEMPT is removed or withdrawn, and its entry becomes PENDING (R127). -/
def State.unpost (s : State) (e : Entry) : State :=
  (s.dropUrgent (·.isPreempt e.slot)).modEntry e.slot fun e => { e with posted := false, state := .pending }

/-- A STATION-origin emergency becomes ACTIVE, with its seen set flag clear, superseding a transit entry (R124, R125). -/
def State.activateEmergency (s : State) (e : Entry) : State :=
  (s.supersede e.station).modEntry e.slot fun e => { e with state := .active, seen := false }

/-- The station's PENDING emergencies, by higher level first, then earlier in the table (R125). -/
def State.pendingEmergencies (s : State) (k : StationIx) : List Entry :=
  byLevel (s.table.filter fun e => e.station = k && e.cls = .emergency && e.state = .pending)

/-- The station's emergencies are taken up; none when there is none to take (R125). -/
def State.takeUp? (s : State) (k : StationIx) : Option State :=
  if (s.activeEmergency k).isNone && (s.postedAt k).isNone then
    match s.pendingEmergencies k with
    | [] => none
    | e :: _ =>
      match e.origin with
      | .station => some (s.activateEmergency e)
      | .route => if (s.st k).link = .online then some (s.post e) else none
  else none

/-- The station's emergencies are taken up (R125). -/
def State.takeUp (s : State) (k : StationIx) : State := (s.takeUp? k).getD s

/-- A station's waiting requests are taken up after departures: after an ACTIVE entry's its emergencies, and when there is none to
take its transit requests; after a posted one's its emergencies (R115, R125). When the take-up posts a route's PREEMPT the transit
requests are not evaluated, though nothing is ACTIVE yet: DESIGN CHOICE, log entry 49 (R125 evaluates only when no emergency is left to
take; R115 and R119 name the departure without that condition). -/
def State.resume (s : State) (k : StationIx) (active posted : Bool) : State :=
  if active then
    match s.takeUp? k with
    | some s' => s'
    | none => s.evaluateTransit k
  else if posted then s.takeUp k
  else s

/-- The entry in a slot, if any, leaves the table with an outcome; nothing is reported to the Hold Logic or taken up. -/
def State.leaveSlot (s : State) (slot : SlotIx) (outcome : ReqOutcome) : State :=
  match s.entry slot with
  | some e => s.leave e outcome
  | none => s

/-- The entry in a slot leaves the table with an outcome, and the station's waiting requests are taken up (R115). -/
def State.depart (s : State) (slot : SlotIx) (outcome : ReqOutcome) : State :=
  match s.entry slot with
  | some e => (s.endEntry e outcome).resume e.station (e.state = .active) e.posted
  | none => s

/-- The entries that meet `p` leave the table with an outcome, in table order; then the ends of ACTIVE route entries are reported to the
Hold Logic, and then the waiting requests taken up, each for the stations concerned in ascending index, so that the STATION_STATE
records of one event stand in that order (R52, R115, R130, R131, R138; that both follow the last departure: log entry 20). -/
def State.departAll (s : State) (p : Entry → Bool) (outcome : ReqOutcome) : State :=
  let gone := s.table.filter p
  let left := (gone.map (·.slot)).foldl (fun s slot => s.leaveSlot slot outcome) s
  let reported := left.eachStation fun s k => if gone.any (fun e => e.station = k && e.holdsRoute) then s.routeEnded k else s
  reported.eachStation fun s k =>
    let here := gone.filter (·.station = k)
    s.resume k (here.any (·.state = .active)) (here.any (·.posted))

/-- The PENDING TRANSIT entries, oldest first (R129). -/
def State.displaceable (s : State) : List Entry :=
  s.table.filter fun e => e.cls = .transit && e.state = .pending

/-- The `n` oldest PENDING TRANSIT entries end DROPPED (R129). -/
def State.displace (s : State) (n : Nat) : State :=
  ((s.displaceable.take n).map (·.slot)).foldl (fun s slot => s.depart slot .dropped) s

end Sys2Proof.Machine
end

