-- ==== Sys2Proof/Machine/Corridor.lean ====
section
/-! DEFINITION. The Plan Store's part in running the corridor: plan evaluation, the may-run condition, entry to RUNNING, STOPPING and
IDLE, plan take-over; and the loss of a link, which can end a stop (R20 to R24, R36, R39 to R43, R141). -/

namespace Sys2Proof.Machine

/-! ## The tidal ring and the targets as these events leave them -/

/-- The Measurement Unit empties the tidal ring (R77). -/
def State.emptyRing (s : State) : State :=
  { s with mu := { s.mu with ring := [], accIn := 0, accOut := 0, primed := false } }

/-- W_eff takes a plan's W (R76). -/
def State.takeWeight (s : State) (p : Plan) : State := { s with mu := { s.mu with weight := p.weight } }

/-- A station's raw target and T become absent, and its jump flag is set (R60). -/
def Station.clearTarget (t : Station) : Station := { t with raw := none, target := none, jump := true }

/-- A pending minimums change enters force (R3). -/
def Station.enterMins (t : Station) : Station :=
  if t.minsPending then { t with minsInForce := (t.config.map (·.minimums)).getD [], minsPending := false } else t

/-! ## Plan evaluation (R23, R24) -/

/-- A nonzero governing plan that is empty or INVALID is reported once (R24). -/
def State.reject (s : State) (p : Nat) : State :=
  if s.ps.rejection = some p then s
  else
    let (reason, station) := match s.slot p with
      | none => (PlanReason.empty, none)
      | some x => match x.verdict with
        | .valid => (PlanReason.empty, none)
        | .invalid item => (item.reason, item.station)
    let s := s.emit (.planRejected p reason station)
    { s with ps := { s.ps with rejection := some p } }

/-- The rejection mark is cleared (R24). -/
def State.clearRejection (s : State) : State := { s with ps := { s.ps with rejection := none } }

/-- The staged plan takes a value or is cleared (R23). -/
def State.stage (s : State) (p : Option Nat) : State := { s with ps := { s.ps with staged := p } }

/-- Plan evaluation (R23). -/
def State.planEvaluation (s : State) : State :=
  let g := s.governing
  match s.ps.corridor with
  | .stopping => s
  | .idle => if g = 0 || s.planValid g then s.clearRejection else s.reject g
  | .running =>
    if s.ps.active = some g then (s.stage none).clearRejection
    else if g = 0 then s.clearRejection
    else if s.planValid g then (s.stage (some g)).clearRejection
    else s.reject g

/-! ## Entry to RUNNING (R40) -/

/-- The corridor enters RUNNING under the governing plan (R40). -/
def State.enterRunning (s : State) (reason : Reason) : State :=
  let g := s.governing
  match s.slot g with
  | none => s
  | some x =>
    let p := x.plan
    let s := { s with
      ps := { s.ps with corridor := .running, active := some g, staged := none }
      tb := { s.tb with m := s.tb.time % p.cycle } }
    let s := (s.emit (.corridorState .running reason)).emit (.planTaken g 0)
    let s := ((s.modAll fun t => { t with jump := true }).emptyRing).takeWeight p
    s.eachStation fun s k => s.leaveFree k .run

/-! ## Entry to IDLE (R43) -/

/-- The corridor enters IDLE, and the may-run condition is evaluated as the occasion "entry to IDLE" (R43). A master boundary that the
tick raised and that has not been handed on is dropped: DESIGN CHOICE, log entry 6 (R20, R35 and R36 do not say). -/
def State.enterIdle (s : State) : State :=
  let s := { s with
    ps := { s.ps with corridor := .idle, active := none, staged := none }
    tb := { s.tb with m := 0, masterDue := false } }
  let s := (s.modAll fun t => t.enterMins.clearTarget).emptyRing
  let s := (s.emit (.corridorState .idle .stopped)).planEvaluation
  if s.mayRun then s.enterRunning .restart else s

/-- While STOPPING, the corridor enters IDLE when no RELEASE is outstanding (R43). -/
def State.settle (s : State) : State :=
  if s.ps.corridor = .stopping && s.releasesOut = 0 then s.enterIdle else s

/-! ## Entry to STOPPING (R42) -/

/-- The RELEASE order of a station (R109). -/
def State.placeRelease (s : State) (k : StationIx) : State :=
  s.modSt k fun t =>
    { t with order := some {
        number := match t.model with
          | some m => nextNumber m.number
          | none => 0
        body := none, deadline := tickAdd s.now Config.releaseLife, placed := s.now } }

/-- The entry to STOPPING at one station (R42). -/
def State.releaseStation (s : State) (k : StationIx) : State :=
  if (s.st k).coord = .free then s else (s.withdrawOrder k).placeRelease k

/-- An entry that the entry to STOPPING cancels (R131). -/
def Entry.endsAtStop (e : Entry) : Bool :=
  (e.cls = .transit && e.state = .pending) || (e.origin = .route && e.state ≠ .active)

/-- The corridor enters STOPPING, with the reason of the occasion, whichever it is (R42; log entry 42). The stations' orders are withdrawn
in ascending index, so the GRANT_WITHDRAWN records of several folded orders stand in that order: DESIGN CHOICE, log entry 46 (R42 and
R106 give none, and R52 orders the STATION_STATE records alone). The Order Builder's withdrawals come before the Priority Unit's
cancellations: DESIGN CHOICE, log entry 47 (R42 lists the blocks and gives them no order). -/
def State.enterStopping (s : State) (reason : Reason) : State :=
  let s := { s with ps := { s.ps with corridor := .stopping } }
  let s := (s.emit (.corridorState .stopping reason)).stage none
  ((s.eachStation (·.releaseStation)).departAll (·.endsAtStop) .cancelled).settle

/-! ## The occasions (R39) -/

/-- Plan evaluation, and then the may-run condition, at one of the occasions of R39. -/
def State.evaluate (s : State) (reason : Reason) : State :=
  let s := s.planEvaluation
  match s.ps.corridor with
  | .idle => if s.mayRun then s.enterRunning reason else s
  | .running => if s.mayRun then s else s.enterStopping reason
  | .stopping => s

/-! ## Take-over (R36) -/

/-- A waiting cycle order notes that a take-over has fallen since its order point (R107). -/
def Station.noteTakeOver (t : Station) : Station :=
  { t with order := t.order.map fun o => { o with body := o.body.map fun b => { b with takenOver := true } } }

/-- The staged plan `g` is taken over (R36). -/
def State.takeOver (s : State) (g : Nat) : State :=
  let previous := s.ps.active.getD 0
  let s := { s with ps := { s.ps with active := some g, staged := none }, tb := { s.tb with m := 0 } }
  let s := s.emit (.planTaken g previous)
  let s := (s.modAll fun t => t.clearTarget.noteTakeOver).emptyRing
  match s.activePlan with
  | some p => s.takeWeight p
  | none => s

/-! ## Loss of a link (R141) -/

/-- A station's link becomes LOST: the event, the Station Tracker, the frames, and the Measurement Unit, in R141's order. -/
def State.loseLink (s : State) (k : StationIx) (cause : LossCause) : State :=
  let s := (s.modSt k fun t => { t with link := .lost, misses := Config.missLimit }).emit (.linkLost k cause)
  let s := (s.enterFree k .linkLost).modSt k fun t => { t with model := none }
  let s := match s.postedAt k with
    | some e => (s.unpost e).takeUp k
    | none => s
  let s := (s.modSt k fun t => { t with order := none }).dropUrgent (·.station = k)
  let s := s.settle.modSt k fun t => { t with age := Config.sampleLife }
  if s.activePlan.any (·.tidalAt k) then s.emptyRing else s

/-- An exchange of a station that `p` picks has its result discarded (R141). -/
def Exchange.discardIf (p : StationIx → Bool) (x : Exchange) : Exchange :=
  if p x.station then { x with discarded := true } else x

/-- An exchange in progress has its result discarded (R141). -/
def State.discardExchange (s : State) (p : StationIx → Bool) : State :=
  { s with clc := { s.clc with exchange := s.clc.exchange.map (Exchange.discardIf p) } }

/-- A station is given a new drop address, or is loaded for the first time: it is set LOST, and its acknowledge mark and last
failure reset (R8, R136, R141, R143). -/
def State.resetLink (s : State) (k : StationIx) (cause : LossCause) : State :=
  let s := if (s.st k).link = .online then s.loseLink k cause else s
  (s.modSt k fun t =>
    { t with link := .lost, misses := Config.missLimit, ackMark := false, lastFailure := none }).discardExchange (· = k)

end Sys2Proof.Machine
end

