-- ==== Sys2Proof/Machine/Clock.lean ====
section
/-! DEFINITION. The tick, the two boundaries it raises, and the INCIDENT pin (R31 to R36, R56). -/

namespace Sys2Proof.Machine

/-- The time of day and the day after one tick (R32). -/
def TimeBase.advanceClock (tb : TimeBase) : TimeBase :=
  if tb.time + 1 = Config.dayTicks then { tb with time := 0, day := if tb.day = 7 then 1 else tb.day + 1 }
  else { tb with time := tb.time + 1 }

/-- The master cycle time after one tick under a cycle length, with the master boundary that its return to 0 raises (R35). -/
def TimeBase.advanceMaster (tb : TimeBase) : Option Nat → TimeBase
  | some c => if c ≤ tb.m + 1 then { tb with m := 0, masterDue := true } else { tb with m := tb.m + 1, masterDue := false }
  | none => { tb with masterDue := false }

/-- The cycle length under which the master cycle time advances: the active plan's, which is present while RUNNING or STOPPING
(R20, R35). -/
def State.masterCycle (s : State) : Option Nat :=
  match s.ps.corridor with
  | .idle => none
  | .running | .stopping => s.activePlan.map (·.cycle)

/-- A tick: the tick count, the time of day and the day, and the master cycle time advance, the boundaries are raised, and the
tick's slot begins (R31, R32, R33, R35, R133). -/
def State.advance (s : State) : State :=
  let tb := { s.tb with tick := s.tb.tick + 1 }.advanceClock
  let tb := { tb with minuteDue := tb.clockSet && tb.time % Config.minuteTicks == 0 }
  { s with tb := tb.advanceMaster s.masterCycle, clc := { s.clc with slotOpen := true, resynced := none } }

/-- TICK (R31). -/
def execTick (s : State) : Host.Outcome State Fault Refusal := .next s.advance

/-- MINUTE_BOUNDARY (R33): the boundary that the tick raised is handed to the Plan Store. -/
def execMinuteBoundary (s : State) : Host.Outcome State Fault Refusal :=
  if s.tb.minuteDue then .next (({ s with tb := { s.tb with minuteDue := false } }).evaluate .minute)
  else .next s

/-- MASTER_BOUNDARY (R36): the boundary that the tick raised is handed to the Plan Store, which takes a staged plan over. -/
def execMasterBoundary (s : State) : Host.Outcome State Fault Refusal :=
  if s.tb.masterDue then
    let s := { s with tb := { s.tb with masterDue := false } }
    match s.ps.staged with
    | some g => .next (s.takeOver g)
    | none => .next s
  else .next s

/-- INCIDENT_CHANGE (R56): a level that differs from the one last taken is taken, and every effective hold recomputed. -/
def execIncidentChange (level : Bool) (s : State) : Host.Outcome State Fault Refusal :=
  if level = s.hl.level then .next s
  else .next (({ s with hl := { s.hl with level } }).reholdAll)

end Sys2Proof.Machine
end

