-- ==== Sys2Proof/Machine/Offsets.lean ====
section
/-! DEFINITION. The Offset Engine: platoon chains, queue advance, band weighting and smoothing (Chapter 5). -/

namespace Sys2Proof.Machine

/-! ## Platoon chains (R63, R64) -/

/-- t_in of link `j`, 0 where there is none. -/
def State.tIn (s : State) (j : Nat) : Nat := ((s.linkAt j).map (·.tIn)).getD 0

/-- t_out of link `j`, 0 where there is none. -/
def State.tOut (s : State) (j : Nat) : Nat := ((s.linkAt j).map (·.tOut)).getD 0

/-- The sum of a link time over links `a` to `b` − 1; 0 when `b` is not above `a`. -/
def linkSum (f : Nat → Nat) (a b : Nat) : Nat := ((List.range' a (b - a)).map f).sum

/-- P(k): B plus the inbound times of links r to k − 1 for k above r, and B less those of links k to r − 1 for k below r,
modulo C (R63). -/
def State.inboundChain (s : State) (p : Plan) (k : Nat) : Nat :=
  modulo ((p.base : Int) + linkSum s.tIn p.ref k - linkSum s.tIn k p.ref) p.cycle

/-- Q(k): B plus the outbound times of links k to r − 1 for k below r, and B less those of links r to k − 1 for k above r,
modulo C (R64). -/
def State.outboundChain (s : State) (p : Plan) (k : Nat) : Nat :=
  modulo ((p.base : Int) + linkSum s.tOut k p.ref - linkSum s.tOut p.ref k) p.cycle

/-! ## Queue advance and ideal offsets (R65, R66, R67) -/

/-- The least of a queue's discharge time, the advance cap, and the link time where a link within the corridor brings the
platoon. -/
def leastAdvance (discharge cap : Nat) (link : Option Nat) : Nat :=
  let a := min discharge cap
  match link with
  | some t => min a t
  | none => a

/-- adv_in(k) (R65). -/
def State.advanceIn (s : State) (p : Plan) (k : StationIx) : Nat :=
  let t := s.st k
  let headway := (t.config.map (·.headwayIn)).getD 0
  leastAdvance (t.countedIn * headway) p.advanceCap (if k.val = 0 then none else some (s.tIn (k.val - 1)))

/-- adv_out(k) (R66). -/
def State.advanceOut (s : State) (p : Plan) (k : StationIx) : Nat :=
  let t := s.st k
  let headway := (t.config.map (·.headwayOut)).getD 0
  leastAdvance (t.countedOut * headway) p.advanceCap
    (if s.count.any (k.val + 1 < ·) then some (s.tOut k.val) else none)

/-- I(k) (R67). -/
def State.idealIn (s : State) (p : Plan) (k : StationIx) : Nat :=
  modulo ((s.inboundChain p k.val : Int) - s.advanceIn p k) p.cycle

/-- O(k) (R67). -/
def State.idealOut (s : State) (p : Plan) (k : StationIx) : Nat :=
  modulo ((s.outboundChain p k.val : Int) - s.advanceOut p k) p.cycle

/-! ## Band weighting (R68, R69, R70) -/

/-- The inbound share used, by band mode (Table 5-3). -/
def State.inboundShare (s : State) (p : Plan) : Nat :=
  match p.mode with
  | .inbound => 100
  | .outbound => 0
  | .weighted => p.weight
  | .tidal => s.mu.weight

/-- The weighted offset of two ideal offsets (R69). -/
def weightedOffset (C share i o : Nat) : Nat :=
  let δ := circDiff C ((o : Int) - i)
  let shift := roundPercent ((100 - (share : Int)) * δ)
  modulo ((i : Int) + shift) C

/-- The raw target of station `k` (R70). -/
def State.rawTarget (s : State) (p : Plan) (k : StationIx) : Nat :=
  weightedOffset p.cycle (s.inboundShare p) (s.idealIn p k) (s.idealOut p k) % p.localCycle k

/-! ## Smoothing (R71) -/

/-- T after an order point: the raw target whole when the jump flag is set or T is absent, and otherwise T moved toward it by
at most the step limit (R71). -/
def smoothed (Cl step raw : Nat) (jump : Bool) (target : Option Nat) : Nat :=
  match target with
  | none => raw
  | some t =>
    if jump then raw
    else
      let e := circDiff Cl ((raw : Int) - t)
      if e > step then modulo ((t : Int) + step) Cl
      else if e < -(step : Int) then modulo ((t : Int) - step) Cl
      else raw

/-- The Offset Engine's part of an order point: the raw target, and T moved (R62). The jump flag is then clear: it was cleared now or
earlier (R71). -/
def State.moveTarget (s : State) (p : Plan) (k : StationIx) : State :=
  let raw := s.rawTarget p k
  s.modSt k fun t =>
    { t with raw := some raw, target := some (smoothed (p.localCycle k) p.stepLimit raw t.jump t.target), jump := false }

end Sys2Proof.Machine
end

