-- ==== Sys2Proof/Machine/Tracker.lean ====
section
/-! DEFINITION. The cycle model: local zeros, what they hand on, orders and revisions recorded in it, creation and
resynchronisation (R74, R78, R79, R81 to R87, R96 to R98, R107, R112). -/

namespace Sys2Proof.Machine

/-- A station's cycle model changed by `f`, where it is present. -/
def State.modModel (s : State) (k : StationIx) (f : CycleModel → CycleModel) : State :=
  s.modSt k fun t => { t with model := t.model.map f }

/-! ## What a zero hands on (R85) -/

/-- The tidal evaluation made after a push (R79). -/
def State.tidalEvaluation (s : State) : State :=
  let inSum := (s.mu.ring.map (·.1)).sum
  let total := inSum + (s.mu.ring.map (·.2)).sum
  if s.mu.ring.length < 4 || total < 20 then s
  else
    let measured := (200 * inSum + total) / (2 * total)
    if 15 ≤ ((measured : Int) - s.mu.weight).natAbs then
      let new := 5 * ((measured + 2) / 5)
      ({ s with mu := { s.mu with weight := new } }).emit (.tidal new measured)
    else s

/-- A local zero of the tidal station primes the accumulators, or pushes their pair into the ring (R78). -/
def State.tidalZero (s : State) : State :=
  let cleared := { s.mu with accIn := 0, accOut := 0 }
  if s.mu.primed then
    let ring := if s.mu.ring.length < 4 then s.mu.ring else s.mu.ring.drop (s.mu.ring.length - 3)
    ({ s with mu := { cleared with ring := ring ++ [(s.mu.accIn, s.mu.accOut)] } }).tidalEvaluation
  else { s with mu := { cleared with primed := true } }

/-- A zero is handed on: the Measurement Unit ages the queue sample and closes the tidal cycle, and the Priority Unit lowers the
lockout count and reviews the requests (R74, R78, R85, R121). -/
def State.handOn (s : State) (k : StationIx) : State :=
  let s := s.modSt k fun t => { t with age := min Config.sampleLife (t.age + 1) }
  let s := if s.activePlan.any (·.tidalAt k) then s.tidalZero else s
  (s.modSt k fun t => { t with lockout := t.lockout - 1 }).evaluateTransit k

/-! ## Local zeros (R84) -/

/-- The model after a local zero with the new cycle number at a tick: an ordered next for that number is adopted, and any
is discarded (R84). -/
def CycleModel.zero (m : CycleModel) (number : Byte) (tick : Tick) : CycleModel :=
  { m with
    zeroTick := tick, number, lastZero := number, next := none
    basis := match m.next with
      | some nx => if nx.number = number then .order nx.course else m.basis
      | none => m.basis }

/-- A local zero with the new cycle number at a tick, handed on when the number differs from the last zero number (R84, R85). -/
def State.takeZero (s : State) (k : StationIx) (m : CycleModel) (number : Byte) (tick : Tick) : State :=
  let s := s.modSt k fun t => { t with model := some (m.zero number tick) }
  if number = m.lastZero then s else s.handOn k

/-! ## Rebuilding a waiting order after a resynchronisation (R107) -/

/-- A waiting order is rebuilt against the model as it stands: the error projected again, the transition computed again with the
order's plan, and the fold taken again (R90, R107, R120). -/
def State.rebuildOrder (s : State) (k : StationIx) (o : WaitingOrder) (b : OrderBody) (p : Plan) (zero : Tick) : State :=
  let d := projectedError p.cycle (p.localCycle k) s.tb.m b.target (tickDiff zero s.now)
  let tr := transition p k (s.st k).minsInForce d
  let s := s.modSt k fun t => { t with lastError := some d, correction := some tr.correction }
  let (s, ivs, fold) := match b.fold with
    | none => s.offerFold k p zero tr.intervals
    | some f => s.refold k p zero tr.intervals f
  s.modSt k fun t =>
    { t with order := some { o with
        body := some { b with course := .ofIntervals ivs, fold }, deadline := tickAdd zero (-(Config.orderDeadlineLead : Int)) } }

/-- What a resynchronisation does to the station's waiting cycle order (R107). -/
def State.orderAfterResync (s : State) (k : StationIx) : State :=
  let t := s.st k
  match t.order, t.model with
  | some o, some m =>
    match o.body with
    | none => s
    | some b =>
      let absent := s.modSt k fun t => { t with order := none }
      if o.number ≠ nextNumber m.number then (absent.emit (.orderLate k o.number .overtaken)).foldLost b.fold
      else match m.nextZero with
        | none => s
        | some zero =>
          let deadline := tickAdd zero (-(Config.orderDeadlineLead : Int))
          if !reached deadline s.now then (absent.emit (.orderLate k o.number .deadline)).foldLost b.fold
          else if b.takenOver then s.modSt k fun t => { t with order := some { o with deadline } }
          else match s.slot b.plan with
            | some x => s.rebuildOrder k o b x.plan zero
            | none => s
  | _, _ => s

/-- What a resynchronisation does to the station's waiting REVISE (R112). -/
def State.reviseAfterResync (s : State) (k : StationIx) : State :=
  let t := s.st k
  match t.revise, t.model with
  | some r, some m =>
    let latest := tickAdd m.zeroTick r.offset
    if r.number ≠ m.number || !reached latest s.now then s.withdrawRevise k
    else s.modSt k fun t => { t with revise := some { r with latest } }
  | _, _ => s

/-! ## Creation and comparison (R83, R96, R97, R98) -/

/-- The basis PLAN under the active plan, NONE where no plan is active (R82, R83). -/
def State.planBasis (s : State) (k : StationIx) : Basis :=
  match s.activePlan with
  | some p => .plan (p.course k)
  | none => .none

/-- An absent model is created from a reply's cycle part; for a SEEKING station the creation synchronises (R83). -/
def State.createModel (s : State) (k : StationIx) (tick : Tick) (number : Byte) (time : Nat) : State :=
  let basis := match s.ps.corridor with
    | .idle => .none
    | .running | .stopping => s.planBasis k
  s.modSt k fun t =>
    { t with
      model := some { zeroTick := tickAdd tick (-(time : Int)), number, basis, lastZero := number, mark := none, next := none }
      synced := t.synced || t.coord = .seeking }

/-- The number step of R96, from −127 to +128. -/
def numberStep (reported model : Byte) : Int := circDiff 256 ((reported.toNat : Int) - model.toNat)

/-- The time difference of R96. -/
def CycleModel.timeDifference (m : CycleModel) (tick : Tick) (time : Nat) : Int :=
  match m.basis.course with
  | some c => circDiff c.length ((time : Int) - m.localTime tick)
  | none => (time : Int) - m.localTime tick

/-- Station `k`'s model was resynchronised in the present tick (R97); a late result marks nothing. -/
def State.markResync (s : State) (k : StationIx) (tick : Tick) : State :=
  if tick = s.now then { s with clc := { s.clc with resynced := some k } } else s

/-- A resynchronisation of the model: the steps of R97, the DRIFT of R98 when the flag was set before the reply, the synchronised
flag of R51, and then the Order Builder's part (R107, R112). The flag is set after the zero of a forward step and the DRIFT
(log entry 41). R51's synchronising reply finds the flag clear, and writes no DRIFT; `wasSynced` is read where log entry 23 says.
Of a waiting order and a waiting REVISE the Order Builder acts on the order first: DESIGN CHOICE, log entry 48 (R107 and R112 give them
no order). -/
def State.resync (s : State) (k : StationIx) (m : CycleModel) (tick : Tick) (number : Byte) (time : Nat) (wasSynced : Bool) :
    State :=
  let step := numberStep number m.number
  let difference := m.timeDifference tick time
  let s :=
    if 0 < step then s.takeZero k m number tick
    else if step < 0 then s.modModel k fun m => { m with number, next := none }
    else s
  let basis := s.planBasis k
  let s := s.modModel k fun m =>
    { m with
      zeroTick := tickAdd tick (-(time : Int))
      basis := if m.basis = .none then basis else m.basis }
  let s := if wasSynced then s.emit (.drift k difference step) else s
  let s := s.modSt k fun t => { t with synced := t.synced || t.coord = .seeking }
  ((s.markResync k tick).orderAfterResync k).reviseAfterResync k

/-- The cycle part of an accepted reply: the model is created, compared, and resynchronised in the four cases of R96. `wasSynced` is
the synchronised flag before the reply (R98). -/
def State.cyclePart (s : State) (k : StationIx) (tick : Tick) (number : Byte) (time : Nat) (wasSynced : Bool) : State :=
  let t := s.st k
  match t.model with
  | none => s.createModel k tick number time
  | some m =>
    if numberStep number m.number ≠ 0
        || Config.driftTolerance < (m.timeDifference tick time).natAbs
        || (t.coord = .seeking && !t.synced)
        || (m.basis = .none && s.activePlan.isSome) then
      s.resync k m tick number time wasSynced
    else s

/-! ## Deliveries recorded in the model (R86, R87) -/

/-- A delivered cycle order becomes the ordered next, when its number is the model's next (R86). -/
def CycleModel.ordered (m : CycleModel) (number : Byte) (course : Course) : CycleModel :=
  if number = nextNumber m.number then { m with next := some { number, course } } else m

/-- A delivered RELEASE returns the basis to NONE (R86). -/
def CycleModel.released (m : CycleModel) : CycleModel := { m with basis := .none, next := none }

/-- A delivered REVISE replaces the current length and ends, with basis ORDER (R87). -/
def CycleModel.revised (m : CycleModel) (course : Course) : CycleModel := { m with basis := .order course }

end Sys2Proof.Machine
end

