-- ==== Sys2Proof/Machine/Cycle.lean ====
section
/-! DEFINITION. The events of a station's cycle: the local zero, the order point and the order it builds, the order deadline, and a
REVISE's latest tick (R84, R88, R89, R101, R105, R112). -/

namespace Sys2Proof.Machine

/-- LOCAL_ZERO (R84): the modelled local time is L or more. A zero that a resynchronisation made due falls at the following tick
(R97). -/
def execLocalZero (k : StationIx) (s : State) : Host.Outcome State Fault Refusal :=
  match (s.st k).model with
  | none => .next s
  | some m =>
    match m.basis.course with
    | none => .next s
    | some c =>
      if (c.length : Int) ≤ m.localTime s.now && s.clc.resynced ≠ some k then
        .next (s.takeZero k m (nextNumber m.number) s.now)
      else .next s

/-- The projected error of station `k`'s zero at `zero` against its T, the correction direction and the coordination state that the
error decides (R50, R90, R91). -/
def State.project (s : State) (k : StationIx) (p : Plan) (d : Nat) (tr : Transition) : State :=
  (s.modSt k fun t => { t with lastError := some d, correction := some tr.correction }).setCoord k
    (if withinTolerance (p.localCycle k) d then .inStep else .seeking) .orderPoint

/-- A cycle order joins the ORDER set as the station's waiting order (R101, steps 5 and 6). -/
def State.placeOrder (s : State) (k : StationIx) (number : Byte) (zero : Tick) (plan target : Nat) (intervals : List Nat)
    (fold : Option Fold) : State :=
  s.modSt k fun t =>
    { t with order := some {
        number
        body := some { course := .ofIntervals intervals, plan, target, fold, takenOver := false }
        deadline := tickAdd zero (-(Config.orderDeadlineLead : Int)), placed := s.now } }

/-- The cycle order of the next cycle is built under the active plan (R101). -/
def State.buildOrder (s : State) (k : StationIx) (plan : Nat) (p : Plan) (number : Byte) (zero : Tick) : State :=
  let s := (s.modSt k (·.enterMins)).moveTarget p k
  let t := s.st k
  let target := t.target.getD 0
  let d := projectedError p.cycle (p.localCycle k) s.tb.m target (tickDiff zero s.now)
  let tr := transition p k t.minsInForce d
  let (s, intervals, fold) := (s.project k p d tr).offerFold k p zero tr.intervals
  s.placeOrder k number zero plan target intervals fold

/-- What the Station Tracker does at an order point (R89). -/
def State.raiseOrderPoint (s : State) (k : StationIx) (number : Byte) (zero : Tick) : State :=
  if s.ps.corridor = .running && (s.st k).synced then
    match s.ps.active, s.activePlan with
    | some plan, some p => s.buildOrder k plan p number zero
    | _, _ => s
  else s.modSt k (·.enterMins)

/-- The conditions of R88 for an order point, with the model's length `L`. -/
def State.orderPointHolds (s : State) (k : StationIx) (m : CycleModel) (L : Nat) : Bool :=
  (s.st k).coordinated
    && (L : Int) - Config.orderPointLead ≤ m.localTime s.now
    && m.mark ≠ some (nextNumber m.number)

/-- ORDER_POINT (R88): the order mark takes the next cycle number, and the order point is raised when the next zero lies more than 5
ticks ahead. -/
def execOrderPoint (k : StationIx) (s : State) : Host.Outcome State Fault Refusal :=
  match (s.st k).model with
  | none => .next s
  | some m =>
    match m.basis.course with
    | none => .next s
    | some c =>
      if s.orderPointHolds k m c.length then
        let number := nextNumber m.number
        let zero := tickAdd m.zeroTick c.length
        let s := s.modModel k fun m => { m with mark := some number }
        if (Config.orderDeadlineLead : Int) < tickDiff zero s.now then .next (s.raiseOrderPoint k number zero)
        else .next s
      else .next s

/-- A waiting order is dropped at its deadline (R105); a RELEASE so dropped has ended, and its station becomes FREE (R43, R109). -/
def State.dropOrder (s : State) (k : StationIx) (o : WaitingOrder) : State :=
  let absent := s.modSt k fun t => { t with order := none }
  match o.body with
  | some b => (absent.emit (.orderLate k o.number .deadline)).foldLost b.fold
  | none => ((absent.emit (.orderLate k o.number .release)).enterFree k .released).settle

/-- ORDER_DEADLINE_PASSED (R105). -/
def execOrderDeadlinePassed (k : StationIx) (s : State) : Host.Outcome State Fault Refusal :=
  match (s.st k).order with
  | some o => if reached s.now o.deadline && s.slotOver then .next (s.dropOrder k o) else .next s
  | none => .next s

/-- REVISE_LATEST_TICK_PASSED (R112). -/
def execReviseLatestTickPassed (k : StationIx) (s : State) : Host.Outcome State Fault Refusal :=
  match (s.st k).revise with
  | some r => if reached s.now r.latest && s.slotOver then .next (s.withdrawRevise k) else .next s
  | none => .next s

end Sys2Proof.Machine
end

