-- ==== Sys2Proof/Machine/Frames.lean ====
section
/-! DEFINITION. Frames of the corridor link as bytes: the controller's frames and the reading of a status reply (R134 to R136). -/

namespace Sys2Proof.Machine

/-! ## The controller's frames (Tables 9-1 to 9-4) -/

/-- A corridor frame: sync, drop address, kind, length, payload and check (Table 9-1). -/
def corridorWire (drop : Nat) (kind : Byte) (payload : List Byte) : List Byte :=
  let body := be8 drop ++ [kind] ++ be8 payload.length ++ payload
  0x5C :: body ++ be16 (crc body).toNat

/-- The kind code and payload of a frame (Tables 9-1 to 9-4). A REVISE carries neither its kind nor its slot (R135). -/
def SentFrame.content : SentFrame → Byte × List Byte
  | .poll => (0x01, [])
  | .order o =>
    match o.body with
    | some b => (0x02, [o.number, 0] ++ be8 b.course.ends.length ++ be16 b.course.length ++ b.course.ends.flatMap be16)
    | none => (0x02, [o.number, 1, 0])
  | .revise r _ => (0x03, [r.number] ++ be8 r.course.ends.length ++ be16 r.course.length ++ r.course.ends.flatMap be16)
  | .preempt _ f =>
    match f.kind with
    | .preempt _ dir level tag => (0x04, be8 dir.code ++ be8 level ++ be16 tag.toNat)
    | .revise => (0x04, [])

/-- The acknowledge mark in bit 7 of a kind byte (R143). -/
def ackBit (mark : Bool) : Byte := if mark then 0x80 else 0

/-- The bytes of a frame sent to a drop address with the acknowledge mark as it stands (R135). -/
def SentFrame.wire (f : SentFrame) (drop : Nat) (mark : Bool) : List Byte :=
  corridorWire drop (f.content.1 ||| ackBit mark) f.content.2

/-! ## Status replies (Tables 9-5 and 9-6) -/

/-- A notice of a reply (Table 9-5). -/
structure Notice where
  cls : Nat
  level : Nat
  dir : Nat
  tag : Word16
  eta : Nat
  deriving DecidableEq, Repr

/-- The payload of a STATUS reply (Table 9-5). -/
structure Status where
  number : Byte
  time : Nat
  phase : Nat
  manual : Bool
  preempt : Bool
  queueIn : Nat
  queueOut : Nat
  latched : Byte
  countIn : Nat
  countOut : Nat
  notices : List Notice
  checkOuts : List Word16
  deriving DecidableEq, Repr

/-- The notice at an offset of a payload. -/
def readNotice (p : List Byte) (i : Nat) : Notice where
  cls := rd8 p i
  level := rd8 p (i + 1)
  dir := rd8 p (i + 2)
  tag := .ofNat 16 (rd16 p (i + 3))
  eta := rd8 p (i + 5)

/-- The fields of a payload with `a` notices and `b` check-outs (Table 9-5). -/
def readStatus (p : List Byte) (a b : Nat) : Status where
  number := p.getD 0 0
  time := rd16 p 1
  phase := rd8 p 3
  manual := (p.getD 4 0).getLsbD 0
  preempt := (p.getD 4 0).getLsbD 1
  queueIn := rd8 p 5
  queueOut := rd8 p 6
  latched := p.getD 7 0
  countIn := rd16 p 8
  countOut := rd16 p 10
  notices := (List.range a).map fun i => readNotice p (13 + 6 * i)
  checkOuts := (List.range b).map fun i => .ofNat 16 (rd16 p (14 + 6 * a + 2 * i))

/-- The FORMAT check of a payload, and its fields (Table 9-6). -/
def parseStatus (p : List Byte) : Option Status :=
  let a := rd8 p 12
  let b := rd8 p (13 + 6 * a)
  if a ≤ 2 ∧ b ≤ 2 ∧ p.length = 14 + 6 * a + 2 * b then some (readStatus p a b) else none

/-- What follows the first 0x5C heard in the slot (R134). -/
def afterSync : List Byte → Option (List Byte)
  | [] => none
  | b :: bs => if b = 0x5C then some bs else afterSync bs

/-- The checks of Table 9-6 on what was heard, in order, from a station at a drop address with `n` phases. The kind code is bits 0 to 6
of the kind byte (Table 9-1). -/
def readReply (drop n : Nat) (heard : List Byte) : Except FailureCause Status :=
  match afterSync heard with
  | none => .error .noReply
  | some bs =>
    let length := rd8 bs 2
    if 64 < length ∨ bs.length < length + 5 then .error .truncated
    else if rd16 bs (length + 3) ≠ (crc (bs.take (length + 3))).toNat then .error .check
    else if rd8 bs 0 ≠ drop then .error .address
    else if rd8 bs 1 % 128 ≠ 0x10 then .error .kind
    else match parseStatus ((bs.drop 3).take length) with
      | none => .error .format
      | some r => if 1 ≤ r.phase ∧ r.phase ≤ n then .ok r else .error .phase

end Sys2Proof.Machine
end

