-- ==== Sys2Proof/Machine/Arbiter.lean ====
section
/-! DEFINITION. The start of a slot: the arbiter and the exchange it begins (R133, R139, R140). -/

namespace Sys2Proof.Machine

/-- Station `k` is loaded. -/
def State.loaded (s : State) (k : StationIx) : Bool := (s.st k).config.isSome

/-- At least one station of the corridor is loaded (R133). -/
def State.anyLoaded (s : State) : Bool := allStations.any s.loaded

/-- What a frame of URGENT sends, while its last tick has not passed and it was placed before the present tick (R112, R133). -/
def State.urgentContent (s : State) (f : UrgentFrame) : Option SentFrame :=
  if f.placed = s.now then none
  else match f.kind with
    | .revise => (s.st f.station).revise.bind fun r => if reached r.latest s.now then some (.revise r f) else none
    | .preempt slot _ _ _ => some (.preempt slot f)

/-- The first frame of URGENT that is offered in the present slot (R140). -/
def State.urgentOffer (s : State) : Option (StationIx × SentFrame) :=
  s.clc.urgent.findSome? fun f => (s.urgentContent f).map fun x => (f.station, x)

/-- The waiting order that is offered in the present slot: placed before the present tick, its deadline not passed (R104, R133). -/
def State.offeredOrder (s : State) (k : StationIx) : Option WaitingOrder :=
  (s.st k).order.bind fun o => if o.placed ≠ s.now && reached o.deadline s.now then some o else none

/-- The better of the order chosen so far and station `k`'s: the earlier deadline, and the lower index among equals (R140). -/
def State.earlierOrder (s : State) (best : Option (StationIx × WaitingOrder)) (k : StationIx) :
    Option (StationIx × WaitingOrder) :=
  match s.offeredOrder k, best with
  | none, _ => best
  | some o, none => some (k, o)
  | some o, some b => if 0 < tickDiff b.2.deadline o.deadline then some (k, o) else best

/-- The frame of ORDER that is offered in the present slot (R140). -/
def State.orderOffer (s : State) : Option (StationIx × SentFrame) :=
  (allStations.foldl s.earlierOrder none).map fun x => (x.1, .order x.2)

/-- The station that ROUTINE polls: the first loaded station at or after the polling pointer, wrapping (R140). -/
def State.pollStation (s : State) : Option StationIx :=
  (allStations.filter (fun k => s.clc.pollPtr ≤ k.val) ++ allStations.filter (fun k => k.val < s.clc.pollPtr)).find? s.loaded

/-- The frame that URGENT, or else ORDER, offers while the non-routine count is below 3 (R139). -/
def State.nonRoutineOffer (s : State) : Option (StationIx × SentFrame) :=
  if s.clc.nonRoutine < Config.nonRoutineLimit then s.urgentOffer.or s.orderOffer else none

/-- An exchange begins: the frame is sent with the drop address and the acknowledge mark as they stand (R133, R135, R143). -/
def State.beginExchange (s : State) (k : StationIx) (frame : SentFrame) : State :=
  let t := s.st k
  { s with clc := { s.clc with exchange := some {
      station := k, frame, slotTick := s.now, bytes := frame.wire ((t.config.map (·.drop)).getD 0) t.ackMark
      discarded := false } } }

/-- A slot given to URGENT or ORDER raises the non-routine count (R139). -/
def State.countNonRoutine (s : State) : State :=
  { s with clc := { s.clc with nonRoutine := s.clc.nonRoutine + 1 } }

/-- A slot given to ROUTINE sets the count to 0 and moves the polling pointer past the station polled (R139, R140). -/
def State.countRoutine (s : State) (k : StationIx) : State :=
  { s with clc := { s.clc with nonRoutine := 0, pollPtr := (k.val + 1) % s.count.getD 16 } }

/-- The arbiter chooses the slot's frame, and the exchange begins (R139, R140). -/
def State.startSlot (s : State) : State :=
  match s.nonRoutineOffer with
  | some (k, f) => s.countNonRoutine.beginExchange k f
  | none =>
    match s.pollStation with
    | some k => (s.countRoutine k).beginExchange k .poll
    | none => s

/-- SLOT_START (R133, R139): the slot of the present tick begins; it carries an exchange while a station is loaded. -/
def execSlotStart (s : State) : Host.Outcome State Fault Refusal :=
  if s.clc.slotOpen && s.clc.exchange.isNone then
    let s := { s with clc := { s.clc with slotOpen := false } }
    if s.anyLoaded then .next s.startSlot else .next s
  else .next s

end Sys2Proof.Machine
end

