-- ==== Sys2Proof/Machine/Exchange.lean ====
section
/-! DEFINITION. The end of an exchange: the frame's delivery, the link state, and the parts of an accepted reply (R137). -/

namespace Sys2Proof.Machine

/-! ## Step 1: the frame carried (R104, R109, R112, R127, R137) -/

/-- The order that the exchange carried is still the station's waiting order. -/
def State.stillWaiting (s : State) (k : StationIx) (o : WaitingOrder) : Bool :=
  (s.st k).order.any fun w => w.placed = o.placed && w.release = o.release

/-- A delivered order is no longer waiting. -/
def State.clearOrder (s : State) (k : StationIx) (waiting : Bool) : State :=
  if waiting then s.modSt k fun t => { t with order := none } else s

/-- A cycle order is delivered, to the Station Tracker and for its fold to the Priority Unit, even when it was withdrawn while its
exchange ran (R86, R104, R106). -/
def State.deliverOrder (s : State) (k : StationIx) (o : WaitingOrder) (b : OrderBody) : State :=
  let waiting := s.stillWaiting k o
  let fold := if waiting then ((s.st k).order.bind (·.body)).bind (·.fold) else b.fold
  ((s.clearOrder k waiting).modModel k (·.ordered o.number b.course)).foldDelivered fold

/-- A RELEASE is delivered: the model's basis returns to NONE, and the station's RELEASE has ended (R43, R86, R109). -/
def State.deliverRelease (s : State) (k : StationIx) (o : WaitingOrder) : State :=
  let waiting := s.stillWaiting k o
  let s := (s.clearOrder k waiting).modModel k (·.released)
  if waiting then (s.enterFree k .released).settle else s

/-- The deadline of a waiting cycle order for the model's next cycle follows the modelled next zero (R87; that L, ends and fold stay
as built: log entry 40). -/
def State.retimeOrder (s : State) (k : StationIx) : State :=
  match (s.st k).order, (s.st k).model with
  | some o, some m =>
    match m.nextZero with
    | some zero =>
      if !o.release && o.number = nextNumber m.number then
        s.modSt k fun t => { t with order := some { o with deadline := tickAdd zero (-(Config.orderDeadlineLead : Int)) } }
      else s
    | none => s
  | _, _ => s

/-- A REVISE is delivered: the model takes its length and ends when the cycle number is the model's, and a waiting order's deadline
follows the moved zero; otherwise the grant is reported as not delivered (R87, R112). -/
def State.deliverRevise (s : State) (k : StationIx) (r : WaitingRevise) (f : UrgentFrame) : State :=
  let s := if s.clc.urgent.contains f then s.clearRevise k else s
  if (s.st k).model.any (·.number = r.number) then ((s.modModel k (·.revised r.course)).retimeOrder k).grantDelivered r.slot
  else s.withdrawGrant r.slot

/-- A PREEMPT is delivered while its entry is still posted: the station's ACTIVE transit entry is superseded, the entry becomes ACTIVE,
and the ROUTE source holds the station (R58, R127, R137). -/
def State.deliverPreempt (s : State) (slot : SlotIx) (f : UrgentFrame) (tick : Tick) : State :=
  match s.entry slot with
  | some e =>
    if e.posted && s.clc.urgent.contains f then
      let s := ((s.dropUrgent (·.isPreempt slot)).supersede e.station).modEntry slot fun e =>
        { e with state := .active, seen := false, posted := false, delivered := some tick }
      (s.modSt e.station fun t => { t with routeActive := true }).rehold e.station
    else s
  | none => s

/-- The frame of a successful exchange is reported as delivered (R137, step 1). -/
def State.deliver (s : State) (x : Exchange) : State :=
  match x.frame with
  | .poll => s
  | .order o =>
    match o.body with
    | some b => s.deliverOrder x.station o b
    | none => s.deliverRelease x.station o
  | .revise r f => s.deliverRevise x.station r f
  | .preempt slot f => s.deliverPreempt slot f x.slotTick

/-! ## Step 2: the link state (R136, R141 to R143) -/

/-- The causes that clear the acknowledge mark: a reply arrived and was not accepted (R143). -/
def FailureCause.clearsMark : FailureCause → Bool
  | .truncated | .check | .kind | .format | .phase => true
  | .noReply | .address => false

/-- A failed exchange: the last failure, the acknowledge mark and the miss count, and the loss of the link at the third (R136, R141,
R143). -/
def State.exchangeFailed (s : State) (k : StationIx) (cause : FailureCause) : State :=
  let s := s.modSt k fun t => { t with lastFailure := some cause, ackMark := t.ackMark && !cause.clearsMark }
  if (s.st k).misses + 1 = Config.missLimit then s.loseLink k .misses
  else s.modSt k fun t => { t with misses := min Config.missLimit (t.misses + 1) }

/-- A successful exchange sets the miss count to 0, makes a LOST station ONLINE, and sets the acknowledge mark (R142, R143). -/
def State.linkSuccess (s : State) (k : StationIx) : State :=
  let wasLost := (s.st k).link = .lost
  let s := s.modSt k fun t => { t with link := .online, misses := 0, ackMark := true }
  if wasLost then s.emit (.linkBack k) else s

/-! ## Step 3: the reply's parts (R137) -/

/-- The flags go to the Hold Logic (R55). -/
def State.takeFlags (s : State) (k : StationIx) (r : Status) : State :=
  (s.modSt k fun t => { t with manualFlag := r.manual, preemptFlag := r.preempt }).rehold k

/-- A returning link is handed to the Station Tracker, and to the Priority Unit (R47, R125, R142). -/
def State.linkReturn (s : State) (k : StationIx) (back : Bool) : State :=
  if back then (s.leaveFree k .linkBack).takeUp k else s

/-- The queue fields: a sample with a new cycle number is taken (R73). -/
def Station.takeSample (t : Station) (r : Status) : Station :=
  if t.sampleNo = some r.latched then t
  else { t with
    queueIn := min Config.queueLimit r.queueIn, queueOut := min Config.queueLimit r.queueOut, sampleNo := some r.latched
    age := 0 }

/-- The counts of the active TIDAL plan's tidal station join the accumulators (R77). -/
def State.takeCounts (s : State) (k : StationIx) (r : Status) : State :=
  if s.activePlan.any (·.tidalAt k) then
    { s with mu := { s.mu with
        accIn := min Config.countLimit (s.mu.accIn + r.countIn), accOut := min Config.countLimit (s.mu.accOut + r.countOut) } }
  else s

/-- The queue fields and the counts go to the Measurement Unit. -/
def State.takeMeasures (s : State) (k : StationIx) (r : Status) : State :=
  (s.modSt k (·.takeSample r)).takeCounts k r

/-! ### The priority part (R116, R123 to R125) -/

/-- The ETA tick of a notice in the reply of a tick (R116). -/
def Notice.etaTick (n : Notice) (tick : Tick) : Tick := tickAdd tick (10 * min Config.etaLimit n.eta : Nat)

/-- The entry that a notice makes, PENDING (R116, R124). -/
def Notice.entry (n : Notice) (k : StationIx) (tick : Tick) (cls : ReqClass) (level : Nat) (masked : Bool) (slot : SlotIx) :
    Entry where
  slot := slot
  cls := cls
  level := level
  origin := .station
  station := k
  dir := .ofCode n.dir
  tag := n.tag
  arrival := tick
  eta := n.etaTick tick
  due := none
  masked := masked
  grant := none
  outstanding := false
  seen := false
  posted := false
  delivered := none
  state := .pending

/-- A TRANSIT notice (R116). -/
def State.transitNotice (s : State) (k : StationIx) (tick : Tick) (n : Notice) : State :=
  if s.ps.corridor = .running && (s.st k).coordinated then
    if s.tableHasRoom then
      (s.addEntry (n.entry k tick .transit (clamp 1 3 n.level) ((s.st k).masked (.ofCode n.dir)))).evaluateTransit k
    else s.emit (.tableFull k .transit n.tag)
  else s

/-- An EMERGENCY notice enters the table, which has room for it, and becomes ACTIVE when no emergency is ACTIVE at the station (R124). -/
def State.enterEmergency (s : State) (k : StationIx) (tick : Tick) (n : Notice) : State :=
  let mk := n.entry k tick .emergency (clamp 4 7 n.level) false
  match s.freeSlot with
  | none => s
  | some slot =>
    let entered := s.addEntry mk
    if (s.activeEmergency k).isSome then entered
    else
      let withdrawn := match s.postedAt k with
        | some e => entered.unpost e
        | none => entered
      withdrawn.activateEmergency (mk slot)

/-- An EMERGENCY notice, after displacement when the table is full (R124, R129). -/
def State.emergencyNotice (s : State) (k : StationIx) (tick : Tick) (n : Notice) : State :=
  if s.tableHasRoom then s.enterEmergency k tick n
  else if s.displaceable.isEmpty then s.emit (.tableFull k .emergency n.tag)
  else (s.displace 1).enterEmergency k tick n

/-- A notice; one with a class or direction code above 1 is discarded alone (R136). -/
def State.takeNotice (s : State) (k : StationIx) (tick : Tick) (n : Notice) : State :=
  if 1 < n.dir then s
  else match n.cls with
    | 0 => s.transitNotice k tick n
    | 1 => s.emergencyNotice k tick n
    | _ => s

/-- The TRANSIT entry at a station that a check-out ends: the ACTIVE one when it matches, otherwise the earliest (R123). -/
def State.checkedOut (s : State) (k : StationIx) (tag : Word16) : Option Entry :=
  let l := s.table.filter fun e => e.station = k && e.cls = .transit && e.tag = tag
  (l.find? (·.state = .active)).or l.head?

/-- A check-out (R123). -/
def State.checkOut (s : State) (k : StationIx) (tag : Word16) : State :=
  match s.checkedOut k tag with
  | some e => s.depart e.slot .done
  | none => s

/-- The preempt flag observed for the station's ACTIVE emergency (R125). -/
def State.observePreempt (s : State) (k : StationIx) (flag : Bool) : State :=
  match s.activeEmergency k with
  | some e =>
    if flag then s.modEntry e.slot fun e => { e with seen := true }
    else if e.seen then s.depart e.slot .done
    else s
  | none => s

/-- The priority part: notices, check-outs, and the preempt flag (R116). -/
def State.takePriority (s : State) (k : StationIx) (tick : Tick) (r : Status) : State :=
  let s := r.notices.foldl (fun s n => s.takeNotice k tick n) s
  (r.checkOuts.foldl (fun s tag => s.checkOut k tag) s).observePreempt k r.preempt

/-! ## The end of the exchange -/

/-- A successful exchange (R137). `returnFirst` and `queuesFirst` are the two orders that R137 leaves open. A reply whose own flags end
the hold is the station's synchronising reply, since its cycle part follows them (R51: log entry 45). The synchronised flag "before
the reply" of R98 is read after the frame's delivery, R137's step 1, and before the reply's parts, its step 3: DEDUCED, log entry 23.
So a station that the delivery frees or holds, and one that it frees and a restart makes SEEKING, writes no DRIFT (R51, R98). -/
def State.exchangeSucceeded (s : State) (x : Exchange) (r : Status) (returnFirst queuesFirst : Bool) : State :=
  let k := x.station
  let s := s.deliver x
  let wasSynced := (s.st k).synced
  let back : Bool := (s.st k).link = .lost
  let s := s.linkSuccess k
  let s := if returnFirst then (s.linkReturn k back).takeFlags k r else (s.takeFlags k r).linkReturn k back
  let s :=
    if queuesFirst then (s.takeMeasures k r).cyclePart k x.slotTick r.number r.time wasSynced
    else (s.cyclePart k x.slotTick r.number r.time wasSynced).takeMeasures k r
  s.takePriority k x.slotTick r

/-- The result of an exchange is taken: a discarded one delivers nothing (R136, R137, R141). -/
def State.takeResult (s : State) (x : Exchange) (heard : List Byte) (returnFirst queuesFirst : Bool) : State :=
  if x.discarded then s
  else match (s.st x.station).config with
    | none => s
    | some c =>
      match readReply c.drop c.phases heard with
      | .error cause => s.exchangeFailed x.station cause
      | .ok r => s.exchangeSucceeded x r returnFirst queuesFirst

/-- No exchange is in progress. -/
def State.clearExchange (s : State) : State := { s with clc := { s.clc with exchange := none } }

/-- The exchange ends: its result is taken within its tick, and the tick is over after it (R112, R133). -/
def State.endExchange (s : State) (x : Exchange) (heard : List Byte) (returnFirst queuesFirst : Bool) : State :=
  (s.takeResult x heard returnFirst queuesFirst).clearExchange

/-- EXCHANGE_END (R137): the exchange in progress ends with the bytes heard in the slot. -/
def execExchangeEnd (heard : List Byte) (returnFirst queuesFirst : Bool) (s : State) : Host.Outcome State Fault Refusal :=
  match s.clc.exchange with
  | some x => .next (s.endExchange x heard returnFirst queuesFirst)
  | none => .next s

end Sys2Proof.Machine
end

