-- ==== Sys2Proof/Machine/Expiry.lean ====
section
/-! DEFINITION. The ends of requests by time, and a route entry's due tick (R123, R125, R127, R128). -/

namespace Sys2Proof.Machine

/-- The tick ETA tick + 300 (R123, R125). -/
def Entry.graceEnd (e : Entry) : Tick := tickAdd e.eta Config.grace

/-- TRANSIT_EXPIRY (R123): a TRANSIT entry still in the table when ETA tick + 300 ends, whatever its state. -/
def execTransitExpiry (slot : SlotIx) (s : State) : Host.Outcome State Fault Refusal :=
  match s.entry slot with
  | some e => if e.cls = .transit && reached s.now e.graceEnd then .next (s.depart slot .expired) else .next s
  | none => .next s

/-- EMERGENCY_EXPIRY (R125): a STATION-origin emergency not seen set when ETA tick + 300 ends. -/
def execEmergencyExpiry (slot : SlotIx) (s : State) : Host.Outcome State Fault Refusal :=
  match s.entry slot with
  | some e =>
    if e.cls = .emergency && e.origin = .station && !e.seen && reached s.now e.graceEnd then .next (s.depart slot .expired)
    else .next s
  | none => .next s

/-- A route entry is waiting for its due tick: SCHEDULED, and its PREEMPT not posted (Table 8-2). -/
def Entry.awaitsDue (e : Entry) : Bool := e.origin = .route && e.state = .scheduled && !e.posted

/-- The PREEMPT of an entry at station `k` may be posted (R127). -/
def State.mayPost (s : State) (k : StationIx) : Bool :=
  (s.activeEmergency k).isNone && (s.postedAt k).isNone && (s.st k).link = .online

/-- A route entry reaches its due tick: its PREEMPT is posted, or it becomes PENDING and the station's emergencies are taken up
(R125, R127). -/
def State.comeDue (s : State) (e : Entry) : State :=
  if s.mayPost e.station then s.post e
  else (s.modEntry e.slot fun e => { e with state := .pending }).takeUp e.station

/-- ROUTE_DUE (R127). -/
def execRouteDue (slot : SlotIx) (s : State) : Host.Outcome State Fault Refusal :=
  match s.entry slot with
  | some e => if e.awaitsDue && e.due.any (reached s.now) then .next (s.comeDue e) else .next s
  | none => .next s

/-- ROUTE_TOO_LATE (R127): a route entry not ACTIVE when due tick + 100 ends, after the result of any exchange of that tick. -/
def execRouteTooLate (slot : SlotIx) (s : State) : Host.Outcome State Fault Refusal :=
  match s.entry slot with
  | some e =>
    if e.origin = .route && e.state ≠ .active && s.slotOver
        && e.due.any (fun due => reached s.now (tickAdd due Config.routeLateness)) then
      .next (s.depart slot .expired)
    else .next s
  | none => .next s

/-- ROUTE_REFUSED (R128): an ACTIVE route entry not seen set when the tick of its delivery + 20 ends. -/
def execRouteRefused (slot : SlotIx) (s : State) : Host.Outcome State Fault Refusal :=
  match s.entry slot with
  | some e =>
    if e.origin = .route && e.state = .active && !e.seen
        && e.delivered.any (fun d => reached s.now (tickAdd d Config.refusalTime)) then
      .next (s.depart slot .refused)
    else .next s
  | none => .next s

end Sys2Proof.Machine
end

