-- ==== Sys2Proof/Machine/Replies.lean ====
section
/-! DEFINITION. Results and replies, the field checks of requests, and the records that several replies carry (R148, R150). -/

namespace Sys2Proof.Machine

/-- What a request's owner answers (Table 10-2). `conflict` carries the position, station, plan or reason that the request's rule
names; `planInUse` is the code PROTECTED. -/
inductive Result where
  | ok (content : List Byte)
  | busy
  | badKind
  | badLength
  | badField (field : Nat)
  | badState
  | planInUse
  | conflict (item : Nat)
  | noEntry
  | full
  deriving DecidableEq, Repr

/-- The result code (Table 10-2). -/
def Result.code : Result → Nat
  | .ok _ => 0x00 | .busy => 0x01 | .badKind => 0x02 | .badLength => 0x03 | .badField _ => 0x04 | .badState => 0x05
  | .planInUse => 0x06 | .conflict _ => 0x07 | .noEntry => 0x08 | .full => 0x09

/-- What follows the result byte (Table 10-2). -/
def Result.content : Result → List Byte
  | .ok content => content
  | .badField field => be8 field
  | .conflict item => be8 item
  | .busy | .badKind | .badLength | .badState | .planInUse | .noEntry | .full => []

/-- A reply's payload: the result byte with the receive-overrun flag in bit 7, and what follows it (R148). -/
def Result.payload (r : Result) (overrun : Bool) : List Byte :=
  be8 (r.code + if overrun then 128 else 0) ++ r.content

/-- The reply to a taken frame is built and placed in the transmit queue, and the overrun flag is cleared (R148). -/
def State.reply (s : State) (f : HostFrame) (r : Result) : State :=
  ({ s with hli := { s.hli with overrun := false } }).transmit
    (.reply (f.kind + 0x80) f.echo (r.payload s.hli.overrun))

/-! ## Checks -/

/-- The reply of the first check that fails, checks taken in order. -/
def firstFailure : List (Bool × Result) → Option Result
  | [] => none
  | (failing, r) :: rest => if failing then some r else firstFailure rest

/-- A request that is refused by the first of its checks that fails, changing nothing, and otherwise served. -/
def State.checked (s : State) (checks : List (Bool × Result)) (serve : Result × State) : Result × State :=
  match firstFailure checks with
  | some r => (r, s)
  | none => serve

/-- A value lies outside a range. -/
def outside (low high x : Nat) : Bool := x < low || high < x

/-- A field's value is wrong: BAD_FIELD with its number. -/
def fieldCheck (field : Nat) (wrong : Bool) : Bool × Result := (wrong, .badField field)

/-- A save is in flight: BUSY (R159). -/
def State.busyCheck (s : State) : Bool × Result := (s.busy, .busy)

/-- A station index that is N or more, or any while N is absent. -/
def State.noStation (s : State) (i : Nat) : Bool := !s.count.any (i < ·)

/-! ## Records carried by replies (R150) -/

/-- A cycle's length and ends. -/
def Course.bytes (c : Course) : List Byte := be16 c.length ++ listBytes be16 c.ends

/-- A cycle's length and its ends, each an optional item: absent together when there is no cycle. -/
def courseBytes (c : Option Course) : List Byte :=
  optBytes (fun c => be16 c.length) c ++ optBytes (fun c => listBytes be16 c.ends) c

/-- A plan record in the form LOAD_PLAN carries it, less the plan number (Tables 2-3 and 10-3). -/
def Plan.bytes (p : Plan) : List Byte :=
  be16 p.cycle ++ be16 p.base ++ be8 p.ref ++ be8 p.mode.code ++ be8 p.weight
    ++ (match p.tidal with
      | some k => be8 k
      | none => [])
    ++ be8 p.shorten ++ be8 p.lengthen ++ be8 p.stepLimit ++ be16 p.advanceCap ++ be8 p.maxExtension ++ be8 p.lockout
    ++ be8 p.items.length
    ++ p.items.flatMap fun i => flagByte i.half ++ be8 i.splits.length ++ i.splits.flatMap be16

/-- A verdict and, for an INVALID one, the first failing item with its station and phase where Table 2-2 names them (R18, R19). -/
def Verdict.bytes : Verdict → List Byte
  | .valid => be8 0
  | .invalid item =>
    be8 1 ++ be8 item.reason.verdictCode
      ++ (match item.station with
        | some k => be8 k
        | none => [])
      ++ (match item.phase with
        | some i => be8 i
        | none => [])

end Sys2Proof.Machine
end

