-- ==== Sys2Proof/Machine/Geometry.lean ====
section
/-! DEFINITION. The geometry requests: DEFINE_CORRIDOR and LOAD_STATION (Chapter 1). -/

namespace Sys2Proof.Machine

/-! ## DEFINE_CORRIDOR (R5, R6) -/

/-- LINK_LOST for every station that was ONLINE, in ascending index (R6, R141). -/
def State.reportRedefined (s : State) : State :=
  s.eachStation fun s k => if (s.st k).link = .online then s.emit (.linkLost k .redefined) else s

/-- REQUEST_END, CANCELLED, for every entry in the table's order (R6). -/
def State.reportCancelled (s : State) : State :=
  s.table.foldl (fun s e => s.emit (.requestEnd e.station .cancelled e.grant e.tag)) s

/-- Every station record is discarded and every block's per-station state takes its values after a reset (R6, R138 to R140). -/
def State.discardStations (s : State) : State :=
  let s := { s with
    stations := .replicate 16 .blank, table := []
    clc := { s.clc with urgent := [], nonRoutine := 0, pollPtr := 0 } }
  (s.discardExchange fun _ => true).emptyRing

/-- An accepted DEFINE_CORRIDOR (R6). -/
def State.defineCorridor (s : State) (n : Nat) : State :=
  let s := s.reportRedefined.reportCancelled.discardStations
  ({ s with count := some n }).judgeAll

/-- DEFINE_CORRIDOR at its owner (R5). -/
def State.ownDefineCorridor (s : State) (p : List Byte) : Result × State :=
  let n := rd8 p 0
  s.checked
    [s.busyCheck, fieldCheck 1 (outside 2 16 n), (s.ps.corridor ≠ .idle, .badState)]
    (.ok [], s.defineCorridor n)

/-! ## LOAD_STATION (R7, R8) -/

/-- The minimums that a LOAD_STATION payload carries, with its n (Table 10-3). -/
def loadedMinimums (p : List Byte) (n : Nat) : List Nat := (List.range n).map fun i => rd16 p (3 + 2 * i)

/-- The configuration part that a LOAD_STATION payload carries (Tables 1-3 and 10-3). -/
def loadedConfig (p : List Byte) (n : Nat) (link : Bool) : StationConfig where
  drop := rd8 p 1
  minimums := loadedMinimums p n
  headwayIn := rd8 p (3 + 2 * n)
  headwayOut := rd8 p (4 + 2 * n)
  honourManual := rd8 p (5 + 2 * n) = 1
  incidentGate := rd8 p (6 + 2 * n) = 1
  link := if link then
      some { distance := rd16 p (7 + 2 * n), vIn := rd8 p (9 + 2 * n), vOut := rd8 p (10 + 2 * n) }
    else none

/-- The fields of step 7, in ascending field number (Tables 1-3 and 1-4). -/
def loadedFieldChecks (p : List Byte) (n : Nat) (link : Bool) : List (Bool × Result) :=
  [fieldCheck 2 (outside 1 31 (rd8 p 1))]
    ++ (List.range n).map (fun i => fieldCheck (4 + i) (outside 50 600 (rd16 p (3 + 2 * i))))
    ++ [fieldCheck 10 (outside 15 40 (rd8 p (3 + 2 * n))), fieldCheck 11 (outside 15 40 (rd8 p (4 + 2 * n))),
      fieldCheck 12 (1 < rd8 p (5 + 2 * n)), fieldCheck 13 (1 < rd8 p (6 + 2 * n))]
    ++ (if link then
        [fieldCheck 14 (outside 20 3000 (rd16 p (7 + 2 * n))), fieldCheck 15 (outside 15 90 (rd8 p (9 + 2 * n))),
          fieldCheck 16 (outside 15 90 (rd8 p (10 + 2 * n)))]
      else [])

/-- The other loaded station that holds a drop address (Table 1-4, step 9). -/
def State.dropHolder (s : State) (k : StationIx) (drop : Nat) : Option StationIx :=
  allStations.find? fun j => j ≠ k && (s.st j).config.any (·.drop = drop)

/-- The plan, active before staged, that a station's requested minimums would make invalid (Table 1-4, step 10). -/
def State.spoiledPlan (s : State) (k : StationIx) (mins : List Nat) : Option Nat :=
  let s' := s.modSt k fun t => { t with config := t.config.map fun c => { c with minimums := mins } }
  (s.ps.active.toList ++ s.ps.staged.toList).find? fun g => (s.slot g).any fun x => s'.judge x.plan ≠ .valid

/-- The checks of Table 1-4, steps 7 to 10, for a payload of the right length. -/
def State.loadChecks (s : State) (p : List Byte) (k : StationIx) (n : Nat) (link : Bool) : List (Bool × Result) :=
  let moving := s.ps.corridor ≠ .idle
  loadedFieldChecks p n link
    ++ [(moving && (s.st k).config.any (fun c => c.drop ≠ rd8 p 1 || c.phases ≠ n), .badState),
      match s.dropHolder k (rd8 p 1) with
      | some j => (true, .conflict j.val)
      | none => (false, .badState),
      match s.spoiledPlan k (loadedMinimums p n) with
      | some g => (moving, .conflict g)
      | none => (false, .badState)]

/-- A station's minimums as an accepted load leaves them: in force at once in IDLE, and otherwise pending when changed (R3, R8). -/
def Station.loadMinimums (t : Station) (mins : List Nat) (idle : Bool) : Station :=
  if idle then { t with minsInForce := mins, minsPending := false }
  else { t with minsPending := t.minsPending || t.config.any (·.minimums ≠ mins) }

/-- A change of n in IDLE: targets absent, the sample as after a reset, the model without length or ends (R8, R60, R72, R81). -/
def Station.restructure (t : Station) : Station :=
  { t.clearTarget with
    queueIn := 0, queueOut := 0, sampleNo := none, age := Config.sampleLife
    model := t.model.map (·.released) }

/-- An accepted LOAD_STATION (R8). -/
def State.loadStation (s : State) (k : StationIx) (c : StationConfig) : State :=
  let old := (s.st k).config
  let idle : Bool := s.ps.corridor = .idle
  let s := s.modSt k fun t => { t.loadMinimums c.minimums idle with config := some c }
  let s := if idle && old.all (·.drop ≠ c.drop) then s.resetLink k .readdressed else s
  let s := if idle && old.any (·.phases ≠ c.phases) then s.modSt k (·.restructure) else s
  (s.rehold k).judgeAll

/-- The travel times that an accepted LOAD_STATION returns (R4, R7). -/
def LinkFields.bytes (l : LinkFields) : List Byte := be16 l.tIn ++ be16 l.tOut

/-- LOAD_STATION from step 5 of Table 1-4 on, for a station below N. -/
def State.loadStationAt (s : State) (p : List Byte) (k : StationIx) (link : Bool) : Result × State :=
  let n := rd8 p 2
  let c := loadedConfig p n link
  s.checked
    ([fieldCheck 3 (outside 2 6 n), (p.length ≠ 7 + 2 * n + (if link then 4 else 0), .badLength)] ++ s.loadChecks p k n link)
    (.ok ((c.link.map (·.bytes)).getD []), s.loadStation k c)

/-- LOAD_STATION at its owner (Table 1-4). -/
def State.ownLoadStation (s : State) (p : List Byte) : Result × State :=
  if p.length < 3 then (.badLength, s)
  else if s.busy then (.busy, s)
  else match s.count with
    | none => (.badState, s)
    | some count =>
      match s.stationOf (rd8 p 0) with
      | none => (.badField 1, s)
      | some k => s.loadStationAt p k (k.val + 1 < count)

end Sys2Proof.Machine
end

