-- ==== Sys2Proof/Machine/Plans.lean ====
section
/-! DEFINITION. The plan and schedule requests (Chapter 2). -/

namespace Sys2Proof.Machine

/-! ## LOAD_PLAN (R17, R18) -/

/-- Where the fields after W lie: one byte later when the band mode byte reads 3, for the tidal station (R17). -/
def planBase (p : List Byte) : Nat := if rd8 p 6 = 3 then 9 else 8

/-- The split counts of the items from an offset on, each item laid out by its own count; none when the payload is too short to
hold them all (Table 2-4, step 6). -/
def splitCounts (p : List Byte) : Nat → Nat → Option (List Nat)
  | 0, _ => some []
  | items + 1, at_ =>
    if at_ + 1 < p.length then
      (splitCounts p items (at_ + 2 + 2 * rd8 p (at_ + 1))).map (rd8 p (at_ + 1) :: ·)
    else none

/-- The items at an offset, with their split counts. -/
def loadedItems (p : List Byte) : Nat → List Nat → List SplitItem
  | _, [] => []
  | at_, c :: cs =>
    { half := rd8 p at_ = 1, splits := (List.range c).map fun i => rd16 p (at_ + 2 + 2 * i) }
      :: loadedItems p (at_ + 2 + 2 * c) cs

/-- The plan record that a LOAD_PLAN payload carries (Tables 2-3 and 10-3). -/
def loadedPlan (p : List Byte) (counts : List Nat) : Plan :=
  let o := planBase p
  { cycle := rd16 p 1, base := rd16 p 3, ref := rd8 p 5, mode := .ofCode (rd8 p 6), weight := rd8 p 7
    tidal := if rd8 p 6 = 3 then some (rd8 p 8) else none
    shorten := rd8 p o, lengthen := rd8 p (o + 1), stepLimit := rd8 p (o + 2), advanceCap := rd16 p (o + 3)
    maxExtension := rd8 p (o + 5), lockout := rd8 p (o + 6), items := loadedItems p (o + 8) counts }

/-- The field checks of items from item `k` on (Table 2-3). -/
def itemChecks (p : List Byte) : Nat → Nat → List Nat → List (Bool × Result)
  | _, _, [] => []
  | k, at_, c :: cs =>
    fieldCheck (20 + 8 * k) (1 < rd8 p at_)
      :: (List.range c).map (fun i => fieldCheck (22 + 8 * k + i) (outside 50 2400 (rd16 p (at_ + 2 + 2 * i))))
      ++ itemChecks p (k + 1) (at_ + 2 + 2 * c) cs

/-- The fields of step 9, in ascending field number (Tables 2-3 and 2-4). -/
def planFieldChecks (p : List Byte) (counts : List Nat) : List (Bool × Result) :=
  let x := loadedPlan p counts
  [fieldCheck 2 (outside 400 2400 x.cycle || x.cycle % 10 ≠ 0), fieldCheck 3 (x.cycle ≤ x.base), fieldCheck 4 (15 < x.ref),
    fieldCheck 6 (100 < x.weight || x.weight % 5 ≠ 0), fieldCheck 7 (x.tidal.any (15 < ·)), fieldCheck 8 (30 < x.shorten),
    fieldCheck 9 (outside 5 40 x.lengthen), fieldCheck 10 (outside 5 120 x.stepLimit), fieldCheck 11 (300 < x.advanceCap),
    fieldCheck 12 (200 < x.maxExtension), fieldCheck 13 (8 < x.lockout)]
    ++ itemChecks p 0 (planBase p + 8) counts

/-- The length that a LOAD_PLAN payload's split counts call for (Table 2-4, step 8). -/
def planLength (p : List Byte) (counts : List Nat) : Nat := planBase p + 8 + (counts.map fun c => 2 + 2 * c).sum

/-- An accepted LOAD_PLAN: the slot's record is replaced, judged, and the rejection mark cleared if it names the slot (R18). -/
def State.storePlan (s : State) (g : Nat) (x : Plan) : State :=
  let ps := { s.ps with
    slots := s.ps.slots.setIfInBounds (g - 1) (some { plan := x, verdict := s.judge x })
    rejection := if s.ps.rejection = some g then none else s.ps.rejection }
  { s with ps }

/-- LOAD_PLAN from step 7 of Table 2-4 on, with the split counts. -/
def State.loadPlanWith (s : State) (p : List Byte) (counts : List Nat) : Result × State :=
  let g := rd8 p 0
  let x := loadedPlan p counts
  let badCount := match counts.findIdx? (outside 2 6) with
    | some k => fieldCheck (21 + 8 * k) true
    | none => fieldCheck 21 false
  s.checked
    (badCount :: (decide (p.length ≠ planLength p counts), .badLength) :: planFieldChecks p counts
      ++ [(s.ps.active = some g || s.ps.staged = some g, .planInUse)])
    (.ok (s.judge x).bytes, s.storePlan g x)

/-- LOAD_PLAN at its owner (Table 2-4). -/
def State.ownLoadPlan (s : State) (p : List Byte) : Result × State :=
  let o := planBase p
  let items := rd8 p (o + 7)
  match firstFailure
    [(p.length < o + 8, .badLength), s.busyCheck, fieldCheck 1 (outside 1 8 (rd8 p 0)), fieldCheck 5 (3 < rd8 p 6),
      fieldCheck 14 (outside 1 16 items)] with
  | some r => (r, s)
  | none =>
    match splitCounts p items (o + 8) with
    | none => (.badLength, s)
    | some counts => s.loadPlanWith p counts

/-! ## QUERY_PLAN (R19) -/

/-- QUERY_PLAN at its owner. -/
def State.ownQueryPlan (s : State) (p : List Byte) : Result × State :=
  let g := rd8 p 0
  if outside 1 8 g then (.badField 1, s)
  else match s.slot g with
    | none => (.noEntry, s)
    | some x =>
      (.ok (be8 g ++ x.plan.bytes ++ x.verdict.bytes ++ flagByte (s.ps.active = some g) ++ flagByte (s.ps.staged = some g)
        ++ flagByte (s.ps.override = some g)), s)

/-! ## SELECT_PLAN and RELEASE_PLAN (R25, R26) -/

/-- The reason for which SELECT_PLAN of a plan 1 to 8 is refused (R25). -/
def State.unselectable (s : State) (g : Nat) : Option PlanReason :=
  match s.slot g with
  | none => some .empty
  | some x => match x.verdict with
    | .valid => none
    | .invalid item => some item.reason

/-- The override plan takes a value or is cleared (R20). -/
def State.setOverride (s : State) (g : Option Nat) : State := { s with ps := { s.ps with override := g } }

/-- SELECT_PLAN at its owner (R25). -/
def State.ownSelectPlan (s : State) (p : List Byte) : Result × State :=
  let g := rd8 p 0
  if 8 < g then (.badField 1, s)
  else match if g = 0 then none else s.unselectable g with
    | some reason => (.conflict reason.code, s)
    | none => (.ok [], (s.setOverride (some g)).evaluate .selectPlan)

/-- RELEASE_PLAN at its owner (R26). -/
def State.ownReleasePlan (s : State) : Result × State :=
  if s.ps.override = none then (.noEntry, s)
  else (.ok [], (s.setOverride none).evaluate .releasePlan)

/-! ## The schedule table (R27 to R29) -/

/-- The lowest day of a mask, 1 to 7 (R27). -/
def ScheduleEntry.lowestDay (e : ScheduleEntry) : Nat := ([1, 2, 3, 4, 5, 6, 7].find? e.onDay).getD 8

/-- The order of the table: by start minute, then by lowest day (R27). -/
def ScheduleEntry.before (a b : ScheduleEntry) : Bool :=
  a.start < b.start || (a.start = b.start && a.lowestDay < b.lowestDay)

/-- The start minute, day mask and plan that a schedule request carries (Table 10-3). -/
def carriedEntry (p : List Byte) : ScheduleEntry where
  start := rd16 p 0
  days := (p.getD 2 0).setWidth 7
  plan := rd8 p 3

/-- The checks of a start minute and a day mask (R28, R29). -/
def entryChecks (p : List Byte) : List (Bool × Result) :=
  [fieldCheck 1 (1439 < rd16 p 0), fieldCheck 2 (rd8 p 2 = 0 || 127 < rd8 p 2)]

/-- The position of the first entry with the same start minute whose mask shares a day (R28). -/
def overlapAt (table : List ScheduleEntry) (e : ScheduleEntry) : Option Nat :=
  table.findIdx? fun x => x.start = e.start && x.days &&& e.days ≠ 0

/-- The position at which a new entry keeps the order of the table (R27). -/
def insertAt (table : List ScheduleEntry) (e : ScheduleEntry) : Nat := (table.filter (·.before e)).length

/-- ADD_SCHEDULE at its owner (R28). -/
def State.ownAddSchedule (s : State) (p : List Byte) : Result × State :=
  let e := carriedEntry p
  let table := s.ps.schedule
  let i := insertAt table e
  let overlap := match overlapAt table e with
    | some i => (true, Result.conflict i)
    | none => (false, Result.full)
  s.checked
    (s.busyCheck :: entryChecks p
      ++ [fieldCheck 3 (8 < e.plan), overlap, (Config.scheduleSize ≤ table.length, .full)])
    (.ok (be8 i ++ be8 (table.length + 1)), { s with ps := { s.ps with schedule := table.insertIdx i e } })

/-- DELETE_SCHEDULE at its owner (R29). -/
def State.ownDeleteSchedule (s : State) (p : List Byte) : Result × State :=
  let e := carriedEntry p
  let table := s.ps.schedule
  let i := table.findIdx? fun x => x.start = e.start && x.days = e.days
  s.checked (s.busyCheck :: entryChecks p)
    (match i with
      | some i => (.ok (be8 (table.length - 1)), { s with ps := { s.ps with schedule := table.eraseIdx i } })
      | none => (.noEntry, s))

end Sys2Proof.Machine
end

