-- ==== Sys2Proof/Machine/Queries.lean ====
section
/-! DEFINITION. The content of the queries and of READ_EVENTS (R11, R45, R59, R80, R99, R100, R132, R144, R151, R157). -/

namespace Sys2Proof.Machine

/-! ## QUERY_CORRIDOR (R45) -/

/-- The plan source: SCHEDULE 0, OVERRIDE 1 (R20, R150). -/
def State.source (s : State) : Nat := if s.ps.override.isSome then 1 else 0

/-- Operating state (R45). The count of RELEASE orders, sent while STOPPING, has no presence byte (log entry 14). -/
def State.operatingBytes (s : State) : List Byte :=
  be8 s.ps.corridor.code ++ flagByte s.ps.enable ++ flagByte s.ps.autostart ++ be8 s.source ++ optBytes be8 s.ps.active
    ++ optBytes be8 s.ps.staged ++ optBytes be8 s.ps.override ++ be8 s.schedulePlan ++ be8 s.governing
    ++ optBytes be8 s.ps.rejection ++ (if s.ps.corridor = .stopping then be8 s.releasesOut else [])

/-- Time (R45): day and time of day while the clock is set, m and C while RUNNING or STOPPING, with no presence bytes (log entry 14). -/
def State.timeBytes (s : State) : List Byte :=
  be32 s.tb.tick.toNat ++ flagByte s.tb.clockSet ++ (if s.tb.clockSet then be8 s.tb.day ++ be32 s.tb.time else [])
    ++ (match s.ps.corridor, s.activePlan with
      | .idle, _ => []
      | _, some p => be16 s.tb.m ++ be16 p.cycle
      | _, none => [])

/-- The geometry content of QUERY_CORRIDOR (R11). -/
def State.geometryBytes (s : State) : List Byte :=
  optBytes be8 s.count ++ setBytes s.loaded ++ flagByte s.geometryValid

/-- The stations 0 to N − 1. -/
def State.stationsUsed (s : State) : List StationIx := allStations.filter fun k => s.count.any (k.val < ·)

/-- The content of QUERY_CORRIDOR, in R45's order. -/
def State.corridorBytes (s : State) : List Byte :=
  s.operatingBytes ++ allTerms.flatMap (fun t => flagByte (s.termHolds t)) ++ s.timeBytes ++ s.geometryBytes
    ++ be8 s.mu.weight ++ listBytes (fun k => be8 (s.st k).coord.code) s.stationsUsed

/-! ## QUERY_STATION (R59, R151) -/

/-- The fields of Table 1-1 as stored. -/
def StationConfig.bytes (c : StationConfig) : List Byte :=
  be8 c.drop ++ be8 c.phases ++ listBytes be16 c.minimums ++ be8 c.headwayIn ++ be8 c.headwayOut ++ flagByte c.honourManual
    ++ flagByte c.incidentGate ++ optBytes (fun l => be16 l.distance) c.link ++ optBytes (fun l => be8 l.vIn) c.link
    ++ optBytes (fun l => be8 l.vOut) c.link

/-- The geometry content of QUERY_STATION (R11): the configuration part as an optional item, with the stored minimums, the pending flag
and while it is set the minimums in force, and the travel times where there is a link. The stored minimums come twice, in Table 1-1's
place and as R11's own item (log entry 44); the two conditional items have no presence byte (log entry 14). -/
def Station.geometryBytes (t : Station) : List Byte :=
  optBytes
    (fun c => c.bytes ++ listBytes be16 c.minimums ++ flagByte t.minsPending
      ++ (if t.minsPending then listBytes be16 t.minsInForce else [])
      ++ (match c.link with
        | some l => be16 l.tIn ++ be16 l.tOut
        | none => []))
    t.config

/-- The last projected error and the correction direction (R99). -/
def Station.errorBytes (t : Station) : List Byte :=
  optBytes be16 t.lastError ++ optBytes (fun c => be8 c.code) t.correction

/-- The cycle model summary of Table 4-4: number, modelled local time, current L. -/
def CycleModel.summary (now : Tick) (m : CycleModel) : List Byte :=
  be8 m.number.toNat ++ sbe32 (m.localTime now) ++ optBytes (fun c => be16 c.length) m.basis.course

/-- The coordination and hold fields of Table 4-4. -/
def State.holdFields (s : State) (k : StationIx) : List Byte :=
  let t := s.st k
  be8 t.link.code ++ be8 t.misses ++ be8 t.coord.code ++ flagByte t.synced ++ optBytes (·.summary s.now) t.model
    ++ t.errorBytes ++ flagByte t.hold ++ (s.sources k).flatMap flagByte
    ++ flagByte t.hostHold ++ flagByte t.manualFlag ++ flagByte t.preemptFlag ++ flagByte t.honours ++ flagByte t.gated
    ++ flagByte s.incidentActive

/-- The station has a frame in URGENT that meets `p`. -/
def State.urgentAt (s : State) (k : StationIx) (p : UrgentFrame → Bool) : Bool :=
  s.clc.urgent.any fun f => f.station = k && p f

/-- The link content of QUERY_STATION (R144). -/
def State.linkBytes (s : State) (k : StationIx) : List Byte :=
  let t := s.st k
  be8 t.link.code ++ be8 t.misses ++ be8 (failureCode t.lastFailure) ++ flagByte t.ackMark
    ++ flagByte (s.urgentAt k fun _ => true) ++ flagByte (s.urgentAt k (·.kind = .revise))
    ++ flagByte (s.urgentAt k (·.kind ≠ .revise)) ++ flagByte t.order.isSome

/-- Part 1 (Table 10-4). -/
def State.partOne (s : State) (k : StationIx) : List Byte :=
  (s.st k).geometryBytes ++ s.holdFields k ++ s.linkBytes k

/-- The ordered next of a model. -/
def OrderedNext.bytes (o : OrderedNext) : List Byte := be8 o.number.toNat ++ o.course.bytes

/-- The model's content while it is present (R99). -/
def CycleModel.bytes (now : Tick) (m : CycleModel) : List Byte :=
  be8 m.number.toNat ++ sbe32 (m.localTime now) ++ be32 m.zeroTick.toNat ++ be8 m.basis.code ++ courseBytes m.basis.course
    ++ be8 m.lastZero.toNat ++ optBytes (fun n => be8 n.toNat) m.mark ++ optBytes (·.bytes) m.next

/-- The cycle model content (R99). -/
def State.modelBytes (s : State) (k : StationIx) : List Byte :=
  let t := s.st k
  be8 t.coord.code ++ flagByte t.synced ++ optBytes (·.bytes s.now) t.model ++ t.errorBytes

/-- The target content (R80). -/
def Station.targetBytes (t : Station) : List Byte := optBytes be16 t.raw ++ optBytes be16 t.target ++ flagByte t.jump

/-- A fold: request slot, kind, amount (Table 7-1). -/
def Fold.bytes (f : Fold) : List Byte := be8 f.slot.val ++ be8 f.kind.code ++ be16 f.amount

/-- A waiting order (Table 7-1). -/
def WaitingOrder.bytes (o : WaitingOrder) : List Byte :=
  be8 o.number.toNat ++ flagByte o.release ++ courseBytes (o.body.map (·.course)) ++ be32 o.deadline.toNat
    ++ optBytes (fun b => be8 b.plan) o.body ++ optBytes (fun b => be16 b.target) o.body
    ++ optBytes (·.bytes) (o.body.bind (·.fold))

/-- A waiting REVISE (Table 7-2). -/
def WaitingRevise.bytes (r : WaitingRevise) : List Byte :=
  be8 r.number.toNat ++ be8 r.kind.code ++ be8 r.slot.val ++ r.course.bytes ++ be32 r.latest.toNat

/-- Part 2 (Table 10-4). -/
def State.partTwo (s : State) (k : StationIx) : List Byte :=
  let t := s.st k
  s.modelBytes k ++ t.targetBytes ++ optBytes (·.bytes) t.order ++ optBytes (·.bytes) t.revise

/-- The tidal items: the primed flag, IN and OUT, and the ring's totals (R80). -/
def Measurement.tidalBytes (mu : Measurement) : List Byte :=
  flagByte mu.primed ++ be16 mu.accIn ++ be16 mu.accOut ++ listBytes (fun x => be16 x.1 ++ be16 x.2) mu.ring

/-- The measurement content (R80), the tidal items present for the active TIDAL plan's tidal station, with one presence byte for all of
them (log entry 14). -/
def State.measureBytes (s : State) (k : StationIx) : List Byte :=
  let t := s.st k
  be8 t.queueIn ++ be8 t.queueOut ++ optBytes (fun n => be8 n.toNat) t.sampleNo ++ be8 t.age ++ be8 t.countedIn
    ++ be8 t.countedOut
    ++ optBytes (·.tidalBytes) (if s.activePlan.any (·.tidalAt k) then some s.mu else none)

/-- The priority content (R132). -/
def State.priorityBytes (s : State) (k : StationIx) : List Byte :=
  let t := s.st k
  be8 t.lockout ++ flagByte t.maskIn ++ flagByte t.maskOut ++ be8 (s.table.filter (·.station = k)).length
    ++ optBytes (fun e => be8 e.slot.val) (s.activeAt k)

/-- Part 3 (Table 10-4). -/
def State.partThree (s : State) (k : StationIx) : List Byte := s.measureBytes k ++ s.priorityBytes k

/-- The content of a part (Table 10-4). -/
def State.partBytes (s : State) (k : StationIx) : Nat → List Byte
  | 1 => s.partOne k
  | 2 => s.partTwo k
  | _ => s.partThree k

/-- QUERY_STATION at its owners (R11, R151). -/
def State.ownQueryStation (s : State) (p : List Byte) : Result :=
  let part := rd8 p 1
  match s.stationOf (rd8 p 0) with
  | none => .badField 1
  | some k =>
    if outside 1 3 part then .badField 2 else .ok (be8 k.val ++ be8 part ++ s.partBytes k part)

/-! ## QUERY_REQUESTS (R132, R151) -/

/-- An item that Table 8-1 marks present for some entries only. -/
def presentFor (present : Bool) (bytes : List Byte) : List Byte :=
  optBytes id (if present then some bytes else none)

/-- An entry with every field of Table 8-1, in its order; a field of another class or origin is an absent optional item (R151). -/
def Entry.bytes (e : Entry) : List Byte :=
  let transit : Bool := e.cls = .transit
  be8 e.slot.val ++ be8 e.cls.code ++ be8 e.level ++ be8 e.origin.code ++ be8 e.station.val ++ be8 e.dir.code
    ++ be16 e.tag.toNat ++ be32 e.arrival.toNat ++ be32 e.eta.toNat ++ optBytes (fun t => be32 t.toNat) e.due
    ++ presentFor transit (flagByte e.masked) ++ optBytes (fun g => be8 g.code) e.grant
    ++ presentFor transit (flagByte e.outstanding) ++ presentFor (!transit) (flagByte e.seen)
    ++ presentFor (e.origin = .route) (flagByte e.posted) ++ be8 e.state.code

/-- The entries that a selector selects, in table order: 0xFF for all, or a station index (R132, R150). -/
def State.selected (s : State) (selector : Nat) : List Entry :=
  if selector = 0xFF then s.table else s.table.filter (·.station.val = selector)

/-- QUERY_REQUESTS at its owner (R132, R151). -/
def State.ownQueryRequests (s : State) (p : List Byte) : Result :=
  let selector := rd8 p 0
  let start := rd8 p 1
  if selector ≠ 0xFF && s.noStation selector then .badField 1
  else if Config.tableSize ≤ start then .badField 2
  else
    let l := s.selected selector
    .ok (be8 l.length ++ be8 start ++ listBytes (·.bytes) ((l.drop start).take Config.requestPage))

/-! ## READ_EVENTS and SET_NOTICE (R152, R157) -/

/-- The oldest records, up to 8, leave the queue, the overflow flag is cleared, and a queue left empty arms the notice flag while notices
are enabled (R152, R157). -/
def State.removeEvents (s : State) : State :=
  let left := s.eq.records.drop Config.readLimit
  { s with
    eq := { records := left, overflow := false }
    hli := { s.hli with armed := s.hli.armed || (left.isEmpty && s.hli.notice) } }

/-- READ_EVENTS at its owner (R157). -/
def State.ownReadEvents (s : State) : Result × State :=
  let read := s.eq.records.take Config.readLimit
  let left := s.eq.records.drop Config.readLimit
  (.ok (listBytes (·.bytes) read ++ be8 left.length ++ flagByte s.eq.overflow), s.removeEvents)

/-- An accepted SET_NOTICE; enabling arms, and places a notice at once when records wait (R152). -/
def State.setNotice (s : State) (on : Bool) : State :=
  let s := { s with hli := { s.hli with notice := on, armed := on } }
  if on && !s.eq.records.isEmpty then s.noticeReport else s

/-- SET_NOTICE (R152). -/
def State.ownSetNotice (s : State) (p : List Byte) : Result × State :=
  let v := rd8 p 0
  s.checked [fieldCheck 1 (1 < v)] (.ok (flagByte (v = 1)), s.setNotice (v = 1))

end Sys2Proof.Machine
end

