-- ==== Sys2Proof/Machine/Routes.lean ====
section
/-! DEFINITION. The requests on the request table: ROUTE_CLEAR and CANCEL_REQUEST (R126, R129, R130). -/

namespace Sys2Proof.Machine

/-! ## ROUTE_CLEAR (R126) -/

/-- What a ROUTE_CLEAR carries (R126, Table 10-3). -/
structure RouteFields where
  dir : Direction
  first : Nat
  last : Nat
  speed : Nat
  delay : Nat
  level : Nat
  tag : Word16
  deriving DecidableEq, Repr

/-- The fields of a ROUTE_CLEAR payload (Table 10-3). -/
def routeFields (p : List Byte) : RouteFields where
  dir := .ofCode (rd8 p 0)
  first := rd8 p 1
  last := rd8 p 2
  speed := rd8 p 3
  delay := rd16 p 4
  level := rd8 p 6
  tag := .ofNat 16 (rd16 p 7)

/-- The stations of a route, in the order the vehicle meets them (R126). -/
def RouteFields.stations (r : RouteFields) : List StationIx :=
  match r.dir with
  | .inward => allStations.filter fun k => r.first ≤ k.val && k.val ≤ r.last
  | .outward => (allStations.filter fun k => r.last ≤ k.val && k.val ≤ r.first).reverse

/-- The route time of station `j`: the sum over the links between the first station and it, at the route speed (R126). -/
def State.routeTime (s : State) (r : RouteFields) (j : Nat) : Nat :=
  ((List.range' (min r.first j) (max r.first j - min r.first j)).map fun k =>
    ((s.linkAt k).map fun l => travelTime l.distance r.speed).getD 0).sum

/-- The entry that a route makes at a station (R126). -/
def State.routeEntry (s : State) (r : RouteFields) (k : StationIx) (slot : SlotIx) : Entry :=
  let eta := tickAdd s.now (r.delay + s.routeTime r k.val : Nat)
  { slot, cls := .emergency, level := r.level, origin := .route, station := k, dir := r.dir, tag := r.tag
    arrival := s.now, eta, due := some (tickAdd eta (-(Config.routeLead : Int)))
    masked := false, grant := none, outstanding := false, seen := false, posted := false, delivered := none
    state := .scheduled }

/-- One entry for each station of the route, with the slots they took, in route order (R126). -/
def State.addRoute (s : State) (r : RouteFields) : List StationIx → List SlotIx × State
  | [] => ([], s)
  | k :: ks =>
    match s.freeSlot with
    | none => s.addRoute r ks
    | some slot =>
      let (slots, s) := (s.addEntry (s.routeEntry r k)).addRoute r ks
      (slot :: slots, s)

/-- The displacements that entries for `k` stations need (R129). -/
def State.displacementsFor (s : State) (k : Nat) : Nat := k - (Config.tableSize - s.table.length)

/-- The last station is N or more, or lies behind the first (R126). -/
def State.wrongLast (s : State) (r : RouteFields) : Bool :=
  s.noStation r.last || (match r.dir with
    | .inward => r.last < r.first
    | .outward => r.first < r.last)

/-- The checks of R126, in order. -/
def State.routeChecks (s : State) (p : List Byte) : List (Bool × Result) :=
  let r := routeFields p
  [(s.ps.corridor ≠ .running, .badState), fieldCheck 1 (1 < rd8 p 0), fieldCheck 2 (s.noStation r.first),
    fieldCheck 3 (s.wrongLast r), fieldCheck 4 (outside 15 90 r.speed), fieldCheck 5 (6000 < r.delay),
    fieldCheck 6 (outside 4 7 r.level), (s.displaceable.length < s.displacementsFor r.stations.length, .full)]

/-- An accepted ROUTE_CLEAR: the displacement it needs, and then its entries (R126, R129). -/
def State.clearRoute (s : State) (r : RouteFields) : List SlotIx × State :=
  (s.displace (s.displacementsFor r.stations.length)).addRoute r r.stations

/-- ROUTE_CLEAR at its owner. -/
def State.ownRouteClear (s : State) (p : List Byte) : Result × State :=
  let (slots, s') := s.clearRoute (routeFields p)
  s.checked (s.routeChecks p) (.ok (listBytes (fun i => be8 i.val) slots), s')

/-! ## CANCEL_REQUEST (R130) -/

/-- The entries that carry a tag, in table order. -/
def State.tagged (s : State) (tag : Word16) : List Entry := s.table.filter (·.tag = tag)

/-- CANCEL_REQUEST at its owner. -/
def State.ownCancelRequest (s : State) (p : List Byte) : Result × State :=
  let tag := .ofNat 16 (rd16 p 0)
  let n := (s.tagged tag).length
  if n = 0 then (.noEntry, s)
  else (.ok (be8 n), s.departAll (·.tag = tag) .cancelled)

end Sys2Proof.Machine
end

