-- ==== Sys2Proof/Machine/Settings.lean ====
section
/-! DEFINITION. The clock, enable, autostart, hold, incident and mask requests (Chapters 3, 4 and 8). -/

namespace Sys2Proof.Machine

/-! ## SET_CLOCK (R34) -/

/-- The day and the time of day take values, and the clock is set (R34). -/
def State.setClock (s : State) (day time : Nat) : State :=
  { s with tb := { s.tb with day, time, clockSet := true } }

/-- SET_CLOCK at its owner. -/
def State.ownSetClock (s : State) (p : List Byte) : Result × State :=
  let day := rd8 p 0
  let time := rd32 p 1
  s.checked [fieldCheck 1 (outside 1 7 day), fieldCheck 2 (Config.dayTicks ≤ time)]
    (.ok [], ((s.setClock day time).emit .clockSet).evaluate .setClock)

/-! ## START and STOP (R37) -/

/-- The corridor enable takes a value (R37). -/
def State.setEnable (s : State) (on : Bool) : State := { s with ps := { s.ps with enable := on } }

/-- The corridor state after the evaluation, and in IDLE the first term that fails (R37), with no presence byte before it (log
entry 14). -/
def State.stateReply (s : State) : List Byte :=
  be8 s.ps.corridor.code
    ++ (match s.ps.corridor, s.firstFailing with
      | .idle, some t => be8 t.code
      | _, _ => [])

/-- START or STOP: the enable takes a value, and the plan and the may-run condition are evaluated (R37). A START of a running corridor
whose governing plan is 0 stops it with the reason START, by R41 and R42 against Table 3-3: DESIGN CHOICE, log entry 42. -/
def State.enableRequest (s : State) (on : Bool) (reason : Reason) : Result × State :=
  let s := (s.setEnable on).evaluate reason
  (.ok s.stateReply, s)

/-! ## SET_AUTOSTART (R38) -/

/-- SET_AUTOSTART at its owner. -/
def State.ownSetAutostart (s : State) (p : List Byte) : Result × State :=
  let v := rd8 p 0
  s.checked [s.busyCheck, fieldCheck 1 (1 < v)] (.ok [], { s with ps := { s.ps with autostart := v = 1 } })

/-! ## HOLD_STATION (R54) -/

/-- A station's host hold takes a value, and its effective hold is recomputed (R54). -/
def State.holdStation (s : State) (k : StationIx) (on : Bool) : State :=
  (s.modSt k fun t => { t with hostHold := on }).rehold k

/-- The five sources and the effective hold (R54). -/
def State.holdBytes (s : State) (k : StationIx) : List Byte :=
  (s.sources k).flatMap flagByte ++ flagByte (s.st k).hold

/-- HOLD_STATION at its owner. -/
def State.ownHoldStation (s : State) (p : List Byte) : Result × State :=
  let v := rd8 p 1
  match s.stationOf (rd8 p 0) with
  | none => (.badField 1, s)
  | some k =>
    if 1 < v then (.badField 2, s)
    else
      let s := s.holdStation k (v = 1)
      (.ok (s.holdBytes k), s)

/-! ## SET_INCIDENT (R57) -/

/-- Every loaded station's incident gate is set from a gate set (R57). -/
def Station.setGate (t : Station) (gate : Bool) : Station :=
  { t with config := t.config.map fun c => { c with incidentGate := gate } }

/-- The polarity and the gates take values, and every station's holds are recomputed (R57). -/
def State.setIncident (s : State) (polarity : Polarity) (gates : Nat) : State :=
  let s := { s with hl := { s.hl with polarity } }
  (s.eachStation fun s k => s.modSt k (·.setGate (gates.testBit k.val))).reholdAll

/-- The gate set names an index that is N or more, or a station that is not loaded (R57). -/
def State.wrongGates (s : State) (gates : Nat) : Bool :=
  allStations.any fun k => gates.testBit k.val && (s.noStation k.val || (s.st k).config.isNone)

/-- SET_INCIDENT at its owner. -/
def State.ownSetIncident (s : State) (p : List Byte) : Result × State :=
  let polarity := rd8 p 0
  let gates := rd16 p 1
  let s' := s.setIncident (if polarity = 0 then .activeHigh else .activeLow) gates
  s.checked
    [s.busyCheck, fieldCheck 1 (1 < polarity), (s.count.isNone, .badState), fieldCheck 2 (s.wrongGates gates)]
    (.ok (flagByte s'.incidentActive), s')

/-! ## SET_PRIORITY_MASK (R117) -/

/-- The masked flag of a TRANSIT entry at station `k` follows the masks (R117). -/
def Entry.remask (e : Entry) (k : StationIx) (inMask outMask : Bool) : Entry :=
  if e.station = k && e.cls = .transit then
    { e with masked := !(match e.dir with
      | .inward => inMask
      | .outward => outMask) }
  else e

/-- A station's two transit masks take values (R117). -/
def State.setMasks (s : State) (k : StationIx) (inMask outMask : Bool) : State :=
  let s := s.modSt k fun t => { t with maskIn := inMask, maskOut := outMask }
  { s with table := s.table.map (·.remask k inMask outMask) }

/-- SET_PRIORITY_MASK at its owner. -/
def State.ownSetPriorityMask (s : State) (p : List Byte) : Result × State :=
  if s.busy then (.busy, s)
  else if s.count.isNone then (.badState, s)
  else match s.stationOf (rd8 p 0) with
    | none => (.badField 1, s)
    | some k =>
      s.checked [fieldCheck 2 (1 < rd8 p 1), fieldCheck 3 (1 < rd8 p 2)]
        (.ok [], s.setMasks k (rd8 p 1 = 1) (rd8 p 2 = 1))

end Sys2Proof.Machine
end

