-- ==== Sys2Proof/Machine/Store.lean ====
section
/-! DEFINITION. The stored image, SAVE, and the resets (Chapter 11, R154, R155). -/

namespace Sys2Proof.Machine

/-! ## The image (R158) -/

/-- A configuration part as the image holds it. -/
def StationConfig.imageBytes (c : StationConfig) : List Byte :=
  be8 c.drop ++ listBytes be16 c.minimums ++ be8 c.headwayIn ++ be8 c.headwayOut ++ flagByte c.honourManual
    ++ flagByte c.incidentGate ++ optBytes (fun l => be16 l.distance ++ be8 l.vIn ++ be8 l.vOut) c.link

/-- A schedule entry as the image holds it. -/
def ScheduleEntry.imageBytes (e : ScheduleEntry) : List Byte := be16 e.start ++ be8 e.days.toNat ++ be8 e.plan

/-- The content of the image over which its check is computed: the stored items in the order of section 11.2. The manual gives the
image no layout: DESIGN CHOICE. -/
def StoredItems.bytes (i : StoredItems) : List Byte :=
  optBytes be8 i.count ++ i.configs.toList.flatMap (optBytes (·.imageBytes))
    ++ i.plans.toList.flatMap (optBytes (·.bytes)) ++ listBytes (·.imageBytes) i.schedule
    ++ i.masks.toList.flatMap (fun m => flagByte m.1 ++ flagByte m.2) ++ be8 i.polarity.code ++ flagByte i.autostart

/-- The CRC of the image's content (R158). -/
def StoredItems.crc (i : StoredItems) : Word16 := Machine.crc i.bytes

/-- The image passes its check (R158). -/
def Image.passes (i : Image) : Bool := i.check = i.items.crc

/-- An image of the given items, with whether the memory held what was written: a failing image has a check that is not the CRC of
its content (R158, R159). -/
def Image.written (items : StoredItems) (good : Bool) : Image where
  items := items
  check := if good then items.crc else ~~~items.crc

/-- The working values of every stored item. -/
def State.workingItems (s : State) : StoredItems where
  count := s.count
  configs := allStations.foldl (fun v (k : StationIx) => v.set k (s.st k).config) (.replicate 16 none)
  plans := allPlanSlots.foldl
    (fun v (g : Fin 8) => v.set g ((s.ps.slots[g]).map (·.plan))) (.replicate 8 none)
  schedule := s.ps.schedule
  masks := allStations.foldl (fun v (k : StationIx) => v.set k ((s.st k).maskIn, (s.st k).maskOut)) (.replicate 16 (true, true))
  polarity := s.hl.polarity
  autostart := s.ps.autostart

/-! ## SAVE (R159) -/

/-- SAVE at its owner: the flag is set and the tick noted. -/
def State.ownSave (s : State) : Result × State :=
  if s.busy then (.busy, s)
  else (.ok [], { s with cs := { s.cs with saving := some s.now } })

/-- The ticks that a save has taken since the tick noted (R159). -/
def State.saveTicks (s : State) (t : Tick) : Nat := (tickDiff s.now t).toNat

/-- The write ends: the image is read back, SAVE_END written, and the flag cleared (R159). -/
def State.endSave (s : State) (t : Tick) (passes : Bool) : State :=
  let s' := s.emit (.saveEnd passes (s.saveTicks t))
  { s' with cs := { image := .written s.workingItems passes, saving := none } }

/-- SAVE_COMPLETE (R159): the write of a save ends, 1 to 30 ticks after its acceptance. -/
def execSaveComplete (passes : Bool) (s : State) : Host.Outcome State Fault Refusal :=
  match s.cs.saving with
  | some t => if 1 ≤ s.saveTicks t && s.saveTicks t ≤ Config.saveLimit then .next (s.endSave t passes) else .next s
  | none => .next s

/-! ## The resets (R154, R155, R160, R161) -/

/-- Station `k`'s record after a reset, with its stored configuration part and masks (R12, R160). -/
def Station.restored (config : Option StationConfig) (masks : Bool × Bool) : Station :=
  { Station.blank with
    config, minsInForce := (config.map (·.minimums)).getD [], maskIn := masks.1, maskOut := masks.2 }

/-- Each stored item is handed to its owner, which takes it as its working value (R160). -/
def State.restore (s : State) (i : StoredItems) : State :=
  let s := { s with
    count := i.count
    ps := { s.ps with
      slots := allPlanSlots.foldl
        (fun v (g : Fin 8) => v.set g (i.plans[g].map fun plan => { plan, verdict := .valid })) s.ps.slots
      schedule := i.schedule, autostart := i.autostart }
    hl := { s.hl with polarity := i.polarity } }
  s.eachStation fun s k => s.modSt k fun _ => .restored i.configs[k] i.masks[k]

/-- The hand-over that ends a reset: verdicts, enable, holds, and the may-run condition (R160). -/
def State.handOver (s : State) (level : Bool) : State :=
  let s := s.judgeAll
  let s := { s with ps := { s.ps with enable := s.ps.autostart }, hl := { s.hl with level } }
  s.reholdAll.evaluate .reset

/-- The items that the load at the end of a reset takes: the image's, or the empty value of each (R160). -/
def Image.loaded (i : Image) : StoredItems := if i.passes then i.items else .empty

/-- A reset that leaves an image and a time base: every block takes its reset values, and the image is loaded (R160). -/
def State.afterReset (s : State) (image : Image) (tb : TimeBase) (level : Bool) : State :=
  (({ State.reset with pending := s.pending, tb, cs := { image, saving := none } }).restore image.loaded).handOver level

/-- The image after power is lost or the RESET pin asserted: one whose write stopped part-way fails its check (R161). -/
def State.imageAtPowerLoss (s : State) : Image :=
  if s.busy then .written s.workingItems false else s.cs.image

/-- POWER_ON_RESET (R155). -/
def execPowerOnReset (incident : Bool) (s : State) : Host.Outcome State Fault Refusal :=
  .next (s.afterReset s.imageAtPowerLoss State.reset.tb incident)

/-- The Time Base after the RESET request: the clock carries through, and the tick count and the master cycle time are 0 (R31, R32, R35). -/
def TimeBase.afterRequest (tb : TimeBase) : TimeBase :=
  { State.reset.tb with time := tb.time, day := tb.day, clockSet := tb.clockSet }

/-- The RESET request is carried out now: since its acceptance the transmit queue has been sent empty, and the tick is at its end (R154,
step 4). A notice placed after that moment holds nothing up (log entry 28). -/
def State.resetDue (s : State) : Bool := s.hli.emptied && s.slotOver

/-- RESET_CARRIED_OUT (R154). -/
def execResetCarriedOut (incident : Bool) (s : State) : Host.Outcome State Fault Refusal :=
  if s.resetDue then .next (s.afterReset s.cs.image s.tb.afterRequest incident) else .next s

/-- RESET at its owner: from its acceptance bytes on HRX are ignored (R154). -/
def State.ownReset (s : State) : Result × State :=
  if s.busy then (.busy, s)
  else (.ok [], { s with hli := { s.hli with rx := .ignoring } })

end Sys2Proof.Machine
end

