-- ==== Sys2Proof/WellFormed.lean ====
section
/-! DEFINITION. Which commands the controller's lines can carry. -/

namespace Sys2Proof

/-- A host frame's payload is 1 to 250 bytes (Table 10-1). -/
def payloadFits (payload : List Byte) : Bool :=
  1 ≤ payload.length && payload.length ≤ 250

/-- The request kinds are 0x01 to 0x18 (Table 10-3). -/
def isRequestKind (kind : Byte) : Bool :=
  1 ≤ kind.toNat && kind.toNat ≤ 0x18

/-- The command can be sent: its frame has the form its line gives it. -/
def Instr.wellFormed : Instr → Bool
  | .powerOnReset _ => true
  | .tick => true
  | .minuteBoundary => true
  | .masterBoundary => true
  | .incidentChange _ => true
  | .localZero _ => true
  | .orderPoint _ => true
  | .orderDeadlinePassed _ => true
  | .reviseLatestTickPassed _ => true
  | .transitExpiry _ => true
  | .emergencyExpiry _ => true
  | .routeDue _ => true
  | .routeTooLate _ => true
  | .routeRefused _ => true
  | .slotStart => true
  | .exchangeEnd _ _ _ => true
  | .saveComplete _ => true
  -- kind, echo and check beside a payload of 1 to 250 bytes (R145)
  | .hostFrameReceived rest => 5 ≤ rest.length && rest.length ≤ 254
  | .hostFrameAbandoned => true
  | .hostFrameSent => true
  | .badKind kind _ payload => !isRequestKind kind && payloadFits payload
  | .defineCorridor _ payload => payloadFits payload
  | .loadStation _ payload => payloadFits payload
  | .loadPlan _ payload => payloadFits payload
  | .queryPlan _ payload => payloadFits payload
  | .addSchedule _ payload => payloadFits payload
  | .deleteSchedule _ payload => payloadFits payload
  | .setClock _ payload => payloadFits payload
  | .start _ payload => payloadFits payload
  | .stop _ payload => payloadFits payload
  | .selectPlan _ payload => payloadFits payload
  | .releasePlan _ payload => payloadFits payload
  | .holdStation _ payload => payloadFits payload
  | .setPriorityMask _ payload => payloadFits payload
  | .setIncident _ payload => payloadFits payload
  | .setAutostart _ payload => payloadFits payload
  | .routeClear _ payload => payloadFits payload
  | .cancelRequest _ payload => payloadFits payload
  | .queryCorridor _ payload => payloadFits payload
  | .queryStation _ payload => payloadFits payload
  | .queryRequests _ payload => payloadFits payload
  | .readEvents _ payload => payloadFits payload
  | .setNotice _ payload => payloadFits payload
  | .save _ payload => payloadFits payload
  | .reset _ payload => payloadFits payload
  | .waitingFrameRefused => true
  | .resetCarriedOut _ => true
  | .hostFrameBegun _ => true

end Sys2Proof
end

