-- ==== Sys2Proof/Machine/Host.lean ====
section
/-! DEFINITION. The host link: receiving, taking and answering request frames (Chapter 10), and the meaning of every request row: the
host sends the whole frame, and it is accepted. -/

namespace Sys2Proof.Machine

/-! ## Taking a request (R146, R149) -/

/-- The fixed payload length of a kind; LOAD_STATION and LOAD_PLAN have none (Table 10-3). -/
def fixedLength : Nat → Option Nat
  | 0x02 => none
  | 0x03 => none
  | 0x05 => some 4
  | 0x06 => some 3
  | 0x07 => some 5
  | 0x0C => some 2
  | 0x0D => some 3
  | 0x0E => some 3
  | 0x10 => some 9
  | 0x11 => some 2
  | 0x13 => some 2
  | 0x14 => some 2
  | _ => some 1

/-- The owner of a request kind serves a payload (Table 10-3). -/
def State.owner (s : State) (kind : Nat) (p : List Byte) : Result × State :=
  match kind with
  | 0x01 => s.ownDefineCorridor p
  | 0x02 => s.ownLoadStation p
  | 0x03 => s.ownLoadPlan p
  | 0x04 => s.ownQueryPlan p
  | 0x05 => s.ownAddSchedule p
  | 0x06 => s.ownDeleteSchedule p
  | 0x07 => s.ownSetClock p
  | 0x08 => s.enableRequest true .start
  | 0x09 => s.enableRequest false .stop
  | 0x0A => s.ownSelectPlan p
  | 0x0B => s.ownReleasePlan
  | 0x0C => s.ownHoldStation p
  | 0x0D => s.ownSetPriorityMask p
  | 0x0E => s.ownSetIncident p
  | 0x0F => s.ownSetAutostart p
  | 0x10 => s.ownRouteClear p
  | 0x11 => s.ownCancelRequest p
  | 0x12 => (.ok s.corridorBytes, s)
  | 0x13 => (s.ownQueryStation p, s)
  | 0x14 => (s.ownQueryRequests p, s)
  | 0x15 => s.ownReadEvents
  | 0x16 => s.ownSetNotice p
  | 0x17 => s.ownSave
  | 0x18 => s.ownReset
  | _ => (.badKind, s)

/-- The result of a taken frame, after the HLI's own two checks (R149). -/
def State.serve (s : State) (f : HostFrame) : Result × State :=
  if !isRequestKind f.kind then (.badKind, s)
  else if (fixedLength f.kind.toNat).any (· ≠ f.payload.length) then (.badLength, s)
  else s.owner f.kind.toNat f.payload

/-- A frame is taken: it is served, and its reply placed (R146, R148). -/
def State.takeFrame (s : State) (f : HostFrame) : State :=
  let (r, s') := s.serve f
  s'.reply f r

/-- No frame of the transmit queue waits to begin: it holds at most the frame being sent (R146, R147). -/
def State.nothingWaits (s : State) : Bool := s.hli.transmit.length ≤ 1

/-- An accepted frame is offered to the receive queue: it is taken at once, joins the queue, or is lost as an overrun (R146). -/
def State.offer (s : State) (f : HostFrame) : State :=
  if s.hli.received.isEmpty && s.nothingWaits then s.takeFrame f
  else if s.hli.received.length < Config.receiveLimit then
    { s with hli := { s.hli with received := s.hli.received ++ [f] } }
  else { s with hli := { s.hli with overrun := true } }

/-- The frame at the head of the receive queue is taken, when nothing waits to begin (R146). -/
def State.takeWaiting (s : State) : State :=
  match s.hli.received with
  | f :: rest =>
    if s.nothingWaits then ({ s with hli := { s.hli with received := rest } }).takeFrame f else s
  | [] => s

/-! ## Frames on the host line (R145 to R147, R154) -/

/-- A whole frame from the host arrives with a good check: it is accepted, unless bytes are being ignored or no frame has a payload of
its length (R145). -/
def State.hostFrame (s : State) (kind echo : Byte) (payload : List Byte) : State :=
  if s.hli.rx = .ignoring || !payloadFits payload then s
  else ({ s with hli := { s.hli with rx := .hunting } }).offer { kind, echo, payload }

/-- HOST_FRAME_BEGUN (R145): a 0xA5 and a length byte are found while hunting. -/
def execHostFrameBegun (length : Byte) (s : State) : Host.Outcome State Fault Refusal :=
  if s.hli.rx = .hunting && 1 ≤ length.toNat && length.toNat ≤ 250 then
    .next { s with hli := { s.hli with rx := .gathering length.toNat } }
  else .next s

/-- The frame being gathered, complete with the bytes after its length byte: an accepted frame when its check matches (R145). -/
def gathered (length : Nat) (rest : List Byte) : Option HostFrame :=
  let body := rest.take (length + 2)
  match body with
  | kind :: echo :: payload =>
    if rd16 rest (length + 2) = (crc (be8 length ++ body)).toNat then some { kind, echo, payload } else none
  | _ => none

/-- HOST_FRAME_RECEIVED (R145): the frame being gathered is complete with the bytes given. -/
def execHostFrameReceived (rest : List Byte) (s : State) : Host.Outcome State Fault Refusal :=
  match s.hli.rx with
  | .gathering length =>
    if rest.length = length + 4 then
      let s := { s with hli := { s.hli with rx := .hunting } }
      match gathered length rest with
      | some f => .next (s.offer f)
      | none => .next s
    else .next s
  | .hunting | .ignoring => .next s

/-- HOST_FRAME_ABANDONED (R145). -/
def execHostFrameAbandoned (s : State) : Host.Outcome State Fault Refusal :=
  match s.hli.rx with
  | .gathering _ => .next { s with hli := { s.hli with rx := .hunting } }
  | .hunting | .ignoring => .next s

/-- The head frame of the transmit queue has been sent, and the next begins (R147). -/
def State.frameSent (s : State) : State :=
  ({ s with hli := { s.hli with transmit := s.hli.transmit.tail } }).beginHead

/-- The transmit queue has been sent empty with no request waiting, which is noted while a RESET is being carried out (R154, step 4). -/
def State.noteEmptied (s : State) : State :=
  if s.hli.transmit.isEmpty && s.hli.received.isEmpty then { s with hli := { s.hli with emptied := true } } else s

/-- HOST_FRAME_SENT (R147): the head frame leaves the transmit queue, and a waiting request is taken. While a RESET request is being
carried out a waiting frame is taken by WAITING_FRAME_REFUSED instead, and a queue sent empty is noted (R154). -/
def execHostFrameSent (s : State) : Host.Outcome State Fault Refusal :=
  if s.hli.transmit.isEmpty then .next s
  else if s.hli.rx = .ignoring then .next s.frameSent.noteEmptied
  else .next s.frameSent.takeWaiting

/-- WAITING_FRAME_REFUSED (R154, step 3): after an accepted RESET a waiting frame is taken and answered BAD_STATE. -/
def execWaitingFrameRefused (s : State) : Host.Outcome State Fault Refusal :=
  match s.hli.received with
  | f :: rest =>
    if s.hli.rx = .ignoring && s.nothingWaits then
      .next (({ s with hli := { s.hli with received := rest } }).reply f .badState)
    else .next s
  | [] => .next s

/-! ## The request rows (Table 10-3) -/

/-- BAD_KIND (R149): a frame whose kind is no request kind. -/
def execBadKind (kind echo : Byte) (payload : List Byte) (s : State) : Host.Outcome State Fault Refusal :=
  if isRequestKind kind then .next s else .next (s.hostFrame kind echo payload)

/-- DEFINE_CORRIDOR (R5). -/
def execDefineCorridor (echo : Byte) (payload : List Byte) (s : State) : Host.Outcome State Fault Refusal :=
  .next (s.hostFrame 0x01 echo payload)

/-- LOAD_STATION (R7). -/
def execLoadStation (echo : Byte) (payload : List Byte) (s : State) : Host.Outcome State Fault Refusal :=
  .next (s.hostFrame 0x02 echo payload)

/-- LOAD_PLAN (R17). -/
def execLoadPlan (echo : Byte) (payload : List Byte) (s : State) : Host.Outcome State Fault Refusal :=
  .next (s.hostFrame 0x03 echo payload)

/-- QUERY_PLAN (R19). -/
def execQueryPlan (echo : Byte) (payload : List Byte) (s : State) : Host.Outcome State Fault Refusal :=
  .next (s.hostFrame 0x04 echo payload)

/-- ADD_SCHEDULE (R28). -/
def execAddSchedule (echo : Byte) (payload : List Byte) (s : State) : Host.Outcome State Fault Refusal :=
  .next (s.hostFrame 0x05 echo payload)

/-- DELETE_SCHEDULE (R29). -/
def execDeleteSchedule (echo : Byte) (payload : List Byte) (s : State) : Host.Outcome State Fault Refusal :=
  .next (s.hostFrame 0x06 echo payload)

/-- SET_CLOCK (R34). -/
def execSetClock (echo : Byte) (payload : List Byte) (s : State) : Host.Outcome State Fault Refusal :=
  .next (s.hostFrame 0x07 echo payload)

/-- START (R37). -/
def execStart (echo : Byte) (payload : List Byte) (s : State) : Host.Outcome State Fault Refusal :=
  .next (s.hostFrame 0x08 echo payload)

/-- STOP (R37). -/
def execStop (echo : Byte) (payload : List Byte) (s : State) : Host.Outcome State Fault Refusal :=
  .next (s.hostFrame 0x09 echo payload)

/-- SELECT_PLAN (R25). -/
def execSelectPlan (echo : Byte) (payload : List Byte) (s : State) : Host.Outcome State Fault Refusal :=
  .next (s.hostFrame 0x0A echo payload)

/-- RELEASE_PLAN (R26). -/
def execReleasePlan (echo : Byte) (payload : List Byte) (s : State) : Host.Outcome State Fault Refusal :=
  .next (s.hostFrame 0x0B echo payload)

/-- HOLD_STATION (R54). -/
def execHoldStation (echo : Byte) (payload : List Byte) (s : State) : Host.Outcome State Fault Refusal :=
  .next (s.hostFrame 0x0C echo payload)

/-- SET_PRIORITY_MASK (R117). -/
def execSetPriorityMask (echo : Byte) (payload : List Byte) (s : State) : Host.Outcome State Fault Refusal :=
  .next (s.hostFrame 0x0D echo payload)

/-- SET_INCIDENT (R57). -/
def execSetIncident (echo : Byte) (payload : List Byte) (s : State) : Host.Outcome State Fault Refusal :=
  .next (s.hostFrame 0x0E echo payload)

/-- SET_AUTOSTART (R38). -/
def execSetAutostart (echo : Byte) (payload : List Byte) (s : State) : Host.Outcome State Fault Refusal :=
  .next (s.hostFrame 0x0F echo payload)

/-- ROUTE_CLEAR (R126). -/
def execRouteClear (echo : Byte) (payload : List Byte) (s : State) : Host.Outcome State Fault Refusal :=
  .next (s.hostFrame 0x10 echo payload)

/-- CANCEL_REQUEST (R130). -/
def execCancelRequest (echo : Byte) (payload : List Byte) (s : State) : Host.Outcome State Fault Refusal :=
  .next (s.hostFrame 0x11 echo payload)

/-- QUERY_CORRIDOR (R45). -/
def execQueryCorridor (echo : Byte) (payload : List Byte) (s : State) : Host.Outcome State Fault Refusal :=
  .next (s.hostFrame 0x12 echo payload)

/-- QUERY_STATION (R151). -/
def execQueryStation (echo : Byte) (payload : List Byte) (s : State) : Host.Outcome State Fault Refusal :=
  .next (s.hostFrame 0x13 echo payload)

/-- QUERY_REQUESTS (R132). -/
def execQueryRequests (echo : Byte) (payload : List Byte) (s : State) : Host.Outcome State Fault Refusal :=
  .next (s.hostFrame 0x14 echo payload)

/-- READ_EVENTS (R157). -/
def execReadEvents (echo : Byte) (payload : List Byte) (s : State) : Host.Outcome State Fault Refusal :=
  .next (s.hostFrame 0x15 echo payload)

/-- SET_NOTICE (R152). -/
def execSetNotice (echo : Byte) (payload : List Byte) (s : State) : Host.Outcome State Fault Refusal :=
  .next (s.hostFrame 0x16 echo payload)

/-- SAVE (R159). -/
def execSave (echo : Byte) (payload : List Byte) (s : State) : Host.Outcome State Fault Refusal :=
  .next (s.hostFrame 0x17 echo payload)

/-- RESET (R154). -/
def execReset (echo : Byte) (payload : List Byte) (s : State) : Host.Outcome State Fault Refusal :=
  .next (s.hostFrame 0x18 echo payload)

end Sys2Proof.Machine
end

