-- ==== Sys2Proof/Machine/Dispatch.lean ====
section
/-! DEFINITION. One arm per command: a call of its meaning. -/

namespace Sys2Proof.Machine

-- Every command has its meaning; no arm is rejected.
def exec (i : Instr) (s : State) : Host.Outcome State Fault Refusal :=
  match i with
  | .powerOnReset incident => Sys2Proof.Machine.execPowerOnReset incident s
  | .tick => Sys2Proof.Machine.execTick s
  | .minuteBoundary => Sys2Proof.Machine.execMinuteBoundary s
  | .masterBoundary => Sys2Proof.Machine.execMasterBoundary s
  | .incidentChange level => Sys2Proof.Machine.execIncidentChange level s
  | .localZero k => Sys2Proof.Machine.execLocalZero k s
  | .orderPoint k => Sys2Proof.Machine.execOrderPoint k s
  | .orderDeadlinePassed k => Sys2Proof.Machine.execOrderDeadlinePassed k s
  | .reviseLatestTickPassed k => Sys2Proof.Machine.execReviseLatestTickPassed k s
  | .transitExpiry slot => Sys2Proof.Machine.execTransitExpiry slot s
  | .emergencyExpiry slot => Sys2Proof.Machine.execEmergencyExpiry slot s
  | .routeDue slot => Sys2Proof.Machine.execRouteDue slot s
  | .routeTooLate slot => Sys2Proof.Machine.execRouteTooLate slot s
  | .routeRefused slot => Sys2Proof.Machine.execRouteRefused slot s
  | .slotStart => Sys2Proof.Machine.execSlotStart s
  | .exchangeEnd heard returnFirst queuesFirst => Sys2Proof.Machine.execExchangeEnd heard returnFirst queuesFirst s
  | .saveComplete passes => Sys2Proof.Machine.execSaveComplete passes s
  | .hostFrameReceived rest => Sys2Proof.Machine.execHostFrameReceived rest s
  | .hostFrameAbandoned => Sys2Proof.Machine.execHostFrameAbandoned s
  | .hostFrameSent => Sys2Proof.Machine.execHostFrameSent s
  | .badKind kind echo payload => Sys2Proof.Machine.execBadKind kind echo payload s
  | .defineCorridor echo payload => Sys2Proof.Machine.execDefineCorridor echo payload s
  | .loadStation echo payload => Sys2Proof.Machine.execLoadStation echo payload s
  | .loadPlan echo payload => Sys2Proof.Machine.execLoadPlan echo payload s
  | .queryPlan echo payload => Sys2Proof.Machine.execQueryPlan echo payload s
  | .addSchedule echo payload => Sys2Proof.Machine.execAddSchedule echo payload s
  | .deleteSchedule echo payload => Sys2Proof.Machine.execDeleteSchedule echo payload s
  | .setClock echo payload => Sys2Proof.Machine.execSetClock echo payload s
  | .start echo payload => Sys2Proof.Machine.execStart echo payload s
  | .stop echo payload => Sys2Proof.Machine.execStop echo payload s
  | .selectPlan echo payload => Sys2Proof.Machine.execSelectPlan echo payload s
  | .releasePlan echo payload => Sys2Proof.Machine.execReleasePlan echo payload s
  | .holdStation echo payload => Sys2Proof.Machine.execHoldStation echo payload s
  | .setPriorityMask echo payload => Sys2Proof.Machine.execSetPriorityMask echo payload s
  | .setIncident echo payload => Sys2Proof.Machine.execSetIncident echo payload s
  | .setAutostart echo payload => Sys2Proof.Machine.execSetAutostart echo payload s
  | .routeClear echo payload => Sys2Proof.Machine.execRouteClear echo payload s
  | .cancelRequest echo payload => Sys2Proof.Machine.execCancelRequest echo payload s
  | .queryCorridor echo payload => Sys2Proof.Machine.execQueryCorridor echo payload s
  | .queryStation echo payload => Sys2Proof.Machine.execQueryStation echo payload s
  | .queryRequests echo payload => Sys2Proof.Machine.execQueryRequests echo payload s
  | .readEvents echo payload => Sys2Proof.Machine.execReadEvents echo payload s
  | .setNotice echo payload => Sys2Proof.Machine.execSetNotice echo payload s
  | .save echo payload => Sys2Proof.Machine.execSave echo payload s
  | .reset echo payload => Sys2Proof.Machine.execReset echo payload s
  | .waitingFrameRefused => Sys2Proof.Machine.execWaitingFrameRefused s
  | .resetCarriedOut incident => Sys2Proof.Machine.execResetCarriedOut incident s
  | .hostFrameBegun length => Sys2Proof.Machine.execHostFrameBegun length s

end Sys2Proof.Machine
end

