-- ==== Sys2Proof/Safety.lean ====
section
/-! DEFINITION. What counts as a safe state: the laws that the manual says the blocks keep, and the words in which claims about
request frames are stated. -/

namespace Sys2Proof.Machine

/-! ## Laws of the state -/

/-- A notice that is being sent counts 1 to 32 records (R153). -/
def TxFrame.counted : TxFrame → Bool
  | .notice (some n) => 1 ≤ n && n ≤ Config.eventLimit
  | .notice none => true
  | .reply _ _ _ => true

/-- The queues: at most 32 event records (R156), 4 waiting requests (R146), and 3 frames to send, of which one is being sent (R147);
an armed notice flag leaves room for its notice (R152); a frame being sent has its content, a notice waiting to begin has records to
count, and a notice being sent counts 1 to 32 (R153); and a transmit queue is noted as sent empty only while bytes are ignored and no
request waits (R154). -/
abbrev State.QueueLaw (s : State) : Prop :=
  s.eq.records.length ≤ Config.eventLimit ∧ s.hli.received.length ≤ Config.receiveLimit ∧ s.hli.transmit.length ≤ 3
    ∧ (s.hli.armed = true → s.hli.transmit.length ≤ 2 ∧ s.hli.notice = true)
    ∧ s.hli.transmit.head? ≠ some (.notice none)
    ∧ (.notice none ∈ s.hli.transmit → s.eq.records ≠ [])
    ∧ (∀ f ∈ s.hli.transmit, f.counted = true)
    ∧ (s.hli.emptied = true → s.hli.rx = .ignoring ∧ s.hli.received = [])

/-- The request table: at most 24 entries in distinct slots, at most one of a station ACTIVE (R114), at most one of a station posted,
and none posted at a station with an ACTIVE emergency (R127). -/
abbrev State.TableLaw (s : State) : Prop :=
  s.table.length ≤ Config.tableSize ∧ (s.table.map (·.slot)).Nodup
    ∧ (∀ k : StationIx, (s.table.filter fun e => e.station = k && e.state = .active).length ≤ 1)
    ∧ (∀ k : StationIx, (s.table.filter fun e => e.station = k && e.posted).length ≤ 1)
    ∧ ∀ e ∈ s.table, e.posted = true → s.activeEmergency e.station = none

/-- The fields of one entry as Tables 8-1 and 8-2 allow them. A TRANSIT entry comes from a station, has level 1 to 3 and is never seen
set; an EMERGENCY entry has level 4 to 7, is not masked, and holds no grant, so no grant's frame is outstanding (R116, R124). A
STATION entry has no due tick, no PREEMPT and no tick of delivery, and is never SCHEDULED; a ROUTE entry is an EMERGENCY with a due
tick (R126, R127). A posted entry is SCHEDULED (R127), and an entry whose grant's frame is outstanding is ACTIVE (R119, R120, R122). -/
abbrev Entry.Law (e : Entry) : Prop :=
  (e.cls = .transit → e.origin = .station ∧ 1 ≤ e.level ∧ e.level ≤ 3 ∧ e.seen = false)
    ∧ (e.cls = .emergency → 4 ≤ e.level ∧ e.level ≤ 7 ∧ e.masked = false ∧ e.grant = none ∧ e.outstanding = false)
    ∧ (e.origin = .station → e.due = none ∧ e.posted = false ∧ e.delivered = none ∧ e.state ≠ .scheduled)
    ∧ (e.origin = .route → e.due ≠ none)
    ∧ (e.posted = true → e.state = .scheduled) ∧ (e.outstanding = true → e.state = .active)

/-- Every entry of the request table keeps Tables 8-1 and 8-2. -/
abbrev State.EntryLaw (s : State) : Prop := ∀ e ∈ s.table, e.Law

/-- The links: a station whose link is LOST has a miss count of 3, is FREE (R141), and has no waiting REVISE: the entry to FREE withdraws
it (R48, R112), and one is built for a SEEKING or IN_STEP station only (R119). -/
abbrev State.LinkLaw (s : State) : Prop :=
  ∀ k : StationIx, (s.st k).link = .lost → (s.st k).misses = 3 ∧ (s.st k).coord = .free ∧ (s.st k).revise = none

/-- The corridor: an active plan is present exactly while RUNNING or STOPPING, and a staged one only while RUNNING (R20); in IDLE the
master cycle time is 0 (R35) and every station FREE (R46); while STOPPING a station that is not FREE has its RELEASE outstanding
(R43); and a synchronised station is SEEKING or IN_STEP (R51). -/
abbrev State.CorridorLaw (s : State) : Prop :=
  (s.ps.active = none ↔ s.ps.corridor = .idle)
    ∧ (s.ps.staged ≠ none → s.ps.corridor = .running)
    ∧ (s.ps.corridor = .idle → s.tb.m = 0 ∧ ∀ k : StationIx, (s.st k).coord = .free)
    ∧ (s.ps.corridor = .stopping → ∀ k : StationIx, (s.st k).coord ≠ .free → s.releaseOut k = true)
    ∧ ∀ k : StationIx, (s.st k).synced = true → (s.st k).coordinated = true

/-- The plans in service: every stored verdict is the judgement against the geometry as it stands (R16), and the active and staged
plans, which are absent in IDLE, are valid (R20, R21). -/
abbrev State.ServiceLaw (s : State) : Prop :=
  (∀ g : Fin 8, ∀ x ∈ s.ps.slots[g], x.verdict = s.judge x.plan)
    ∧ (s.ps.corridor = .idle → s.ps.active = none ∧ s.ps.staged = none)
    ∧ (∀ g ∈ s.ps.active, s.planValid g = true) ∧ ∀ g ∈ s.ps.staged, s.planValid g = true

/-- The fields of a plan record lie in their ranges (R14, Table 2-1). -/
abbrev Plan.fits (p : Plan) : Prop :=
  400 ≤ p.cycle ∧ p.cycle ≤ 2400 ∧ p.cycle % 10 = 0 ∧ p.base < p.cycle ∧ p.ref ≤ 15 ∧ p.weight ≤ 100 ∧ p.weight % 5 = 0
    ∧ (p.tidal.isSome = true ↔ p.mode = .tidal) ∧ (∀ k ∈ p.tidal, k ≤ 15) ∧ p.shorten ≤ 30 ∧ 5 ≤ p.lengthen ∧ p.lengthen ≤ 40
    ∧ 5 ≤ p.stepLimit ∧ p.stepLimit ≤ 120 ∧ p.advanceCap ≤ 300 ∧ p.maxExtension ≤ 200 ∧ p.lockout ≤ 8
    ∧ 1 ≤ p.items.length ∧ p.items.length ≤ 16
    ∧ ∀ i ∈ p.items, 2 ≤ i.splits.length ∧ i.splits.length ≤ 6 ∧ ∀ x ∈ i.splits, 50 ≤ x ∧ x ≤ 2400

/-- The fields of a configuration part lie in their ranges (R2, Table 1-1). -/
abbrev StationConfig.fits (c : StationConfig) : Prop :=
  1 ≤ c.drop ∧ c.drop ≤ 31 ∧ 2 ≤ c.minimums.length ∧ c.minimums.length ≤ 6 ∧ (∀ x ∈ c.minimums, 50 ≤ x ∧ x ≤ 600)
    ∧ 15 ≤ c.headwayIn ∧ c.headwayIn ≤ 40 ∧ 15 ≤ c.headwayOut ∧ c.headwayOut ≤ 40
    ∧ ∀ l ∈ c.link, 20 ≤ l.distance ∧ l.distance ≤ 3000 ∧ 15 ≤ l.vIn ∧ l.vIn ≤ 90 ∧ 15 ≤ l.vOut ∧ l.vOut ≤ 90

/-- The stored items lie in their ranges: N (R1), the configuration parts, of stations below N only (R2, Table 1-1), the plan records
(R14, Table 2-1), and the schedule (R27). -/
abbrev itemsFit (count : Option Nat) (config : StationIx → Option StationConfig) (plan : Fin 8 → Option Plan)
    (schedule : List ScheduleEntry) : Prop :=
  (∀ n ∈ count, 2 ≤ n ∧ n ≤ 16)
    ∧ (∀ k : StationIx, ∀ c ∈ config k, c.fits ∧ count.any (k.val < ·) = true)
    ∧ (∀ g : Fin 8, ∀ p ∈ plan g, p.fits)
    ∧ schedule.length ≤ Config.scheduleSize ∧ ∀ e ∈ schedule, e.start ≤ 1439 ∧ e.days ≠ 0 ∧ e.plan ≤ 8

/-- The working values of the stored items lie in their ranges, and so do those of an image that passes its check (R158, R159). -/
abbrev State.ItemLaw (s : State) : Prop :=
  itemsFit s.count (fun k => (s.st k).config) (fun g => (s.ps.slots[g]).map (·.plan)) s.ps.schedule
    ∧ (s.cs.image.passes = true → itemsFit s.cs.image.items.count (fun k => s.cs.image.items.configs[k])
      (fun g => s.cs.image.items.plans[g]) s.cs.image.items.schedule)

/-- One station's counts: the miss count and the queue age are 0 to 3 (R72, R141), the queues 0 to 60 (R72), and the lockout count 0 to 8
(R121, Table 2-1). -/
abbrev Station.CountLaw (t : Station) : Prop :=
  t.misses ≤ 3 ∧ t.age ≤ 3 ∧ t.queueIn ≤ Config.queueLimit ∧ t.queueOut ≤ Config.queueLimit ∧ t.lockout ≤ 8

/-- The ranges: time of day and day (R32), non-routine count (R139), polling pointer (R140), W_eff (R76), tidal accumulators and ring
(R77), and every station's counts; the master cycle time is below the active plan's C (R35), and a station's raw target and T are below
its Cl, and absent in IDLE (R60). -/
abbrev State.CountLaw (s : State) : Prop :=
  s.tb.time < Config.dayTicks ∧ 1 ≤ s.tb.day ∧ s.tb.day ≤ 7 ∧ s.clc.nonRoutine ≤ Config.nonRoutineLimit
    ∧ s.clc.pollPtr < s.count.getD 16 ∧ s.mu.weight ≤ 100
    ∧ s.mu.accIn ≤ Config.countLimit ∧ s.mu.accOut ≤ Config.countLimit ∧ s.mu.ring.length ≤ 4
    ∧ (∀ x ∈ s.mu.ring, x.1 ≤ Config.countLimit ∧ x.2 ≤ Config.countLimit)
    ∧ (∀ k : StationIx, (s.st k).CountLaw)
    ∧ (∀ p ∈ s.activePlan, s.tb.m < p.cycle
      ∧ ∀ k : StationIx, (∀ x ∈ (s.st k).raw, x < p.localCycle k) ∧ ∀ x ∈ (s.st k).target, x < p.localCycle k)
    ∧ (s.ps.corridor = .idle → ∀ k : StationIx, (s.st k).raw = none ∧ (s.st k).target = none)

/-! ## A lawful cycle (R103) -/

/-- The ends rise strictly from above `a`, and the last of them is `l`. -/
def risesTo (l : Nat) : Nat → List Nat → Bool
  | a, [] => a = l
  | a, x :: xs => a < x && risesTo l x xs

/-- A cycle keeps R103's law for a list of minimums and a longest length: rising ends, the last equal to its length, no interval
below its minimum, and a length between the sum of the minimums and the longest. -/
abbrev Course.lawful (c : Course) (mins : List Nat) (longest : Nat) : Prop :=
  risesTo c.length 0 c.ends = true ∧ c.ends.length = mins.length ∧ (∀ x ∈ c.intervals.zip mins, x.2 ≤ x.1)
    ∧ mins.sum ≤ c.length ∧ c.length ≤ longest

/-- The longest cycle that a plan's corrections give at a station: Cl + G (R92, R94). -/
def Plan.longest (p : Plan) (k : StationIx) : Nat := p.localCycle k + p.localCycle k * p.lengthen / 100

/-- The waiting cycle orders: a station whose link is ONLINE or that is not FREE is loaded, and with no minimums change pending the stored
minimums are in force (R3). A station with a waiting cycle order is SEEKING or IN_STEP and synchronised in a RUNNING corridor (R42, R48,
R49, R106), and the order's cycle keeps R103's law for the minimums in force. Until a take-over falls, the order's plan is the active
one (R108), its splits fit those minimums (R15), and its longest cycle bounds the order's (R94). -/
abbrev State.OrderLaw (s : State) : Prop :=
  ∀ k : StationIx,
    ((s.st k).link = .online ∨ (s.st k).coord ≠ .free → (s.st k).config ≠ none)
      ∧ (∀ c ∈ (s.st k).config, (s.st k).minsInForce.length = c.phases ∧ (∀ y ∈ (s.st k).minsInForce, 50 ≤ y ∧ y ≤ 600)
        ∧ ((s.st k).minsPending = false → (s.st k).minsInForce = c.minimums))
      ∧ ∀ o ∈ (s.st k).order, ∀ b ∈ o.body,
        s.ps.corridor = .running ∧ (s.st k).coordinated = true ∧ (s.st k).synced = true
          ∧ b.course.lawful (s.st k).minsInForce 3360
          ∧ (b.takenOver = false → s.ps.active = some b.plan ∧ ∀ x ∈ s.slot b.plan,
            judgeItem x.plan k (s.st k).minsInForce = none ∧ b.course.lawful (s.st k).minsInForce (x.plan.longest k))

/-! ## Written events -/

/-- The state after a list of events is written, one after another. -/
def State.emitAll (s : State) (l : List EventBody) : State := l.foldl State.emit s

/-- The Event Queue and the host link stand in `t` as they do after the events `l` are written in `s`. -/
abbrev State.wrote (s t : State) (l : List EventBody) : Prop :=
  t.eq = (s.emitAll l).eq ∧ t.hli = (s.emitAll l).hli

/-- The record that is written for an event in `s` (R156). -/
def State.record (s : State) (b : EventBody) : Event where
  time := if s.tb.clockSet then some s.tb.time else none
  body := b

/-- From `s` to `t` the entries that `p` picks have left the table. The others keep their slots, tags and order, but for a TRANSIT entry
that a STATION emergency of its station, taken up on the way, superseded (R115, R124, R125). -/
abbrev State.without (s t : State) (p : Entry → Bool) : Prop :=
  (t.table.map fun e => (e.slot, e.tag)).Sublist ((s.table.filter fun e => !p e).map fun e => (e.slot, e.tag))
    ∧ ∀ x ∈ s.table, p x = false → (∀ y ∈ t.table, y.slot ≠ x.slot) →
      x.cls = .transit ∧ ∃ y ∈ s.table, y.station = x.station ∧ y.cls = .emergency ∧ y.origin = .station

/-- From `s` to `t` an entry has left the table with an outcome: its slot is free, its REQUEST_END is the next record when the queue has
room, and only the blocks that a departure reaches have changed (R115). -/
abbrev State.departed (s t : State) (e : Entry) (o : ReqOutcome) : Prop :=
  s.without t (·.slot = e.slot)
    ∧ (s.eq.records.length < Config.eventLimit →
      ∃ more, t.eq.records = s.eq.records ++ s.record (.requestEnd e.station o e.grant e.tag) :: more)
    ∧ t = { s with stations := t.stations, clc := t.clc, table := t.table, eq := t.eq, hli := t.hli }

/-! ## Exchanges -/

/-- The exchange `x` is in progress with a station of configuration `c`, its result counts, and what is heard reads as the reply `r`
(R136, R141). -/
abbrev State.replied (s : State) (x : Exchange) (c : StationConfig) (heard : List Byte) (r : Status) : Prop :=
  s.clc.exchange = some x ∧ x.discarded = false ∧ (s.st x.station).config = some c ∧ readReply c.drop c.phases heard = .ok r

/-- The reply changes no link and no hold at the station: the link is ONLINE, the flags are those last reported, and the effective hold is
what the sources give (R53, R55, R142). -/
abbrev State.steady (s : State) (k : StationIx) (r : Status) : Prop :=
  (s.st k).link = .online ∧ (s.st k).manualFlag = r.manual ∧ (s.st k).preemptFlag = r.preempt ∧ (s.st k).hold = s.anySource k

/-- The reply of a tick agrees with the station's model `m` and does not synchronise it, so the model stands (R51, R96). -/
abbrev State.agrees (s : State) (k : StationIx) (tick : Tick) (m : CycleModel) (r : Status) : Prop :=
  (s.st k).model = some m ∧ r.number = m.number ∧ (m.timeDifference tick r.time).natAbs ≤ 3
    ∧ ((s.st k).coord = .seeking → (s.st k).synced = true) ∧ (m.basis = .none → s.activePlan = none)

/-- A frame of URGENT is not offered in the present slot: it was placed in this tick, or it is a REVISE whose latest tick is past
(R112, R133). -/
abbrev State.barred (s : State) (f : UrgentFrame) : Prop :=
  f.placed = s.now ∨ (f.kind = .revise ∧ ∀ r ∈ (s.st f.station).revise, tickDiff r.latest s.now < 0)

/-- A station's waiting order is offered in the present slot: it was placed before this tick, and its deadline is not past (R104, R133). -/
abbrev State.offers (s : State) (k : StationIx) (o : WaitingOrder) : Prop :=
  (s.st k).order = some o ∧ o.placed ≠ s.now ∧ 0 ≤ tickDiff o.deadline s.now

/-! ## After a reset -/

/-- The stored items have been taken as the working values: geometry and minimums in force, plans with their verdicts, the schedule, the
masks, the polarity, and the autostart flag, which is the enable too (R12, R16, R37, R160). -/
abbrev State.loadedFrom (t : State) (i : StoredItems) : Prop :=
  t.count = i.count
    ∧ (∀ k : StationIx, (t.st k).config = i.configs[k] ∧ (t.st k).minsInForce = ((i.configs[k]).map (·.minimums)).getD []
      ∧ (t.st k).minsPending = false ∧ ((t.st k).maskIn, (t.st k).maskOut) = i.masks[k])
    ∧ (∀ g : Fin 8, t.ps.slots[g] = (i.plans[g]).map fun p => { plan := p, verdict := t.judge p })
    ∧ t.ps.schedule = i.schedule ∧ t.hl.polarity = i.polarity ∧ t.ps.autostart = i.autostart ∧ t.ps.enable = i.autostart

/-- The first failing item of a verdict (R15). -/
def Verdict.item : Verdict → Option FailItem
  | .valid => none
  | .invalid item => some item

/-- A station record that holds no stored item but its configuration part and masks: every other part stands at its reset value, with the
stored minimums in force and the effective hold as its sources give it (R3, R12, R46, R53, R55, R60, R72, R81, R100, R121, R141, R143). -/
abbrev State.freshStation (t : State) (k : StationIx) : Prop :=
  t.st k = { Station.blank with
    config := (t.st k).config, minsInForce := ((t.st k).config.map (·.minimums)).getD [], maskIn := (t.st k).maskIn
    maskOut := (t.st k).maskOut, hold := t.anySource k }

/-- Every part that holds no stored item stands at its reset value, but for the enable, the INCIDENT level and the clock; and the may-run
condition has been evaluated with the reason RESET (R160): the corridor runs under the schedule plan, with the two events of R40, W_eff
and m taken from it, or it is IDLE, and a schedule plan that is empty or INVALID is rejected (R24). -/
abbrev State.freshParts (t : State) : Prop :=
  (∀ k : StationIx, t.freshStation k)
    ∧ t.table = [] ∧ t.clc = State.reset.clc ∧ t.hli = State.reset.hli ∧ t.cs.saving = none
    ∧ t.tb.minuteDue = false ∧ t.tb.masterDue = false ∧ t.eq.overflow = false ∧ t.ps.staged = none ∧ t.ps.override = none
    ∧ (if t.ps.enable = true ∧ t.tb.clockSet = true ∧ t.geometryValid = true ∧ t.planValid t.schedulePlan = true then
        t.ps.corridor = .running ∧ t.ps.active = some t.schedulePlan ∧ t.ps.rejection = none
          ∧ (∀ p ∈ t.activePlan, t.tb.m = t.tb.time % p.cycle ∧ t.mu = { State.reset.mu with weight := p.weight })
          ∧ t.eq.records = [t.record (.corridorState .running .reset), t.record (.planTaken t.schedulePlan 0)]
      else
        t.ps.corridor = .idle ∧ t.ps.active = none ∧ t.tb.m = 0 ∧ t.mu = State.reset.mu
          ∧ (t.schedulePlan = 0 ∨ t.planValid t.schedulePlan = true → t.ps.rejection = none ∧ t.eq.records = [])
          ∧ (t.schedulePlan ≠ 0 → t.planValid t.schedulePlan = false → t.ps.rejection = some t.schedulePlan
            ∧ (t.slot t.schedulePlan = none → t.eq.records = [t.record (.planRejected t.schedulePlan .empty none)])
            ∧ ∀ x ∈ t.slot t.schedulePlan, ∀ item ∈ x.verdict.item,
              t.eq.records = [t.record (.planRejected t.schedulePlan item.reason item.station)]))

/-! ## Well-formed content of frames -/

/-- The payload of a LOAD_STATION that carries a configuration part for station `k` (Tables 1-3 and 10-3). -/
def StationConfig.payload (c : StationConfig) (k : StationIx) : List Byte :=
  be8 k.val ++ be8 c.drop ++ be8 c.minimums.length ++ c.minimums.flatMap be16 ++ be8 c.headwayIn ++ be8 c.headwayOut
    ++ flagByte c.honourManual ++ flagByte c.incidentGate
    ++ (match c.link with
      | some l => be16 l.distance ++ be8 l.vIn ++ be8 l.vOut
      | none => [])

/-- The bytes of a notice in a STATUS reply (Table 9-5). -/
def Notice.bytes (n : Notice) : List Byte := be8 n.cls ++ be8 n.level ++ be8 n.dir ++ be16 n.tag.toNat ++ be8 n.eta

/-- The payload of a STATUS reply (Table 9-5). -/
def Status.bytes (r : Status) : List Byte :=
  [r.number] ++ be16 r.time ++ be8 r.phase ++ be8 (r.manual.toNat + 2 * r.preempt.toNat) ++ be8 r.queueIn ++ be8 r.queueOut
    ++ [r.latched] ++ be16 r.countIn ++ be16 r.countOut ++ listBytes (·.bytes) r.notices
    ++ listBytes (fun x => be16 x.toNat) r.checkOuts

/-- The fields of a STATUS reply fit in its bytes, and it has at most two notices and two check-outs (Table 9-5). -/
abbrev Status.fits (r : Status) : Prop :=
  r.time < 65536 ∧ r.phase < 256 ∧ r.queueIn < 256 ∧ r.queueOut < 256 ∧ r.countIn < 65536 ∧ r.countOut < 65536
    ∧ r.notices.length ≤ 2 ∧ r.checkOuts.length ≤ 2
    ∧ ∀ n ∈ r.notices, n.cls < 256 ∧ n.level < 256 ∧ n.dir < 256 ∧ n.eta < 256

/-! ## The schedule (R30) -/

/-- How many minutes before minute `p` of day `d` an entry last began on day `day`, within the past week. -/
def ScheduleEntry.minutesAgo (e : ScheduleEntry) (d p day : Nat) : Nat :=
  ((d + 7 - day) % 7 * 1440 + p + 10080 - e.start) % 10080

end Sys2Proof.Machine

namespace Sys2Proof

/-! ## Request frames -/

/-- The frame that a request row stands for. -/
def Instr.frame : Instr → Option Machine.HostFrame
  | .badKind kind echo payload => some ⟨kind, echo, payload⟩
  | .defineCorridor echo payload => some ⟨0x01, echo, payload⟩
  | .loadStation echo payload => some ⟨0x02, echo, payload⟩
  | .loadPlan echo payload => some ⟨0x03, echo, payload⟩
  | .queryPlan echo payload => some ⟨0x04, echo, payload⟩
  | .addSchedule echo payload => some ⟨0x05, echo, payload⟩
  | .deleteSchedule echo payload => some ⟨0x06, echo, payload⟩
  | .setClock echo payload => some ⟨0x07, echo, payload⟩
  | .start echo payload => some ⟨0x08, echo, payload⟩
  | .stop echo payload => some ⟨0x09, echo, payload⟩
  | .selectPlan echo payload => some ⟨0x0A, echo, payload⟩
  | .releasePlan echo payload => some ⟨0x0B, echo, payload⟩
  | .holdStation echo payload => some ⟨0x0C, echo, payload⟩
  | .setPriorityMask echo payload => some ⟨0x0D, echo, payload⟩
  | .setIncident echo payload => some ⟨0x0E, echo, payload⟩
  | .setAutostart echo payload => some ⟨0x0F, echo, payload⟩
  | .routeClear echo payload => some ⟨0x10, echo, payload⟩
  | .cancelRequest echo payload => some ⟨0x11, echo, payload⟩
  | .queryCorridor echo payload => some ⟨0x12, echo, payload⟩
  | .queryStation echo payload => some ⟨0x13, echo, payload⟩
  | .queryRequests echo payload => some ⟨0x14, echo, payload⟩
  | .readEvents echo payload => some ⟨0x15, echo, payload⟩
  | .setNotice echo payload => some ⟨0x16, echo, payload⟩
  | .save echo payload => some ⟨0x17, echo, payload⟩
  | .reset echo payload => some ⟨0x18, echo, payload⟩
  | .powerOnReset _ | .tick | .minuteBoundary | .masterBoundary | .incidentChange _ | .localZero _ | .orderPoint _
  | .orderDeadlinePassed _ | .reviseLatestTickPassed _ | .transitExpiry _ | .emergencyExpiry _ | .routeDue _ | .routeTooLate _
  | .routeRefused _ | .slotStart | .exchangeEnd _ _ _ | .saveComplete _ | .hostFrameReceived _ | .hostFrameAbandoned
  | .hostFrameSent | .waitingFrameRefused | .resetCarriedOut _ | .hostFrameBegun _ => none

end Sys2Proof

namespace Sys2Proof.Machine

/-- The host link takes a frame that arrives now at once: bytes are not being ignored, no request waits, at most the frame being sent
stands in the transmit queue, and a frame being sent has its content (R146, R147). -/
abbrev State.takesAtOnce (s : State) : Prop :=
  s.hli.rx ≠ .ignoring ∧ s.hli.received = [] ∧ s.hli.transmit.length ≤ 1 ∧ s.hli.transmit.head? ≠ some (.notice none)

/-- The state once the whole frame has arrived: the host link hunts again (R145). -/
def State.heard (s : State) : State := { s with hli := { s.hli with rx := .hunting } }

/-- The reply of result `r` to a request of a kind and an echo stands last in the transmit queue, and the overrun flag it carries is
cleared (R148). -/
def State.answered (s : State) (kind echo : Byte) (r : Result) : State :=
  { s with hli := { s.hli with
      overrun := false
      transmit := s.hli.transmit ++ [.reply (kind + 0x80) echo (r.payload s.hli.overrun)] } }

end Sys2Proof.Machine
end

