-- ==== Sys2Proof/Certificates/Slice0/Obligations.lean ====
section
/-! DEFINITION. The statements about the controller, for the provers. -/

open Sys2Proof Sys2Proof.Machine

/-- A step takes the command at the front of the queue and carries it out (an empty queue idles: the model's choice, log entry
2) (95_what_each_step_holds.md). -/
def Obligations.StepRunsTheFrontCommand : Prop :=
  (∀ (c : Instr) (rest : List Instr) (s : State), s.pending = c :: rest → step s = exec c { s with pending := rest })
    ∧ ∀ s : State, s.pending = [] → step s = .next s

/-- Every command, in every state, answers a next state with the queue of waiting commands as it was
(95_what_each_step_holds.md, 00_scope.md section 2.2). In part the model's choice: log entry 3. -/
def Obligations.EveryCommandAnswersAndKeepsTheQueue : Prop :=
  ∀ (i : Instr) (s : State), ∃ t : State, exec i s = .next t ∧ t.pending = s.pending

/-- The state after reset keeps every law of Safety.lean (R1, R3, R20, R43, R46, R114, R140, R141, R146, R147, R156, R160). -/
def Obligations.ResetStateKeepsTheLaws : Prop :=
  State.reset.QueueLaw ∧ State.reset.TableLaw ∧ State.reset.EntryLaw ∧ State.reset.LinkLaw ∧ State.reset.CorridorLaw
    ∧ State.reset.ServiceLaw ∧ State.reset.ItemLaw ∧ State.reset.CountLaw ∧ State.reset.OrderLaw

/-- Every step keeps the queues of the host side within their bounds (R146, R147, R152, R153, R154, R156). -/
def Obligations.StepKeepsTheQueueLaw : Prop :=
  ∀ s t : State, s.QueueLaw → step s = .next t → t.QueueLaw

/-- Every step keeps the request table at 24 entries in distinct slots, with at most one of a station ACTIVE, and the fields of
its entries lawful (R114, R115, R116, R119, R120, R122, R124, R125, R126, R127, Table 8-1, Table 8-2). -/
def Obligations.StepKeepsTheTableLaw : Prop :=
  (∀ s t : State, s.TableLaw → step s = .next t → t.TableLaw)
    ∧ ∀ s t : State, s.TableLaw → s.EntryLaw → step s = .next t → t.EntryLaw

/-- Every step keeps a station whose link is LOST at a miss count of 3, FREE and without a waiting REVISE (R47, R48, R112, R141,
R142). -/
def Obligations.StepKeepsTheLinkLaw : Prop :=
  ∀ s t : State, s.LinkLaw → step s = .next t → t.LinkLaw

/-- Every step keeps the corridor state in accord with its plans, its master time and its stations (R20, R35, R42, R43, R46,
R51). -/
def Obligations.StepKeepsTheCorridorLaw : Prop :=
  ∀ s t : State, s.CorridorLaw → step s = .next t → t.CorridorLaw

/-- Every step keeps the active and the staged plan valid, and every verdict that of the present geometry (R16, R20, R21). -/
def Obligations.StepKeepsTheServiceLaw : Prop :=
  ∀ s t : State, s.ServiceLaw → step s = .next t → t.ServiceLaw

/-- Every step keeps the stored items, the clock, the counts, the targets and the tidal measurement within their ranges (R2,
R14, R32, R35, R60, R72, R76, R77, R121, R139, R140, R141). -/
def Obligations.StepKeepsTheCountLaw : Prop :=
  (∀ s t : State, s.ItemLaw → step s = .next t → t.ItemLaw)
    ∧ ∀ s t : State, s.ItemLaw → s.CountLaw → step s = .next t → t.CountLaw

/-- Every step keeps every waiting cycle order lawful for the minimums in force and for its plan (R3, R42, R48, R49, R94, R95,
R101, R102, R103, R106, R107, R108). -/
def Obligations.StepKeepsTheOrderLaw : Prop :=
  ∀ s t : State, s.ItemLaw → s.CorridorLaw → s.ServiceLaw → s.OrderLaw → step s = .next t → t.OrderLaw

/-- Power-on with an image that fails its check, or during a save, leaves every block at its reset value (R155, R160, R161). In
part the model's choice: log entries 11, 28. -/
def Obligations.PowerOnWithoutAGoodImageStartsEmpty : Prop :=
  ∀ (s : State) (level : Bool), s.busy = true ∨ s.cs.image.passes = false →
    exec (.powerOnReset level) s = .next { State.reset with
        pending := s.pending, hl := { polarity := .activeHigh, level := level }
        cs := { image := s.imageAtPowerLoss, saving := none } }
      ∧ s.imageAtPowerLoss.passes = false ∧ (s.busy = false → s.imageAtPowerLoss = s.cs.image)

/-- Both resets take the stored items from a good image, put every other part at its reset value, and evaluate the may-run
condition (R12, R24, R31, R32, R35, R37, R40, R56, R76, R154, R156, R160). In part the model's choice: log entries 3, 7, 28. -/
def Obligations.ResetsLoadAGoodImage : Prop :=
  (∀ (s : State) (level : Bool), s.busy = false → s.cs.image.passes = true →
      ∃ t : State, exec (.powerOnReset level) s = .next t ∧ t.loadedFrom s.cs.image.items ∧ t.freshParts
        ∧ t.tb = State.reset.tb ∧ t.hl.level = level ∧ t.cs.image = s.cs.image ∧ t.pending = s.pending
        ∧ t.ps = { State.reset.ps with
            slots := t.ps.slots, schedule := t.ps.schedule, enable := t.ps.enable, autostart := t.ps.autostart }
        ∧ t.mu = State.reset.mu ∧ t.eq = State.reset.eq)
    ∧ (∀ (s : State) (level : Bool), s.hli.emptied = true → s.slotOver = true →
      ∃ t : State, exec (.resetCarriedOut level) s = .next t
        ∧ t.loadedFrom (if s.cs.image.passes then s.cs.image.items else .empty) ∧ t.freshParts
        ∧ t.tb.tick = 0 ∧ t.tb.time = s.tb.time ∧ t.tb.day = s.tb.day ∧ t.tb.clockSet = s.tb.clockSet ∧ t.hl.level = level
        ∧ t.cs.image = s.cs.image ∧ t.pending = s.pending)
    ∧ ∀ (s : State) (level : Bool), s.hli.emptied = false ∨ s.slotOver = false →
      exec (.resetCarriedOut level) s = .next s

/-- A save ends 1 to 30 ticks after its acceptance: the image has the working values, the result is reported, the flag is clear
(R158, R159). In part the model's choice: log entries 3, 10, 11. -/
def Obligations.SaveCompleteWritesTheWorkingValues : Prop :=
  (∀ (s : State) (t0 : Tick) (passes : Bool), s.cs.saving = some t0 → 1 ≤ tickDiff s.now t0 →
      tickDiff s.now t0 ≤ 30 →
      ∃ t : State, exec (.saveComplete passes) s = .next t ∧ t.cs.saving = none ∧ t.cs.image.passes = passes
        ∧ t.cs.image.items.count = s.count ∧ t.cs.image.items.schedule = s.ps.schedule
        ∧ t.cs.image.items.polarity = s.hl.polarity ∧ t.cs.image.items.autostart = s.ps.autostart
        ∧ (∀ k : StationIx, t.cs.image.items.configs[k] = (s.st k).config
          ∧ t.cs.image.items.masks[k] = ((s.st k).maskIn, (s.st k).maskOut))
        ∧ (∀ g : Fin 8, t.cs.image.items.plans[g] = (s.ps.slots[g]).map (·.plan))
        ∧ s.wrote t [.saveEnd passes (tickDiff s.now t0).toNat]
        ∧ t = { s with eq := t.eq, hli := t.hli, cs := t.cs })
    ∧ (∀ (s : State) (t0 : Tick) (passes : Bool), s.cs.saving = some t0 → tickDiff s.now t0 < 1 ∨ 30 < tickDiff s.now t0 →
      exec (.saveComplete passes) s = .next s)
    ∧ ∀ (s : State) (passes : Bool), s.cs.saving = none → exec (.saveComplete passes) s = .next s

/-- While a save is in flight, no stored item changes (R158, R159). -/
def Obligations.NoStoredItemChangesDuringASave : Prop :=
  ∀ (i : Instr) (s t : State), s.busy = true → exec i s = .next t → t.busy = true → t.workingItems = s.workingItems

/-- A tick advances the tick count, the clock and the master cycle time, raises the boundaries, and begins a slot (R31, R32,
R33, R35, R133). In part the model's choice: log entry 6. -/
def Obligations.TickAdvancesTheCounts : Prop :=
  ∀ s : State, ∃ t : State, exec .tick s = .next t
    ∧ t.tb.tick = s.tb.tick + 1 ∧ t.tb.clockSet = s.tb.clockSet
    ∧ (s.tb.time + 1 = 864000 → t.tb.time = 0 ∧ t.tb.day = if s.tb.day = 7 then 1 else s.tb.day + 1)
    ∧ (s.tb.time + 1 ≠ 864000 → t.tb.time = s.tb.time + 1 ∧ t.tb.day = s.tb.day)
    ∧ (t.tb.minuteDue = true ↔ s.tb.clockSet = true ∧ t.tb.time % 600 = 0)
    ∧ (s.ps.corridor = .idle → t.tb.m = s.tb.m ∧ t.tb.masterDue = false)
    ∧ (∀ p : Plan, s.ps.corridor ≠ .idle → s.activePlan = some p →
      (p.cycle ≤ s.tb.m + 1 → t.tb.m = 0 ∧ t.tb.masterDue = true)
        ∧ (s.tb.m + 1 < p.cycle → t.tb.m = s.tb.m + 1 ∧ t.tb.masterDue = false))
    ∧ t = { s with tb := t.tb, clc := { s.clc with slotOpen := true, resynced := none } }

/-- A minute boundary stages, clears or rejects the governing plan of a running corridor (R23, R24, R33, R39, R41). In part the
model's choice: log entries 3, 6. -/
def Obligations.MinuteBoundaryEvaluatesThePlan : Prop :=
  (∀ (s : State) (g : Nat), s.tb.minuteDue = true → s.ps.corridor = .running → s.ps.enable = true → s.tb.clockSet = true →
      s.geometryValid = true → s.governing = g → g ≠ 0 →
      let u : State := { s with tb := { s.tb with minuteDue := false } }
      (s.ps.active = some g →
          exec .minuteBoundary s = .next { u with ps := { s.ps with staged := none, rejection := none } })
        ∧ (s.ps.active ≠ some g → s.planValid g = true →
          exec .minuteBoundary s = .next { u with ps := { s.ps with staged := some g, rejection := none } })
        ∧ (s.ps.active ≠ some g → s.planValid g = false → s.ps.rejection = some g → exec .minuteBoundary s = .next u)
        ∧ (s.ps.active ≠ some g → s.slot g = none → s.ps.rejection ≠ some g →
          ∃ t : State, exec .minuteBoundary s = .next t ∧ s.wrote t [.planRejected g .empty none]
            ∧ t = { u with ps := { s.ps with rejection := some g }, eq := t.eq, hli := t.hli })
        ∧ ∀ (x : PlanSlot) (item : FailItem), s.ps.active ≠ some g → s.slot g = some x → x.verdict = .invalid item →
          s.ps.rejection ≠ some g →
          ∃ t : State, exec .minuteBoundary s = .next t ∧ s.wrote t [.planRejected g item.reason item.station]
            ∧ t = { u with ps := { s.ps with rejection := some g }, eq := t.eq, hli := t.hli })
    ∧ ∀ s : State, s.tb.minuteDue = false → exec .minuteBoundary s = .next s

/-- A master boundary takes a staged plan over, and clears every target and the tidal ring (R36, R60, R76, R77, R107). In part
the model's choice: log entries 3, 6. -/
def Obligations.MasterBoundaryTakesTheStagedPlanOver : Prop :=
  (∀ (s : State) (g : Nat) (x : PlanSlot), s.tb.masterDue = true → s.ps.staged = some g → s.slot g = some x →
      ∃ t : State, exec .masterBoundary s = .next t
        ∧ t.ps = { s.ps with active := some g, staged := none } ∧ t.tb = { s.tb with m := 0, masterDue := false }
        ∧ (∀ k : StationIx, t.st k = { s.st k with
            raw := none, target := none, jump := true
            order := (s.st k).order.map fun o => { o with body := o.body.map fun b => { b with takenOver := true } } })
        ∧ t.mu = { weight := x.plan.weight, accIn := 0, accOut := 0, primed := false, ring := [] }
        ∧ s.wrote t [.planTaken g (s.ps.active.getD 0)]
        ∧ t = { s with tb := t.tb, ps := t.ps, stations := t.stations, mu := t.mu, eq := t.eq, hli := t.hli })
    ∧ (∀ s : State, s.tb.masterDue = true → s.ps.staged = none →
      exec .masterBoundary s = .next { s with tb := { s.tb with masterDue := false } })
    ∧ ∀ s : State, s.tb.masterDue = false → exec .masterBoundary s = .next s

/-- A change of the INCIDENT level recomputes every effective hold and moves the coordinated stations (R49, R52, R53, R56). In
part the model's choice: log entries 3, 43. -/
def Obligations.IncidentChangeRecomputesEveryHold : Prop :=
  (∀ (s : State) (level : Bool), level ≠ s.hl.level →
      ∃ t : State, exec (.incidentChange level) s = .next t ∧ t.hl = { s.hl with level := level }
        ∧ t = { s with hl := t.hl, stations := t.stations, clc := t.clc, table := t.table, eq := t.eq, hli := t.hli }
        ∧ ∀ k : StationIx, (t.st k).hold = t.anySource k
          ∧ t.st k = { s.st k with
              hold := (t.st k).hold, coord := (t.st k).coord, synced := (t.st k).synced, lastError := (t.st k).lastError
              correction := (t.st k).correction, jump := (t.st k).jump, order := (t.st k).order
              revise := (t.st k).revise, lockout := (t.st k).lockout }
          ∧ t.sources k = ({ s with hl := { s.hl with level := level } } : State).sources k
          ∧ (t.st k).coord =
            if s.ps.corridor = .running ∧ (s.st k).link = .online ∧ (s.st k).hold ≠ (t.st k).hold then
              if (t.st k).hold = true then (if (s.st k).coordinated = true then .held else (s.st k).coord)
              else if (s.st k).coord = .held then .seeking else (s.st k).coord
            else (s.st k).coord)
    ∧ ∀ (s : State) (level : Bool), level = s.hl.level → exec (.incidentChange level) s = .next s

/-- A local zero begins the next cycle, adopts an ordered next for it, is handed on once, and closes the tidal cycle (R74, R76,
R77, R78, R79, R84, R85, R97, R121). In part the model's choice: log entries 3, 19, 24. -/
def Obligations.LocalZeroAdvancesTheModel : Prop :=
  (∀ (s : State) (k : StationIx) (m : CycleModel) (c : Course), (s.st k).model = some m → m.basis.course = some c →
      (c.length : Int) ≤ tickDiff s.now m.zeroTick → s.clc.resynced ≠ some k →
      let model : CycleModel := {
        zeroTick := s.now, number := m.number + 1, lastZero := m.number + 1, mark := m.mark, next := none
        basis := match m.next with
          | some nx => if nx.number = m.number + 1 then .order nx.course else m.basis
          | none => m.basis }
      (m.number + 1 = m.lastZero → exec (.localZero k) s = .next (s.modSt k fun t => { t with model := some model }))
        ∧ (m.number + 1 ≠ m.lastZero → ∃ t : State, exec (.localZero k) s = .next t
          ∧ (t.st k).model = some model ∧ (t.st k).age = min 3 ((s.st k).age + 1)
          ∧ (s.ps.corridor ≠ .running → (t.st k).lockout = (s.st k).lockout - 1 ∧ t.table = s.table ∧ t.clc = s.clc)
          ∧ (∀ j : StationIx, j ≠ k → t.st j = s.st j)
          ∧ t = { s with stations := t.stations, mu := t.mu, clc := t.clc, table := t.table, eq := t.eq, hli := t.hli }
          ∧ ((∀ p ∈ s.activePlan, ¬(p.mode = .tidal ∧ p.tidal = some k.val)) → t.mu = s.mu)
          ∧ ∀ p : Plan, s.activePlan = some p → p.mode = .tidal → p.tidal = some k.val →
            (s.mu.primed = false → t.mu = { s.mu with accIn := 0, accOut := 0, primed := true })
              ∧ (s.mu.primed = true →
                let ring := s.mu.ring.drop (s.mu.ring.length - 3) ++ [(s.mu.accIn, s.mu.accOut)]
                let pushed : Measurement := { s.mu with accIn := 0, accOut := 0, ring := ring }
                let inSum := (ring.map (·.1)).sum
                let total := inSum + (ring.map (·.2)).sum
                let measured := (200 * inSum + total) / (2 * total)
                let difference := ((measured : Int) - s.mu.weight).natAbs
                (ring.length < 4 ∨ total < 20 ∨ difference < 15 → t.mu = pushed)
                  ∧ (4 ≤ ring.length → 20 ≤ total → 15 ≤ difference →
                    t.mu = { pushed with weight := 5 * ((measured + 2) / 5) }
                      ∧ (s.eq.records.length < 32 → ∃ more, t.eq.records
                        = s.eq.records ++ s.record (.tidal (5 * ((measured + 2) / 5)) measured) :: more)))))
    ∧ (∀ (s : State) (k : StationIx) (m : CycleModel) (c : Course), (s.st k).model = some m → m.basis.course = some c →
      tickDiff s.now m.zeroTick < (c.length : Int) ∨ s.clc.resynced = some k → exec (.localZero k) s = .next s)
    ∧ ∀ (s : State) (k : StationIx), (∀ m, (s.st k).model = some m → m.basis = .none) → exec (.localZero k) s = .next s

/-- An order point moves the target, projects the error, and places the next cycle order with the grant that its transit
requests earn (R62, R88, R89, R90, R91, R101, R102, R118, R119, R120, R121). In part the model's choice: log entries 17, 19. -/
def Obligations.OrderPointBuildsTheOrder : Prop :=
  ∀ (s : State) (k : StationIx) (m : CycleModel) (c : Course), (s.st k).model = some m → m.basis.course = some c →
    (s.st k).coordinated = true → (c.length : Int) - 30 ≤ tickDiff s.now m.zeroTick → m.mark ≠ some (m.number + 1) →
    let zero := tickAdd m.zeroTick c.length
    let marked : State := s.modSt k fun t => { t with model := some { m with mark := some (m.number + 1) } }
    (tickDiff zero s.now ≤ 5 → exec (.orderPoint k) s = .next marked)
      ∧ (5 < tickDiff zero s.now → (s.ps.corridor ≠ .running ∨ (s.st k).synced = false) →
        exec (.orderPoint k) s = .next (marked.modSt k (·.enterMins)))
      ∧ ∀ (g : Nat) (x : PlanSlot), 5 < tickDiff zero s.now → s.ps.corridor = .running → (s.st k).synced = true →
        s.ps.active = some g → s.slot g = some x →
        let p := x.plan
        let raw := s.rawTarget p k
        let T := smoothed (p.localCycle k) p.stepLimit raw (s.st k).jump (s.st k).target
        let d := projectedError p.cycle (p.localCycle k) s.tb.m T (tickDiff zero s.now)
        let mins := (s.st k).enterMins.minsInForce
        let tr := transition p k mins d
        let state : Coord := if withinTolerance (p.localCycle k) d then .inStep else .seeking
        let moved : List EventBody := if (s.st k).coord = state then [] else [.stationState k state .orderPoint]
        let ordered : List Nat → Option Fold → Station := fun intervals fold => { (s.st k).enterMins with
          model := some { m with mark := some (m.number + 1) }, raw := some raw, target := some T, jump := false
          lastError := some d, correction := some tr.correction, coord := state
          order := some {
            number := m.number + 1, deadline := tickAdd zero (-5), placed := s.now
            body := some {
              course := .ofIntervals intervals, plan := g, target := T, fold := fold, takenOver := false } } }
        let E1 := tr.intervals.headD 0
        let L := tr.intervals.sum
        let X := min p.maxExtension (roomSum tr.intervals.tail mins.tail)
        let pos : Entry → Int := fun e => tickDiff e.eta zero
        let early : Entry → Nat := fun e => max (pos e - 20).toNat (E1 + mins.tail.sum)
        let candidate : Entry → Prop := fun e =>
          e.station = k ∧ e.cls = .transit ∧ e.state = .pending ∧ e.masked = false ∧ pos e < L
        let waits : Entry → Prop := fun e => E1 ≤ pos e ∧ 0 < (s.st k).lockout
        ∃ t : State, exec (.orderPoint k) s = .next t
          ∧ (∀ j : StationIx, j ≠ k → t.st j = s.st j)
          ∧ t = { s with stations := t.stations, table := t.table, eq := t.eq, hli := t.hli }
          ∧ ((∃ y ∈ s.table, y.station = k ∧ y.state = .active) ∨ (∀ y ∈ s.table, candidate y → waits y) →
            t.st k = ordered tr.intervals none ∧ t.table = s.table ∧ s.wrote t moved)
          ∧ ∀ (l u : List Entry) (e : Entry), s.TableLaw → (∀ y ∈ s.table, ¬(y.station = k ∧ y.state = .active)) →
            s.table = l ++ e :: u → candidate e → ¬waits e → (∀ y ∈ s.table, candidate y → ¬waits y → y.level ≤ e.level) →
            (∀ y ∈ l, candidate y → ¬waits y → y.level < e.level) →
            let granted : GrantKind → Bool → Prop := fun kind outstanding =>
              t.table = l ++ { e with state := .active, grant := some kind, outstanding := outstanding } :: u
                ∧ s.wrote t (moved ++ [.grant k kind e.tag])
            let extends_ := 1 ≤ X ∧ pos e < E1 + X
            let by_ := (min (pos e - E1 + 20) X).toNat
            (pos e < E1 ∨ ¬extends_ ∧ L ≤ early e → t.st k = ordered tr.intervals none ∧ granted .passive false)
              ∧ (E1 ≤ pos e → extends_ → granted .extend true
                ∧ t.st k = { ordered (foldExtend by_ tr.intervals mins) (some { slot := e.slot, kind := .extend, amount := by_ }) with
                    lockout := p.lockout })
              ∧ (E1 ≤ pos e → ¬extends_ → early e < L → granted .early true
                ∧ t.st k = { ordered (foldEarly (early e) tr.intervals mins)
                      (some { slot := e.slot, kind := .early, amount := L - early e }) with lockout := p.lockout })

/-- Every cycle order built at an order point has rising ends, its length last, no phase below its minimum, and a length within
its bounds (R95, R101, R102, R103, R118, R120). -/
def Obligations.EveryBuiltOrderIsLawful : Prop :=
  ∀ (s : State) (k : StationIx) (m : CycleModel) (c : Course) (g : Nat) (x : PlanSlot) (cfg : StationConfig),
    (s.st k).model = some m → m.basis.course = some c → (s.st k).coordinated = true → (s.st k).synced = true →
    s.ps.corridor = .running → s.ps.active = some g → s.slot g = some x → (s.st k).config = some cfg →
    judgeItem x.plan k cfg.minimums = none → (s.st k).enterMins.minsInForce = cfg.minimums → 2 ≤ cfg.minimums.length →
    (∀ y ∈ cfg.minimums, 1 ≤ y) → (c.length : Int) - 30 ≤ tickDiff s.now m.zeroTick → m.mark ≠ some (m.number + 1) →
    5 < tickDiff (tickAdd m.zeroTick c.length) s.now →
    ∃ (t : State) (o : WaitingOrder) (b : OrderBody), exec (.orderPoint k) s = .next t ∧ (t.st k).order = some o
      ∧ o.body = some b ∧ o.number = m.number + 1 ∧ b.plan = g
      ∧ b.course.lawful cfg.minimums (x.plan.localCycle k + x.plan.localCycle k * x.plan.lengthen / 100)

/-- The error d is (A - T) mod Cl with A from the projected master time, and the correction takes its direction, its amount and
its phases from it (R90, R91, R92, R93, R94, R95). -/
def Obligations.CorrectionAmountAndLength : Prop :=
  (∀ (p : Plan) (k : StationIx) (mins : List Nat) (d : Nat), p.fits → k.val < p.items.length → judgeItem p k mins = none →
    (∀ y ∈ mins, 50 ≤ y) → d < p.localCycle k → withinTolerance (p.localCycle k) d = false →
    let Cl := p.localCycle k
    let sEff := min (Cl * p.shorten / 100) (Cl - mins.sum)
    let G := Cl * p.lengthen / 100
    let shorter := (d + sEff - 1) / sEff
    let longer := (Cl - d + G - 1) / G
    let tr := transition p k mins d
    (sEff = 0 ∨ longer ≤ shorter → tr.correction = .lengthen) ∧ (sEff ≠ 0 → shorter < longer → tr.correction = .shorten)
      ∧ (tr.correction = .shorten ∧ tr.amount = min d sEff ∧ tr.intervals.sum = Cl - tr.amount ∧ tr.amount ≤ d
          ∧ mins.sum ≤ tr.intervals.sum ∧ (d ≤ sEff → d - tr.amount = 0)
          ∧ tr.intervals = reduce tr.amount (p.splits k) mins
        ∨ tr.correction = .lengthen ∧ tr.amount = min (Cl - d) G ∧ tr.intervals.sum = Cl + tr.amount ∧ d + tr.amount ≤ Cl
          ∧ tr.intervals.sum ≤ Cl + G ∧ (Cl - d ≤ G → (d + tr.amount) % Cl = 0)
          ∧ tr.intervals.head? = (p.splits k).head?.map (· + tr.amount) ∧ tr.intervals.tail = (p.splits k).tail)
      ∧ 100 ≤ tr.intervals.sum ∧ tr.intervals.sum ≤ 3360)
    ∧ (∀ (C Cl m T : Nat) (u : Int), 0 < C → 0 < Cl →
      (projectedError C Cl m T u : Int) = ((m + u) % C % Cl - T) % Cl)
    ∧ (∀ Cl d : Nat, withinTolerance Cl d = true ↔ d ≤ 2 ∨ Cl ≤ d + 2)
    ∧ ∀ (p : Plan) (k : StationIx) (mins : List Nat) (d : Nat), d ≤ 2 ∨ p.localCycle k ≤ d + 2 →
      transition p k mins d = { correction := .none, amount := 0, intervals := p.splits k }

/-- The reduction rule takes the whole amount, highest phase first, to no less than the minimums; EXTEND and EARLY take by it
from phases 2 to n (R95, R102). -/
def Obligations.ReductionTakesFromTheHighestPhase : Prop :=
  (∀ (amount : Nat) (intervals mins : List Nat), intervals.length = mins.length → amount ≤ roomSum intervals mins →
    (reduce amount intervals mins).length = intervals.length
      ∧ (reduce amount intervals mins).sum + amount = intervals.sum
      ∧ ∀ i : Nat, i < intervals.length →
        (reduce amount intervals mins).getD i 0 ≤ intervals.getD i 0
          ∧ min (intervals.getD i 0) (mins.getD i 0) ≤ (reduce amount intervals mins).getD i 0
          ∧ ((reduce amount intervals mins).getD i 0 < intervals.getD i 0 →
            ∀ j : Nat, i < j → j < intervals.length → (reduce amount intervals mins).getD j 0 ≤ mins.getD j 0))
    ∧ ∀ (intervals mins : List Nat), intervals.length = mins.length → 1 ≤ intervals.length →
      (∀ x : Nat, x ≤ roomSum intervals.tail mins.tail →
          (foldExtend x intervals mins).head? = intervals.head?.map (· + x)
            ∧ (foldExtend x intervals mins).tail = reduce x intervals.tail mins.tail
            ∧ (foldExtend x intervals mins).sum = intervals.sum)
        ∧ ∀ l : Nat, l ≤ intervals.sum → intervals.sum ≤ l + roomSum intervals.tail mins.tail →
          (foldEarly l intervals mins).head? = intervals.head?
            ∧ (foldEarly l intervals mins).tail = reduce (intervals.sum - l) intervals.tail mins.tail
            ∧ (foldEarly l intervals mins).sum = l

/-- A waiting order is dropped once its deadline is over, a REVISE withdrawn once its latest tick is, each with its grant, which
such a REVISE does not earn again (R43, R104, R105, R109, R110, R112, R113, R118, R119, R122). In part the model's choice: log
entries 3, 7. -/
def Obligations.DeadlineAndLatestTickEndTheWaiting : Prop :=
  ((∀ (s : State) (k : StationIx) (o : WaitingOrder), (s.st k).order = some o → reached s.now o.deadline = true →
      s.slotOver = true →
      (∀ b : OrderBody, o.body = some b → b.fold = none →
          exec (.orderDeadlinePassed k) s
            = .next ((s.modSt k fun t => { t with order := none }).emit (.orderLate k o.number .deadline)))
        ∧ (∀ (b : OrderBody) (f : Fold), o.body = some b → b.fold = some f →
          let late := (s.modSt k fun t => { t with order := none }).emit (.orderLate k o.number .deadline)
          ((∀ e : Entry, s.entry f.slot = some e → e.outstanding = false) → exec (.orderDeadlinePassed k) s = .next late)
            ∧ ∀ e : Entry, s.entry f.slot = some e → e.outstanding = true → e.station = k →
              let u : State := { late.modSt k (fun t => { t with lockout := 0 }) with
                table := s.table.map fun x =>
                  if x.slot = f.slot then { x with state := .pending, grant := none, outstanding := false } else x }
              let v := u.emit (.grantWithdrawn k e.tag f.slot)
              exec (.orderDeadlinePassed k) s = .next (v.evaluateTransit k)
                ∧ (s.ps.corridor ≠ .running → exec (.orderDeadlinePassed k) s = .next v))
        ∧ (o.body = none → s.ps.corridor = .stopping → ∃ t : State, exec (.orderDeadlinePassed k) s = .next t
          ∧ (t.st k).order = none ∧ (t.st k).synced = false
          ∧ (s.eq.records.length < 32 →
            ∃ more, t.eq.records = s.eq.records ++ s.record (.orderLate k o.number .release) :: more)
          ∧ ((∃ j : StationIx, j ≠ k ∧ s.releaseOut j = true) → (t.st k).coord = .free ∧ t.ps = s.ps)
          ∧ ((∀ j : StationIx, j ≠ k → s.releaseOut j = false) → t.ps.corridor ≠ .stopping)))
    ∧ (∀ (s : State) (k : StationIx) (o : WaitingOrder), (s.st k).order = some o →
      reached s.now o.deadline = false ∨ s.slotOver = false → exec (.orderDeadlinePassed k) s = .next s)
    ∧ ∀ (s : State) (k : StationIx), (s.st k).order = none → exec (.orderDeadlinePassed k) s = .next s)
    ∧ (∀ (s : State) (k : StationIx) (r : WaitingRevise) (e : Entry), (s.st k).revise = some r → reached s.now r.latest = true →
      s.slotOver = true → s.entry r.slot = some e → e.outstanding = true → e.station = k →
      let u : State := { s.modSt k (fun t => { t with revise := none, lockout := 0 }) with
        clc := { s.clc with urgent := s.clc.urgent.filter fun f => !(f.station = k && f.kind = .revise) }
        table := s.table.map fun x =>
          if x.slot = r.slot then { x with state := .pending, grant := none, outstanding := false } else x }
      let v := u.emit (.grantWithdrawn k e.tag r.slot)
      exec (.reviseLatestTickPassed k) s = .next (v.evaluateTransit k)
        ∧ (s.ps.corridor ≠ .running → exec (.reviseLatestTickPassed k) s = .next v)
        ∧ ∀ (m : CycleModel) (p : Plan) (c : Course), s.TableLaw → (∀ y ∈ s.table, y.station = k → y.slot = r.slot) →
          (s.st k).model = some m → s.activePlan = some p → m.basis.course = some c → c.intervals.sum = c.length →
          10 ≤ c.firstEnd →
          let pos := tickDiff e.eta m.zeroTick
          let E1 := c.firstEnd
          let mins := (s.st k).minsInForce
          let X := min p.maxExtension (roomSum c.intervals.tail mins.tail)
          E1 ≤ pos → pos < c.length →
          (1 ≤ X → pos < E1 + X → (E1 : Int) - 10 ≤ tickDiff s.now m.zeroTick → exec (.reviseLatestTickPassed k) s = .next v)
            ∧ (X = 0 ∨ E1 + X ≤ pos → max (pos - 20).toNat (E1 + mins.tail.sum) < c.length →
              (E1 : Int) - 1 ≤ tickDiff s.now m.zeroTick → exec (.reviseLatestTickPassed k) s = .next v))
    ∧ (∀ (s : State) (k : StationIx) (r : WaitingRevise), (s.st k).revise = some r →
      reached s.now r.latest = false ∨ s.slotOver = false → exec (.reviseLatestTickPassed k) s = .next s)
    ∧ ∀ (s : State) (k : StationIx), (s.st k).revise = none → exec (.reviseLatestTickPassed k) s = .next s

/-- The four ends of a request by time remove its entry and report it (R115, R123, R125, R127, R128). In part the model's
choice: log entries 3, 7, 8. -/
def Obligations.RequestsEndWhenTheirTimeIsOver : Prop :=
  (∀ (s : State) (i : SlotIx) (e : Entry), s.TableLaw → s.entry i = some e → e.cls = .transit →
      reached s.now (tickAdd e.eta 300) = true →
      ∃ t : State, exec (.transitExpiry i) s = .next t ∧ s.departed t e .expired)
    ∧ (∀ (s : State) (i : SlotIx) (e : Entry), s.TableLaw → s.entry i = some e → e.cls = .emergency → e.origin = .station →
      e.seen = false → reached s.now (tickAdd e.eta 300) = true →
      ∃ t : State, exec (.emergencyExpiry i) s = .next t ∧ s.departed t e .expired)
    ∧ (∀ (s : State) (i : SlotIx) (e : Entry) (due : Tick), s.TableLaw → s.entry i = some e → e.origin = .route →
      e.state ≠ .active →
      e.due = some due → reached s.now (tickAdd due 100) = true → s.slotOver = true →
      ∃ t : State, exec (.routeTooLate i) s = .next t ∧ s.departed t e .expired)
    ∧ (∀ (s : State) (i : SlotIx) (e : Entry) (d : Tick), s.TableLaw → s.entry i = some e → e.origin = .route → e.state = .active →
      e.seen = false → e.delivered = some d → reached s.now (tickAdd d 20) = true →
      ∃ t : State, exec (.routeRefused i) s = .next t ∧ s.departed t e .refused)
    ∧ ∀ (s : State) (i : SlotIx), s.entry i = none →
      exec (.transitExpiry i) s = .next s ∧ exec (.emergencyExpiry i) s = .next s ∧ exec (.routeTooLate i) s = .next s
        ∧ exec (.routeRefused i) s = .next s

/-- A route entry posts its PREEMPT at its due tick, or becomes PENDING (R125, R127). In part the model's choice: log entry 3.
-/
def Obligations.RouteDuePostsThePreempt : Prop :=
  (∀ (s : State) (i : SlotIx) (e : Entry) (due : Tick), s.TableLaw → s.entry i = some e → e.origin = .route →
      e.state = .scheduled → e.posted = false → e.due = some due → reached s.now due = true →
      (s.activeEmergency e.station = none → s.postedAt e.station = none → (s.st e.station).link = .online →
          exec (.routeDue i) s = .next { s with
            clc := { s.clc with urgent := s.clc.urgent
              ++ [{ station := e.station, kind := .preempt i e.dir e.level e.tag, placed := s.now }] }
            table := s.table.map fun x => if x.slot = i then { x with posted := true, state := .scheduled } else x })
        ∧ (s.activeEmergency e.station ≠ none ∨ s.postedAt e.station ≠ none →
          exec (.routeDue i) s = .next { s with
            table := s.table.map fun x => if x.slot = i then { x with state := .pending } else x })
        ∧ (s.LinkLaw → s.activeEmergency e.station = none → s.postedAt e.station = none → (s.st e.station).link = .lost →
          (∃ t : State, exec (.routeDue i) s = .next t ∧ t.entry i = some { e with state := .pending } ∧ t.clc = s.clc)
            ∧ ((∀ y ∈ s.table, y.station = e.station → y.cls = .emergency → y.state = .pending → y.origin ≠ .station) →
              exec (.routeDue i) s = .next { s with
                table := s.table.map fun x => if x.slot = i then { x with state := .pending } else x })))
    ∧ ∀ (s : State) (i : SlotIx) (e : Entry) (due : Tick), s.entry i = some e → e.due = some due → reached s.now due = false →
      exec (.routeDue i) s = .next s

/-- The slot of a tick carries the first sendable frame of URGENT, else the earliest order, else a POLL; ROUTINE takes every
fourth slot (R104, R112, R133, R135, R138, R139, R140, R143). In part the model's choice: log entries 3, 6, 37. -/
def Obligations.SlotStartBeginsTheChosenExchange : Prop :=
  (∀ s : State, s.clc.slotOpen = true → s.clc.exchange = none → s.anyLoaded = true →
      let carried : StationIx → SentFrame → Exchange := fun k f => {
        station := k, frame := f, slotTick := s.now, discarded := false
        bytes := f.wire (((s.st k).config.map (·.drop)).getD 0) (s.st k).ackMark }
      let begun : StationIx → SentFrame → State := fun k f => { s with clc := { s.clc with
        slotOpen := false, nonRoutine := s.clc.nonRoutine + 1, exchange := some (carried k f) } }
      (s.clc.nonRoutine < 3 →
          (∀ (l r : List UrgentFrame) (f : UrgentFrame), s.clc.urgent = l ++ f :: r → (∀ g ∈ l, s.barred g) → f.placed ≠ s.now →
              (∀ v : WaitingRevise, f.kind = .revise → (s.st f.station).revise = some v → 0 ≤ tickDiff v.latest s.now →
                  exec .slotStart s = .next (begun f.station (.revise v f)))
                ∧ ∀ (i : SlotIx) (dir : Direction) (level : Nat) (tag : Word16), f.kind = .preempt i dir level tag →
                  exec .slotStart s = .next (begun f.station (.preempt i f)))
            ∧ ∀ (k : StationIx) (o : WaitingOrder), (∀ g ∈ s.clc.urgent, s.barred g) → s.offers k o →
              (∀ (j : StationIx) (y : WaitingOrder), s.offers j y → tickDiff y.deadline s.now < 2147483648
                ∧ (tickDiff o.deadline s.now < tickDiff y.deadline s.now
                  ∨ tickDiff o.deadline s.now = tickDiff y.deadline s.now ∧ k ≤ j)) →
              exec .slotStart s = .next (begun k (.order o)))
        ∧ ((s.clc.nonRoutine < 3 → (∀ g ∈ s.clc.urgent, s.barred g)
              ∧ ∀ (j : StationIx) (y : WaitingOrder), ¬s.offers j y) → s.clc.pollPtr < 16 →
          ∃ k : StationIx, s.loaded k = true
            ∧ (∀ j : StationIx, s.loaded j = true → (k.val + 16 - s.clc.pollPtr) % 16 ≤ (j.val + 16 - s.clc.pollPtr) % 16)
            ∧ exec .slotStart s = .next { s with clc := { s.clc with
                slotOpen := false, nonRoutine := 0, pollPtr := (k.val + 1) % s.count.getD 16
                exchange := some (carried k .poll) } }))
    ∧ (∀ s : State, s.clc.slotOpen = true → s.clc.exchange = none → s.anyLoaded = false →
      exec .slotStart s = .next { s with clc := { s.clc with slotOpen := false } })
    ∧ ∀ s : State, s.clc.slotOpen = false → exec .slotStart s = .next s

/-- A slot whose reply fails a check raises the miss count and sets the last failure and the mark, and the third in a row loses
the link (R48, R74, R81, R106, R112, R136, R138, R141, R143). In part the model's choice: log entries 3, 31. -/
def Obligations.FailedExchangesLoseTheLink : Prop :=
  (∀ (s : State) (x : Exchange) (cfg : StationConfig) (cause : FailureCause) (heard : List Byte) (a b : Bool),
      s.clc.exchange = some x → x.discarded = false → (s.st x.station).config = some cfg →
      readReply cfg.drop cfg.phases heard = .error cause →
      let u : State := { s with clc := { s.clc with exchange := none } }
      let mark : Bool := (s.st x.station).ackMark && (cause = .noReply || cause = .address)
      ((s.st x.station).misses ≠ 2 → exec (.exchangeEnd heard a b) s = .next (u.modSt x.station fun t =>
          { t with misses := min 3 (t.misses + 1), lastFailure := some cause, ackMark := mark }))
        ∧ ((s.st x.station).misses = 2 → ∃ t : State, exec (.exchangeEnd heard a b) s = .next t
          ∧ (s.eq.records.length < 32 →
            ∃ more, t.eq.records = s.eq.records ++ s.record (.linkLost x.station .misses) :: more)
          ∧ (t.st x.station).link = .lost ∧ (t.st x.station).misses = 3 ∧ (t.st x.station).lastFailure = some cause
          ∧ (t.st x.station).ackMark = mark
          ∧ (t.st x.station).coord = .free ∧ (t.st x.station).synced = false ∧ (t.st x.station).model = none
          ∧ (t.st x.station).order = none ∧ (t.st x.station).revise = none ∧ (t.st x.station).age = 3
          ∧ (∀ f ∈ t.clc.urgent, f.station ≠ x.station) ∧ t.clc.exchange = none))
    ∧ (∀ (s : State) (x : Exchange) (heard : List Byte) (a b : Bool), s.clc.exchange = some x → x.discarded = true →
      exec (.exchangeEnd heard a b) s = .next { s with clc := { s.clc with exchange := none } })
    ∧ ∀ (s : State) (heard : List Byte) (a b : Bool), s.clc.exchange = none → exec (.exchangeEnd heard a b) s = .next s

/-- An accepted reply keeps or restores the link, and its flags, its queue sample and its counts are taken (R53, R55, R73, R77,
R137, R142, R143). In part the model's choice: log entry 9. -/
def Obligations.SuccessfulExchangeTakesTheReply : Prop :=
  ∀ (s : State) (x : Exchange) (cfg : StationConfig) (heard : List Byte) (r : Status) (a b : Bool),
    s.clc.exchange = some x → x.discarded = false → (s.st x.station).config = some cfg →
    readReply cfg.drop cfg.phases heard = .ok r →
    ∃ t : State, exec (.exchangeEnd heard a b) s = .next t ∧ t.clc.exchange = none
      ∧ (t.st x.station).link = .online ∧ (t.st x.station).misses = 0 ∧ (t.st x.station).ackMark = true
      ∧ (t.st x.station).lastFailure = (s.st x.station).lastFailure
      ∧ (t.st x.station).manualFlag = r.manual ∧ (t.st x.station).preemptFlag = r.preempt
      ∧ (t.st x.station).hold = t.anySource x.station
      ∧ (t.st x.station).sampleNo = some r.latched
      ∧ ((s.st x.station).sampleNo = some r.latched →
        (t.st x.station).queueIn = (s.st x.station).queueIn ∧ (t.st x.station).queueOut = (s.st x.station).queueOut)
      ∧ ((s.st x.station).sampleNo ≠ some r.latched →
        (t.st x.station).queueIn = min 60 r.queueIn ∧ (t.st x.station).queueOut = min 60 r.queueOut)
      ∧ (x.frame = .poll → (∀ m ∈ (s.st x.station).model, circDiff 256 ((r.number.toNat : Int) - m.number.toNat) ≤ 0) →
        (t.st x.station).age = (if (s.st x.station).sampleNo = some r.latched then (s.st x.station).age else 0)
          ∧ t.mu = (if ∃ p ∈ s.activePlan, p.mode = .tidal ∧ p.tidal = some x.station.val then
              { s.mu with accIn := min 65535 (s.mu.accIn + r.countIn), accOut := min 65535 (s.mu.accOut + r.countOut) }
            else s.mu))
      ∧ (∀ j : StationIx, (t.st j).config = (s.st j).config) ∧ t.hl = s.hl ∧ t.count = s.count ∧ t.cs = s.cs

/-- The reply that brings a link back while RUNNING creates the model and takes the station out of FREE (R47, R51, R82, R83,
R142). In part the model's choice: log entries 9, 33. -/
def Obligations.ReturningLinkCreatesTheModel : Prop :=
  ∀ (s : State) (x : Exchange) (cfg : StationConfig) (heard : List Byte) (r : Status) (p : Plan) (a b : Bool),
    s.clc.exchange = some x → x.frame = .poll → x.discarded = false → (s.st x.station).config = some cfg →
    readReply cfg.drop cfg.phases heard = .ok r → r.notices = [] → r.checkOuts = [] → s.ps.corridor = .running →
    s.activePlan = some p → (s.st x.station).link = .lost → (s.st x.station).coord = .free →
    (s.st x.station).model = none → (s.st x.station).order = none → (s.st x.station).revise = none →
    (s.table.all fun e => !(e.station = x.station)) = true →
    ∃ t : State, exec (.exchangeEnd heard a b) s = .next t
      ∧ (s.eq.records.length < 32 → ∃ more, t.eq.records = s.eq.records ++ s.record (.linkBack x.station) :: more)
      ∧ (t.st x.station).model = some {
          zeroTick := tickAdd x.slotTick (-(r.time : Int)), number := r.number, lastZero := r.number
          basis := .plan (p.course x.station), mark := none, next := none }
      ∧ (t.st x.station).coord = (if t.anySource x.station = true then .held else .seeking)
      ∧ (t.st x.station).synced = !t.anySource x.station ∧ (t.st x.station).jump = true
      ∧ t.table = s.table ∧ t.ps = s.ps ∧ t.tb = s.tb

/-- A delivered cycle order becomes the ordered next, a REVISE changes the cycle in progress, a RELEASE frees, a PREEMPT
activates its entry (R43, R58, R86, R87, R96, R104, R109, R112, R122, R125, R127, R137). In part the model's choice: log entries
9, 31, 33, 40, 50. -/
def Obligations.DeliveredFramesTakeEffect : Prop :=
  (∀ (s : State) (x : Exchange) (cfg : StationConfig) (heard : List Byte) (r : Status) (o : WaitingOrder) (body : OrderBody)
      (m : CycleModel) (a b : Bool),
    s.clc.exchange = some x → x.frame = .order o → x.discarded = false → (s.st x.station).config = some cfg →
    readReply cfg.drop cfg.phases heard = .ok r → (s.st x.station).order = some o → o.body = some body →
    (s.st x.station).model = some m → o.number = m.number + 1 → r.number = m.number → m.basis ≠ .none →
    (m.timeDifference x.slotTick r.time).natAbs ≤ 3 → (s.st x.station).link = .online → (s.st x.station).coord ≠ .held →
    ((s.st x.station).coord = .seeking → (s.st x.station).synced = true) →
    ∃ t : State, exec (.exchangeEnd heard a b) s = .next t ∧ (t.st x.station).order = none
      ∧ (t.st x.station).model = some { m with next := some { number := o.number, course := body.course } })
    ∧ (∀ (s : State) (x : Exchange) (cfg : StationConfig) (heard : List Byte) (r : Status) (v : WaitingRevise) (f : UrgentFrame)
        (e : Entry) (m : CycleModel) (a b : Bool),
      s.replied x cfg heard r → x.frame = .revise v f → s.steady x.station r → r.notices = [] → r.checkOuts = [] →
      s.activeEmergency x.station = none → (s.st x.station).revise = some v → f ∈ s.clc.urgent →
      f.station = x.station → f.kind = .revise → s.entry v.slot = some e → e.outstanding = true → e.station = x.station →
      (s.st x.station).model = some m →
      let k := x.station
      let revised : CycleModel := { m with basis := .order v.course }
      let cleared := s.clc.urgent.filter fun g => !(g.station = k && g.kind = .revise)
      (v.number = m.number → r.number = m.number → (revised.timeDifference x.slotTick r.time).natAbs ≤ 3 →
          ((s.st k).coord = .seeking → (s.st k).synced = true) →
          ∃ t : State, exec (.exchangeEnd heard a b) s = .next t ∧ (t.st k).model = some revised ∧ (t.st k).revise = none
            ∧ t.clc = { s.clc with urgent := cleared, exchange := none }
            ∧ (t.st k).order = (s.st k).order.map (fun o =>
              if o.body ≠ none ∧ o.number = m.number + 1 then
                { o with deadline := tickAdd m.zeroTick ((v.course.length : Int) - 5) }
              else o)
            ∧ t.table = s.table.map (fun y => if y.slot = v.slot then { y with outstanding := false } else y)
            ∧ s.wrote t [])
        ∧ (v.number ≠ m.number → s.agrees k x.slotTick m r → s.ps.corridor ≠ .running →
          ∃ t : State, exec (.exchangeEnd heard a b) s = .next t ∧ (t.st k).model = some m ∧ (t.st k).revise = none
            ∧ (t.st k).lockout = 0 ∧ t.clc = { s.clc with urgent := cleared, exchange := none }
            ∧ t.table = s.table.map (fun y =>
              if y.slot = v.slot then { y with state := .pending, grant := none, outstanding := false } else y)
            ∧ s.wrote t [.grantWithdrawn k e.tag v.slot]))
    ∧ (∀ (s : State) (x : Exchange) (cfg : StationConfig) (heard : List Byte) (r : Status) (o : WaitingOrder) (a b : Bool),
      s.replied x cfg heard r → x.frame = .order o → o.body = none → (s.st x.station).order = some o →
      s.ps.corridor = .stopping → (s.st x.station).coord ≠ .free → (s.st x.station).link = .online → s.CorridorLaw →
      ∃ t : State, exec (.exchangeEnd heard a b) s = .next t
        ∧ (s.eq.records.length < 32 →
          ∃ more, t.eq.records = s.eq.records ++ s.record (.stationState x.station .free .released) :: more)
        ∧ ((∃ j : StationIx, j ≠ x.station ∧ s.releaseOut j = true) → t.ps = s.ps ∧ (t.st x.station).order = none
          ∧ (t.st x.station).coord = .free ∧ (t.st x.station).synced = false)
        ∧ ((∀ j : StationIx, j ≠ x.station → s.releaseOut j = false) → t.ps.corridor ≠ .stopping
          ∧ (s.ps.enable = false → t.ps.corridor = .idle ∧ t.ps.active = none ∧ t.tb.m = 0 ∧ (t.st x.station).order = none
            ∧ (t.st x.station).coord = .free)))
    ∧ ∀ (s : State) (x : Exchange) (cfg : StationConfig) (heard : List Byte) (r : Status) (i : SlotIx) (f : UrgentFrame)
        (e : Entry) (a b : Bool),
      s.replied x cfg heard r → x.frame = .preempt i f → (s.st x.station).link = .online → r.notices = [] → r.checkOuts = [] →
      s.TableLaw → s.EntryLaw → s.entry i = some e → e.posted = true → e.cls = .emergency → e.origin = .route → e.station = x.station →
      f ∈ s.clc.urgent → f.isPreempt i = true → (s.st x.station).hold = s.anySource x.station →
      let k := x.station
      ∃ t : State, exec (.exchangeEnd heard a b) s = .next t ∧ (t.st k).routeActive = true ∧ (t.st k).hold = true
        ∧ t.entry i = some { e with state := .active, seen := r.preempt, posted := false, delivered := some x.slotTick }
        ∧ (∀ y ∈ s.table, y.station = k → y.cls = .transit → y.state = .active → t.entry y.slot = none)
        ∧ (∀ g ∈ t.clc.urgent, g.isPreempt i = false)
        ∧ (s.ps.corridor = .running → (s.st k).coordinated = true → (s.st k).hold = false →
          (t.st k).coord = .held ∧ (t.st k).synced = false ∧ (t.st k).revise = none ∧ ∀ o ∈ (t.st k).order, o.body = none)

/-- A reply that differs moves the model, with DRIFT from a synchronised station, retimes, rebuilds or ends its order, fold and
REVISE, or synchronises it (R51, R84, R90, R96, R97, R98, R103, R105, R107, R112, R120, R122). In part the model's choice: log
entries 9, 17, 19, 22, 23, 41. -/
def Obligations.ResynchronisationMovesTheModelAndItsOrders : Prop :=
  (∀ (s : State) (x : Exchange) (cfg : StationConfig) (heard : List Byte) (r : Status) (m : CycleModel) (c : Course) (a b : Bool),
    s.replied x cfg heard r → x.frame = .poll → s.steady x.station r → r.notices = [] → r.checkOuts = [] →
    (s.st x.station).coordinated = true → (s.st x.station).synced = true → (s.st x.station).model = some m →
    m.basis.course = some c → s.TableLaw →
    (∀ e ∈ s.table, e.station = x.station → e.cls = .transit ∧ e.state = .active) →
    let k := x.station
    let step := circDiff 256 ((r.number.toNat : Int) - m.number.toNat)
    let difference := m.timeDifference x.slotTick r.time
    step ≠ 0 ∨ 3 < difference.natAbs →
    (0 < step → ∀ p ∈ s.activePlan, ¬(p.mode = .tidal ∧ p.tidal = some k.val)) →
    let basis := match m.next with
      | some nx => if 0 < step ∧ nx.number = r.number then .order nx.course else m.basis
      | none => m.basis
    let moved : CycleModel := {
      zeroTick := tickAdd x.slotTick (-(r.time : Int)), number := r.number, basis := basis, mark := m.mark
      lastZero := if 0 < step then r.number else m.lastZero, next := if step = 0 then m.next else none }
    let zero := tickAdd moved.zeroTick ((basis.course.map (·.length)).getD 0)
    let deadline := tickAdd zero (-5)
    let waiting := (s.st k).order.bind fun o => o.body.map fun d => (o, d)
    let stands : WaitingRevise → Bool := fun v => v.number = r.number && 0 ≤ tickDiff (tickAdd moved.zeroTick v.offset) s.now
    let quiet := ∀ v ∈ (s.st k).revise, stands v = true ∨ s.entry v.slot = none
    let drift : EventBody := .drift k difference step
    let untouched : State → Prop := fun t => (s.st k).revise = none → (t.st k).revise = none ∧ t.clc = { s.clc with
      exchange := none, resynced := if x.slotTick = s.now then some k else s.clc.resynced }
    ∃ t : State, exec (.exchangeEnd heard a b) s = .next t ∧ (t.st k).model = some moved
      ∧ (t.st k).synced = true ∧ (t.st k).coord = (s.st k).coord
      ∧ (waiting = none → (t.st k).order = (s.st k).order ∧ (quiet → s.wrote t [drift]))
      ∧ (∀ (o : WaitingOrder) (d : OrderBody), waiting = some (o, d) → d.fold = none →
        (o.number ≠ r.number + 1 → (t.st k).order = none
            ∧ (quiet → s.wrote t [drift, .orderLate k o.number .overtaken]))
          ∧ (o.number = r.number + 1 → tickDiff deadline s.now < 0 → (t.st k).order = none
            ∧ (quiet → s.wrote t [drift, .orderLate k o.number .deadline]))
          ∧ (o.number = r.number + 1 → 0 ≤ tickDiff deadline s.now → (quiet → s.wrote t [drift])
            ∧ (d.takenOver = true → (t.st k).order = some { o with deadline := deadline })
            ∧ ∀ g : PlanSlot, d.takenOver = false → s.slot d.plan = some g →
              let error := projectedError g.plan.cycle (g.plan.localCycle k) s.tb.m d.target (tickDiff zero s.now)
              let tr := transition g.plan k (s.st k).minsInForce error
              (t.st k).lastError = some error ∧ (t.st k).correction = some tr.correction
                ∧ (t.st k).order = some { o with
                    deadline := deadline, body := some { d with course := .ofIntervals tr.intervals, fold := none } }))
      ∧ (∀ (o : WaitingOrder) (d : OrderBody) (f : Fold) (e : Entry), waiting = some (o, d) → d.fold = some f →
        s.entry f.slot = some e → e.station = k → e.outstanding = true → quiet →
        let withdrawn : List EventBody → Prop := fun l => s.eq.records.length + l.length < 32 →
          ∃ more, t.eq.records = s.eq.records ++ l.map s.record ++ s.record (.grantWithdrawn k e.tag f.slot) :: more
        (o.number ≠ r.number + 1 → (t.st k).order = none ∧ withdrawn [drift, .orderLate k o.number .overtaken])
          ∧ (o.number = r.number + 1 → tickDiff deadline s.now < 0 → (t.st k).order = none
            ∧ withdrawn [drift, .orderLate k o.number .deadline])
          ∧ (o.number = r.number + 1 → 0 ≤ tickDiff deadline s.now →
            (d.takenOver = true → untouched t ∧ (t.st k).order = some { o with deadline := deadline } ∧ t.table = s.table
              ∧ s.wrote t [drift])
            ∧ ∀ g : PlanSlot, d.takenOver = false → s.slot d.plan = some g →
              let mins := (s.st k).minsInForce
              let error := projectedError g.plan.cycle (g.plan.localCycle k) s.tb.m d.target (tickDiff zero s.now)
              let tr := transition g.plan k mins error
              let E1 := tr.intervals.headD 0
              let L := tr.intervals.sum
              let X := min g.plan.maxExtension (roomSum tr.intervals.tail mins.tail)
              let pos := tickDiff e.eta zero
              let early := max (pos - 20).toNat (E1 + mins.tail.sum)
              let extendBy := (min (pos - E1 + 20) X).toNat
              let rebuilt : List Nat → Option Fold → Prop := fun ivs fold =>
                (t.st k).lastError = some error ∧ (t.st k).correction = some tr.correction ∧ (t.st k).order = some { o with
                  deadline := deadline, body := some { d with course := .ofIntervals ivs, fold := fold } }
              let keeps : GrantKind → Bool → Prop := fun kind outstanding => untouched t ∧ s.wrote t [drift]
                ∧ t.table = s.table.map fun y =>
                  if y.slot = f.slot then { y with grant := some kind, outstanding := outstanding } else y
              let extends_ := 1 ≤ X ∧ pos < E1 + X
              (L ≤ pos → rebuilt tr.intervals none ∧ withdrawn [drift])
                ∧ (pos < L → E1 ≤ pos → extends_ → keeps .extend true
                  ∧ rebuilt (foldExtend extendBy tr.intervals mins) (some { slot := f.slot, kind := .extend, amount := extendBy }))
                ∧ (pos < L → E1 ≤ pos → ¬extends_ → early < L → keeps .early true
                  ∧ rebuilt (foldEarly early tr.intervals mins) (some { slot := f.slot, kind := .early, amount := L - early }))
                ∧ (pos < L → pos < E1 ∨ ¬extends_ ∧ L ≤ early → keeps .passive false ∧ rebuilt tr.intervals none
                  ∧ (t.st k).lockout = 0)))
      ∧ ((∀ (o : WaitingOrder) (d : OrderBody) (f : Fold) (e : Entry), waiting = some (o, d) → d.fold = some f →
        s.entry f.slot = some e → e.outstanding = false) → untouched t)
      ∧ ∀ v : WaitingRevise, (s.st k).revise = some v →
        (stands v = true → (t.st k).revise = some { v with latest := tickAdd moved.zeroTick v.offset })
          ∧ (stands v = false → s.entry v.slot = none → (t.st k).revise = none
            ∧ ∀ f ∈ t.clc.urgent, ¬(f.station = k ∧ f.kind = .revise))
          ∧ ∀ e : Entry, stands v = false → s.entry v.slot = some e → e.station = k → e.outstanding = true →
            waiting = none → s.eq.records.length + 2 ≤ 32 → ∃ more, t.eq.records
              = s.eq.records ++ s.record drift :: s.record (.grantWithdrawn k e.tag v.slot) :: more)
    ∧ ∀ (s : State) (x : Exchange) (cfg : StationConfig) (heard : List Byte) (r : Status) (m : CycleModel) (a b : Bool),
      s.replied x cfg heard r → x.frame = .poll → s.steady x.station r → r.notices = [] → r.checkOuts = [] →
      (s.st x.station).synced = false → (s.st x.station).model = some m → (s.st x.station).order.bind (·.body) = none →
      (s.st x.station).revise = none → s.activeEmergency x.station = none →
      let k := x.station
      let step := circDiff 256 ((r.number.toNat : Int) - m.number.toNat)
      step ≠ 0 ∨ 3 < (m.timeDifference x.slotTick r.time).natAbs ∨ (s.st k).coord = .seeking
        ∨ m.basis = .none ∧ s.activePlan ≠ none →
      (0 < step → ∀ p ∈ s.activePlan, ¬(p.mode = .tidal ∧ p.tidal = some k.val)) →
      let adopted := match m.next with
        | some nx => if 0 < step ∧ nx.number = r.number then .order nx.course else m.basis
        | none => m.basis
      ∃ t : State, exec (.exchangeEnd heard a b) s = .next t
        ∧ (t.st k).model = some {
            zeroTick := tickAdd x.slotTick (-(r.time : Int)), number := r.number, mark := m.mark
            basis := if adopted = .none then ((s.activePlan.map fun p => .plan (p.course k)).getD .none) else adopted
            lastZero := if 0 < step then r.number else m.lastZero, next := if step = 0 then m.next else none }
        ∧ (t.st k).synced = decide ((s.st k).coord = .seeking) ∧ (t.st k).coord = (s.st k).coord
        ∧ (t.st k).order = (s.st k).order ∧ (t.st k).revise = none ∧ t.table = s.table ∧ s.wrote t []

/-- A TRANSIT notice is entered with its values clamped, classified against the cycle in progress, and granted while its
decision point is not past (R102, R110, R114, R116, R117, R118, R119, R121). In part the model's choice: log entries 7, 9, 33.
-/
def Obligations.TransitNoticesAreEnteredAndEvaluated : Prop :=
  ∀ (s : State) (x : Exchange) (cfg : StationConfig) (heard : List Byte) (r : Status) (m : CycleModel) (n : Notice) (a b : Bool),
    s.replied x cfg heard r → x.frame = .poll → s.steady x.station r → s.agrees x.station x.slotTick m r →
    r.notices = [n] → r.checkOuts = [] → n.cls = 0 → n.dir ≤ 1 → s.TableLaw → s.activeEmergency x.station = none →
    (∀ y ∈ s.table, ¬(y.station = x.station ∧ y.cls = .transit ∧ y.state = .pending)) →
    let k := x.station
    let entered := s.ps.corridor = .running ∧ (s.st k).coordinated = true
    ∃ t : State, exec (.exchangeEnd heard a b) s = .next t ∧ (t.st k).model = some m
      ∧ (¬entered → t.table = s.table ∧ s.wrote t [])
      ∧ (entered → 24 ≤ s.table.length → t.table = s.table ∧ s.wrote t [.tableFull k .transit n.tag])
      ∧ ∀ i : SlotIx, entered → s.table.length < 24 → (∀ y ∈ s.table, y.slot ≠ i) →
        (∀ j : SlotIx, j < i → ∃ y ∈ s.table, y.slot = j) →
        let e : Entry := {
          slot := i, cls := .transit, level := max 1 (min 3 n.level), origin := .station, station := k
          dir := if n.dir = 0 then .inward else .outward, tag := n.tag, arrival := x.slotTick
          eta := tickAdd x.slotTick (10 * min 120 n.eta : Nat), due := none
          masked := if n.dir = 0 then !(s.st k).maskIn else !(s.st k).maskOut, grant := none, outstanding := false
          seen := false, posted := false, delivered := none, state := .pending }
        let after := (t.table, t.clc.urgent, (t.st k).revise, (t.st k).lockout)
        let stays := (s.table ++ [e], s.clc.urgent, (s.st k).revise, (s.st k).lockout)
        (e.masked = true ∨ (s.st k).synced = false ∨ (∃ y ∈ s.table, y.station = k ∧ y.state = .active) →
            after = stays ∧ s.wrote t [])
          ∧ ∀ (p : Plan) (c : Course), e.masked = false → (s.st k).synced = true →
            (∀ y ∈ s.table, ¬(y.station = k ∧ y.state = .active)) → s.activePlan = some p → m.basis.course = some c →
            c.intervals.sum = c.length → 10 ≤ c.firstEnd →
            let pos := tickDiff e.eta m.zeroTick
            let E1 := c.firstEnd
            let mins := (s.st k).minsInForce
            let X := min p.maxExtension (roomSum c.intervals.tail mins.tail)
            let early := max (pos - 20).toNat (E1 + mins.tail.sum)
            let extendBy := (min (pos - E1 + 20) X).toNat
            let free := (s.st k).revise = none
            let granted : FoldKind → List Nat → Nat → List Entry × List UrgentFrame × Option WaitingRevise × Nat :=
              fun kind ivs offset => (
                s.table ++ [{ e with state := .active, grant := some kind.grant, outstanding := true }],
                s.clc.urgent ++ [{ station := k, kind := .revise, placed := s.now }],
                some {
                  number := m.number, kind := kind, slot := i, course := .ofIntervals ivs
                  latest := tickAdd m.zeroTick offset, offset := offset },
                p.lockout)
            ((c.length : Int) ≤ pos → after = stays ∧ s.wrote t [])
              ∧ (pos < E1 → pos < c.length →
                after = (s.table ++ [{ e with state := .active, grant := some .passive }], stays.2)
                  ∧ s.wrote t [.grant k .passive n.tag])
              ∧ (E1 ≤ pos → pos < c.length → 0 < (s.st k).lockout → after = stays ∧ s.wrote t [])
              ∧ (E1 ≤ pos → pos < c.length → (s.st k).lockout = 0 → 1 ≤ X → pos < E1 + X →
                (free → tickDiff s.now m.zeroTick ≤ (E1 : Int) - 10 →
                    after = granted .extend (foldExtend extendBy c.intervals mins) (E1 - 10)
                      ∧ s.wrote t [.grant k .extend n.tag])
                  ∧ (¬free ∨ (E1 : Int) - 10 < tickDiff s.now m.zeroTick → after = stays ∧ s.wrote t []))
              ∧ (E1 ≤ pos → pos < c.length → (s.st k).lockout = 0 → X = 0 ∨ E1 + X ≤ pos →
                (c.length ≤ early → after = (s.table ++ [{ e with state := .active, grant := some .passive }], stays.2)
                    ∧ s.wrote t [.grant k .passive n.tag])
                  ∧ (early < c.length → free → tickDiff s.now m.zeroTick < E1 →
                    after = granted .early (foldEarly early c.intervals mins) (E1 - 1) ∧ s.wrote t [.grant k .early n.tag])
                  ∧ (early < c.length → ¬free ∨ (E1 : Int) ≤ tickDiff s.now m.zeroTick → after = stays ∧ s.wrote t []))

/-- An EMERGENCY notice becomes ACTIVE or waits, a full table displaces for it and for ROUTE_CLEAR, a check-out ends, and the
preempt flag marks and ends (R114, R115, R116, R123, R124, R125, R126, R127, R129). In part the model's choice: log entries 4,
9, 21, 33. -/
def Obligations.EmergenciesAndCheckOutsReachTheTable : Prop :=
  (∀ (s : State) (x : Exchange) (cfg : StationConfig) (heard : List Byte) (r : Status) (m : CycleModel) (a b : Bool),
    s.replied x cfg heard r → x.frame = .poll → s.steady x.station r → s.agrees x.station x.slotTick m r → s.TableLaw →
    s.EntryLaw →
    let k := x.station
    let unpost : Entry → Entry := fun z =>
      if z.station = k ∧ z.posted = true then { z with posted := false, state := .pending } else z
    let unposted : LinkControl := { s.clc with
      exchange := none
      urgent := s.clc.urgent.filter fun f => !s.table.any fun z => z.station = k && z.posted && f.isPreempt z.slot }
    ∃ t : State, exec (.exchangeEnd heard a b) s = .next t
      ∧ (∀ n : Notice, r.notices = [n] → r.checkOuts = [] → n.cls = 1 → n.dir ≤ 1 →
        (∀ i : SlotIx, s.table.length < 24 → (∀ y ∈ s.table, y.slot ≠ i) → (∀ j : SlotIx, j < i → ∃ y ∈ s.table, y.slot = j) →
            let e : Entry := {
              slot := i, cls := .emergency, level := max 4 (min 7 n.level), origin := .station, station := k
              dir := if n.dir = 0 then .inward else .outward, tag := n.tag, arrival := x.slotTick
              eta := tickAdd x.slotTick (10 * min 120 n.eta : Nat), due := none, masked := false, grant := none
              outstanding := false, seen := false, posted := false, delivered := none, state := .pending }
            (s.activeEmergency k = none →
                (s.activeTransit k = none →
                    t.clc = unposted ∧ t.table = s.table.map unpost ++ [{ e with state := .active, seen := r.preempt }] ∧ s.wrote t [])
                  ∧ ∀ y : Entry, s.activeTransit k = some y → y.outstanding = false →
                    t.clc = unposted ∧ t.table = ((s.table.filter (·.slot ≠ y.slot)).map unpost) ++ [{ e with state := .active, seen := r.preempt }]
                      ∧ s.wrote t [.requestEnd k .superseded y.grant y.tag])
              ∧ ∀ y : Entry, s.activeEmergency k = some y → r.preempt = true →
                t.table = (s.table.map fun z => if z.slot = y.slot then { z with seen := true } else z) ++ [e] ∧ s.wrote t [])
          ∧ (24 ≤ s.table.length → (∀ y ∈ s.table, ¬(y.cls = .transit ∧ y.state = .pending)) → s.activeEmergency k = none →
            t.table = s.table ∧ s.wrote t [.tableFull k .emergency n.tag])
          ∧ ∀ (l u : List Entry) (y : Entry), 24 ≤ s.table.length → s.table = l ++ y :: u → y.cls = .transit → y.state = .pending →
            (∀ z ∈ l, ¬(z.cls = .transit ∧ z.state = .pending)) →
            let e : Entry := {
              slot := y.slot, cls := .emergency, level := max 4 (min 7 n.level), origin := .station, station := k
              dir := if n.dir = 0 then .inward else .outward, tag := n.tag, arrival := x.slotTick
              eta := tickAdd x.slotTick (10 * min 120 n.eta : Nat), due := none, masked := false, grant := none
              outstanding := false, seen := false, posted := false, delivered := none, state := .pending }
            let dropped : EventBody := .requestEnd y.station .dropped y.grant y.tag
            (s.activeEmergency k = none → s.activeTransit k = none →
                t.clc = unposted ∧ t.table = (l ++ u).map unpost ++ [{ e with state := .active, seen := r.preempt }] ∧ s.wrote t [dropped])
              ∧ ∀ z : Entry, s.activeEmergency k = some z → r.preempt = true →
                t.table = ((l ++ u).map fun w => if w.slot = z.slot then { w with seen := true } else w) ++ [e]
                  ∧ s.wrote t [dropped])
      ∧ (∀ tag : Word16, r.notices = [] → r.checkOuts = [tag] → s.activeEmergency k = none →
        ((∀ y ∈ s.table, ¬(y.station = k ∧ y.cls = .transit ∧ y.tag = tag)) → t.table = s.table ∧ s.wrote t [])
          ∧ ∀ e : Entry, e ∈ s.table → e.station = k → e.cls = .transit → e.tag = tag →
            e.state = .active ∨ (∀ y ∈ s.table, y.station = k → y.cls = .transit → y.tag = tag → y.state ≠ .active)
              ∧ (∀ l u : List Entry, s.table = l ++ e :: u → ∀ y ∈ l, ¬(y.station = k ∧ y.cls = .transit ∧ y.tag = tag)) →
            s.without t (·.slot = e.slot)
              ∧ (s.eq.records.length < 32 →
                ∃ more, t.eq.records = s.eq.records ++ s.record (.requestEnd k .done e.grant e.tag) :: more))
      ∧ ∀ e : Entry, r.notices = [] → r.checkOuts = [] → s.activeEmergency k = some e →
        (r.preempt = true →
            t.table = s.table.map (fun y => if y.slot = e.slot then { y with seen := true } else y) ∧ s.wrote t [])
          ∧ (r.preempt = false → e.seen = false → t.table = s.table ∧ s.wrote t [])
          ∧ (r.preempt = false → e.seen = true → s.without t (·.slot = e.slot)
            ∧ (s.eq.records.length < 32 →
              ∃ more, t.eq.records = s.eq.records ++ s.record (.requestEnd k .done e.grant e.tag) :: more)))
    ∧ ∀ (s : State) (echo : Byte) (r : RouteFields) (N : Nat), s.takesAtOnce → s.TableLaw → s.EntryLaw →
      s.ps.corridor = .running → s.count = some N → N ≤ 16 → r.first < N → r.last < N →
      (match r.dir with
        | .inward => r.first ≤ r.last
        | .outward => r.last ≤ r.first) →
      15 ≤ r.speed → r.speed ≤ 90 → r.delay ≤ 6000 → 4 ≤ r.level → r.level ≤ 7 → 24 < s.table.length + r.stations.length →
      let run := exec (.routeClear echo (be8 r.dir.code ++ be8 r.first ++ be8 r.last ++ be8 r.speed ++ be16 r.delay ++ be8 r.level
        ++ be16 r.tag.toNat)) s
      let waiting := s.table.filter fun e => e.cls = .transit && e.state = .pending
      let needed := s.table.length + r.stations.length - 24
      let gone := waiting.take needed
      (waiting.length < needed → run = .next (s.heard.answered 0x10 echo .full))
        ∧ (needed ≤ waiting.length → ∃ (u : State) (slots : List SlotIx), slots.length = r.stations.length ∧ slots.Nodup
          ∧ (∀ i ∈ slots, ∀ e ∈ s.table, e.slot = i → e ∈ gone)
          ∧ (∀ (j : Nat) (i h : SlotIx), slots[j]? = some i → h < i → h ∈ slots.take j ∨ ∃ e ∈ s.table, e.slot = h ∧ e ∉ gone)
          ∧ u.table = (s.table.filter fun e => !gone.contains e) ++ List.zipWith (s.routeEntry r) r.stations slots
          ∧ s.heard.wrote u (gone.map fun e => .requestEnd e.station .dropped e.grant e.tag)
          ∧ u = { s.heard with table := u.table, eq := u.eq, hli := u.hli }
          ∧ run = .next (u.answered 0x10 echo (.ok (be8 slots.length ++ slots.flatMap fun i => be8 i.val))))

/-- A STATUS frame laid out as the tables say is accepted as it was sent, and anything else heard fails with the first cause of
Table 9-6 (Table 9-1, Table 9-5, R134, R136). In part the model's choice: log entry 32. -/
def Obligations.RepliesAreReadBackOrFailTheirFirstCheck : Prop :=
  (∀ (drop n : Nat) (mark : Bool) (noise tail : List Byte) (r : Status), drop < 256 → r.fits → 1 ≤ r.phase → r.phase ≤ n →
    (0x5C : Byte) ∉ noise →
    readReply drop n (noise ++ corridorWire drop (0x10 ||| ackBit mark) r.bytes ++ tail) = .ok r)
    ∧ (∀ (drop n : Nat) (heard : List Byte), (0x5C : Byte) ∉ heard → readReply drop n heard = .error .noReply)
    ∧ (∀ (drop n from_ : Nat) (kind : Byte) (noise tail p : List Byte), from_ < 256 → p.length ≤ 64 → (0x5C : Byte) ∉ noise →
      readReply drop n (noise ++ corridorWire from_ kind p ++ tail) =
        if from_ ≠ drop then .error .address
        else if kind.toNat % 128 ≠ 0x10 then .error .kind
        else match parseStatus p with
          | none => .error .format
          | some r => if 1 ≤ r.phase ∧ r.phase ≤ n then .ok r else .error .phase)
    ∧ (∀ (drop n : Nat) (noise bs : List Byte), (0x5C : Byte) ∉ noise → 64 < rd8 bs 2 ∨ bs.length < rd8 bs 2 + 5 →
      readReply drop n (noise ++ 0x5C :: bs) = .error .truncated)
    ∧ ∀ (drop n : Nat) (noise bs : List Byte), (0x5C : Byte) ∉ noise → rd8 bs 2 ≤ 64 → rd8 bs 2 + 5 ≤ bs.length →
      rd16 bs (rd8 bs 2 + 3) ≠ (crc (bs.take (rd8 bs 2 + 3))).toNat → readReply drop n (noise ++ 0x5C :: bs) = .error .check

/-- A frame of the host is begun, gathered whole and accepted, discarded on a bad check, or abandoned (R145, R154, Table 10-1).
In part the model's choice: log entries 3, 5. -/
def Obligations.HostFramesAreGathered : Prop :=
  (∀ (s : State) (n : Byte), s.hli.rx = .hunting →
      (1 ≤ n.toNat ∧ n.toNat ≤ 250 →
          exec (.hostFrameBegun n) s = .next { s with hli := { s.hli with rx := .gathering n.toNat } })
        ∧ (n.toNat = 0 ∨ 250 < n.toNat → exec (.hostFrameBegun n) s = .next s))
    ∧ (∀ (s : State) (kind echo : Byte) (payload : List Byte), 1 ≤ payload.length → payload.length ≤ 250 →
      s.hli.rx = .gathering payload.length →
      exec (.hostFrameReceived ((hostWire kind echo payload).drop 2)) s = .next (s.heard.offer ⟨kind, echo, payload⟩))
    ∧ (∀ (s : State) (n : Nat) (rest : List Byte), s.hli.rx = .gathering n → n ≤ 250 → rest.length = n + 4 →
      rd16 rest (n + 2) ≠ (crc (be8 n ++ rest.take (n + 2))).toNat → exec (.hostFrameReceived rest) s = .next s.heard)
    ∧ (∀ (s : State) (n : Nat), s.hli.rx = .gathering n → exec .hostFrameAbandoned s = .next s.heard
      ∧ (∀ length : Byte, exec (.hostFrameBegun length) s = .next s)
      ∧ ∀ rest : List Byte, rest.length ≠ n + 4 → exec (.hostFrameReceived rest) s = .next s)
    ∧ (∀ (s : State) (rest : List Byte), s.hli.rx = .hunting ∨ s.hli.rx = .ignoring →
      exec (.hostFrameReceived rest) s = .next s ∧ exec .hostFrameAbandoned s = .next s)
    ∧ ∀ (s : State) (n : Byte), s.hli.rx = .ignoring → exec (.hostFrameBegun n) s = .next s

/-- When a frame has been sent the next begins, a notice takes its count, and a waiting request is taken (R146, R147, R148,
R153, R154). In part the model's choice: log entries 3, 26, 27, 28. -/
def Obligations.SentFramesLetTheNextBegin : Prop :=
  (∀ s : State, s.hli.transmit = [] → exec .hostFrameSent s = .next s)
    ∧ (∀ (s : State) (f : TxFrame) (rest : List TxFrame), s.hli.transmit = f :: .notice none :: rest → rest ≠ [] ∨
        s.hli.received = [] →
      exec .hostFrameSent s
        = .next { s with hli := { s.hli with transmit := .notice (some s.eq.records.length) :: rest } })
    ∧ (∀ (s : State) (f g : TxFrame) (rest : List TxFrame), s.hli.transmit = f :: g :: rest → g ≠ .notice none →
        rest ≠ [] ∨ s.hli.received = [] →
      exec .hostFrameSent s = .next { s with hli := { s.hli with transmit := g :: rest } })
    ∧ (∀ (s : State) (f : TxFrame) (q : HostFrame) (waiting : List HostFrame), s.hli.transmit = [f] →
      s.hli.received = q :: waiting →
      let u : State := { s with hli := { s.hli with transmit := [], received := waiting } }
      (s.hli.rx ≠ .ignoring → exec .hostFrameSent s = .next ((u.serve q).2.reply q (u.serve q).1))
        ∧ (s.hli.rx = .ignoring → exec .hostFrameSent s = .next { s with hli := { s.hli with transmit := [] } }))
    ∧ (∀ (s : State) (f : TxFrame), s.hli.transmit = [f] → s.hli.received = [] →
      exec .hostFrameSent s = .next { s with hli := { s.hli with
        transmit := [], emptied := s.hli.emptied || decide (s.hli.rx = .ignoring) } })
    ∧ (∀ (s : State) (f g : TxFrame) (q : HostFrame) (waiting : List HostFrame), s.hli.transmit = [f, g] →
      s.hli.received = q :: waiting →
      let begun := if g = .notice none then .notice (some s.eq.records.length) else g
      let u : State := { s with hli := { s.hli with transmit := [begun], received := waiting } }
      (s.hli.rx ≠ .ignoring → exec .hostFrameSent s = .next ((u.serve q).2.reply q (u.serve q).1))
        ∧ (s.hli.rx = .ignoring → exec .hostFrameSent s = .next { s with hli := { s.hli with transmit := [begun] } }))
    ∧ ∀ (s : State) (q : HostFrame) (waiting : List HostFrame), s.hli.rx = .ignoring → s.hli.received = q :: waiting →
      s.hli.transmit.length ≤ 1 → s.hli.transmit.head? ≠ some (.notice none) →
      exec .waitingFrameRefused s = .next
        (({ s with hli := { s.hli with received := waiting } } : State).answered q.kind q.echo .badState)

/-- A request that cannot be taken at once waits or is lost; a bad kind or fixed length is refused; none is heard during a RESET
(R145, R146, R154, R148, R149). In part the model's choice: log entry 4. -/
def Obligations.FramesWaitAreLostOrAreRefused : Prop :=
  (∀ (i : Instr) (f : HostFrame) (s : State), i.frame = some f → i.wellFormed = true →
    (s.hli.rx = .ignoring → exec i s = .next s)
      ∧ (s.hli.rx ≠ .ignoring → s.hli.received ≠ [] ∨ 2 ≤ s.hli.transmit.length →
        (s.hli.received.length < 4 → exec i s = .next { s with hli := { s.hli with
            rx := .hunting, received := s.hli.received ++ [f] } })
          ∧ (4 ≤ s.hli.received.length → exec i s = .next { s with hli := { s.hli with rx := .hunting, overrun := true } })))
    ∧ (∀ (s : State) (kind echo : Byte) (payload : List Byte), s.takesAtOnce → isRequestKind kind = false →
      payloadFits payload = true → exec (.badKind kind echo payload) s = .next (s.heard.answered kind echo .badKind))
    ∧ ∀ (i : Instr) (f : HostFrame) (n : Nat) (s : State), s.takesAtOnce → i.frame = some f → isRequestKind f.kind = true →
      i.wellFormed = true → fixedLength f.kind.toNat = some n → f.payload.length ≠ n →
      exec i s = .next (s.heard.answered f.kind f.echo .badLength)

/-- A written event joins the end of the queue with its stamp, or sets the overflow flag; the first may place a notice (R153,
R156). In part the model's choice: log entry 26. -/
def Obligations.EventsJoinTheQueueOrOverflow : Prop :=
  ∀ (s : State) (b : EventBody),
    (s.eq.records.length < 32 →
        (s.emit b).eq = { records := s.eq.records ++ [s.record b], overflow := s.eq.overflow }
          ∧ (s.eq.records = [] → s.hli.notice = true → s.hli.armed = true → s.hli.transmit ≠ [] →
            s.hli.transmit.head? ≠ some (.notice none) →
            (s.emit b).hli = { s.hli with armed := false, transmit := s.hli.transmit ++ [.notice none] })
          ∧ (s.eq.records = [] → s.hli.notice = true → s.hli.armed = true → s.hli.transmit = [] →
            (s.emit b).hli = { s.hli with armed := false, transmit := [.notice (some 1)] })
          ∧ (s.eq.records ≠ [] ∨ s.hli.notice = false ∨ s.hli.armed = false → (s.emit b).hli = s.hli))
      ∧ (32 ≤ s.eq.records.length → (s.emit b).eq = { s.eq with overflow := true } ∧ (s.emit b).hli = s.hli)
      ∧ s.emit b = { s with eq := (s.emit b).eq, hli := (s.emit b).hli }

/-- DEFINE_CORRIDOR is checked in order, and an accepted one discards every station record (R5, R6). In part the model's choice:
log entries 4, 34. -/
def Obligations.DefineCorridorStartsAfresh : Prop :=
  (∀ (s : State) (echo n : Byte), s.takesAtOnce →
      (s.busy = true → exec (.defineCorridor echo [n]) s = .next (s.heard.answered 0x01 echo .busy))
        ∧ (s.busy = false → n.toNat < 2 ∨ 16 < n.toNat →
          exec (.defineCorridor echo [n]) s = .next (s.heard.answered 0x01 echo (.badField 1)))
        ∧ (s.busy = false → 2 ≤ n.toNat → n.toNat ≤ 16 → s.ps.corridor ≠ .idle →
          exec (.defineCorridor echo [n]) s = .next (s.heard.answered 0x01 echo .badState))
        ∧ (s.busy = false → 2 ≤ n.toNat → n.toNat ≤ 16 → s.ps.corridor = .idle →
          ∃ u : State, exec (.defineCorridor echo [n]) s = .next (u.answered 0x01 echo (.ok []))
            ∧ u.count = some n.toNat ∧ (∀ k : StationIx, u.st k = .blank) ∧ u.table = [] ∧ u.geometryValid = false
            ∧ u.clc = { s.clc with
                urgent := [], nonRoutine := 0, pollPtr := 0
                exchange := s.clc.exchange.map fun x => { x with discarded := true } }
            ∧ u.mu = { s.mu with ring := [], accIn := 0, accOut := 0, primed := false } ∧ u.hl = s.hl
            ∧ (∀ (g : Fin 8), u.ps.slots[g] = (s.ps.slots[g]).map fun x =>
              { x with verdict := .invalid { reason := .geometry, station := none, phase := none } })
            ∧ s.heard.wrote u
                ((allStations.filter fun k => (s.st k).link = .online).map (.linkLost · .redefined)
                  ++ s.table.map fun e => .requestEnd e.station .cancelled e.grant e.tag)
            ∧ u.tb = s.tb ∧ u.cs = s.cs ∧ u.pending = s.pending
            ∧ u.ps = { s.ps with slots := u.ps.slots }))
    ∧ ∀ (s : State) (echo : Byte) (payload : List Byte), s.takesAtOnce → payloadFits payload = true → payload.length ≠ 1 →
      exec (.defineCorridor echo payload) s = .next (s.heard.answered 0x01 echo .badLength)

/-- LOAD_STATION of a fitting configuration part stores it whole, as the tables lay it out, with minimums at once in IDLE and
pending otherwise (R2, R3, R4, R7, R8, R9, R60, R72, R81, R136, R141, R143). In part the model's choice: log entries 4, 35. -/
def Obligations.LoadStationStoresTheConfiguration : Prop :=
  ∀ (s : State) (echo : Byte) (k : StationIx) (N : Nat) (c : StationConfig), s.takesAtOnce → s.busy = false → s.count = some N →
    N ≤ 16 → k.val < N → c.fits → (c.link.isSome = true ↔ k.val + 1 < N) →
    (∀ (j : StationIx) (c' : StationConfig), j ≠ k → (s.st j).config = some c' → c'.drop ≠ c.drop) →
    let times : List Byte := match c.link with
      | some l => be16 ((72 * l.distance + l.vIn) / (2 * l.vIn)) ++ be16 ((72 * l.distance + l.vOut) / (2 * l.vOut))
      | none => []
    (s.ps.corridor = .idle →
        ∃ u : State, exec (.loadStation echo (c.payload k)) s = .next (u.answered 0x02 echo (.ok times))
          ∧ (u.st k).config = some c ∧ (u.st k).minsInForce = c.minimums ∧ (u.st k).minsPending = false
          ∧ (u.st k).hold = u.anySource k ∧ (∀ j : StationIx, j ≠ k → (u.st j).config = (s.st j).config)
          ∧ (∀ (g : Fin 8) (x : PlanSlot), u.ps.slots[g] = some x → x.verdict = u.judge x.plan)
          ∧ ((∀ c0, (s.st k).config = some c0 → c0.drop ≠ c.drop) → (u.st k).link = .lost ∧ (u.st k).misses = 3
            ∧ (u.st k).ackMark = false ∧ (u.st k).lastFailure = none)
          ∧ (∀ c0, (s.st k).config = some c0 → c0.drop = c.drop → (u.st k).link = (s.st k).link
            ∧ (u.st k).misses = (s.st k).misses ∧ (u.st k).ackMark = (s.st k).ackMark)
          ∧ (∀ c0, (s.st k).config = some c0 → c0.phases ≠ c.phases → (u.st k).raw = none ∧ (u.st k).target = none
            ∧ (u.st k).jump = true ∧ (u.st k).queueIn = 0 ∧ (u.st k).queueOut = 0 ∧ (u.st k).sampleNo = none ∧ (u.st k).age = 3
            ∧ (c0.drop = c.drop →
              (u.st k).model = (s.st k).model.map fun m => { m with basis := .none, next := none }))
          ∧ (∀ c0, (s.st k).config = some c0 → c0.phases = c.phases → c0.drop = c.drop → (u.st k).raw = (s.st k).raw
            ∧ (u.st k).target = (s.st k).target ∧ (u.st k).jump = (s.st k).jump ∧ (u.st k).sampleNo = (s.st k).sampleNo
            ∧ (u.st k).age = (s.st k).age ∧ (u.st k).model = (s.st k).model)
          ∧ (∀ g : Fin 8, (u.ps.slots[g]).map (·.plan) = (s.ps.slots[g]).map (·.plan))
          ∧ u.ps = { s.ps with slots := u.ps.slots }
          ∧ u.ps.corridor = .idle ∧ u = { s with
              ps := u.ps, mu := u.mu, stations := u.stations, clc := u.clc, table := u.table, eq := u.eq, hli := u.hli })
      ∧ ∀ c0 : StationConfig, s.ps.corridor ≠ .idle → (s.st k).config = some c0 → c0.drop = c.drop → c0.phases = c.phases →
        s.spoiledPlan k c.minimums = none →
        ∃ u : State, exec (.loadStation echo (c.payload k)) s = .next (u.answered 0x02 echo (.ok times))
          ∧ (u.st k).config = some c ∧ (u.st k).minsInForce = (s.st k).minsInForce
          ∧ (u.st k).minsPending = ((s.st k).minsPending || decide (c0.minimums ≠ c.minimums))
          ∧ (u.st k).hold = u.anySource k ∧ (u.st k).link = (s.st k).link ∧ u.ps.active = s.ps.active
          ∧ (∀ g : Fin 8, (u.ps.slots[g]).map (·.plan) = (s.ps.slots[g]).map (·.plan)
            ∧ ∀ x ∈ u.ps.slots[g], x.verdict = u.judge x.plan)
          ∧ u = { s with ps := u.ps, stations := u.stations, clc := u.clc, table := u.table, eq := u.eq, hli := u.hli }

/-- LOAD_STATION is refused by the first failing check of Table 1-4, with its result and field, and the request changes nothing
(R5, R7, R146, R148, Table 1-3, Table 1-4). In part the model's choice: log entry 4. -/
def Obligations.LoadStationRefusalsRunInOrder : Prop :=
  ∀ (s : State) (echo : Byte) (p : List Byte), s.takesAtOnce → 1 ≤ p.length → p.length ≤ 250 →
    let refused : Result → Prop := fun r => exec (.loadStation echo p) s = .next (s.heard.answered 0x02 echo r)
    let drop := rd8 p 1
    let n := rd8 p 2
    let mins := (List.range n).map fun i => rd16 p (3 + 2 * i)
    let outside : Nat → Nat → Nat → Bool := fun low high x => x < low || high < x
    (p.length < 3 → refused .badLength)
      ∧ (3 ≤ p.length → s.cs.saving ≠ none → refused .busy)
      ∧ (3 ≤ p.length → s.cs.saving = none → (s.count = none → refused .badState)
        ∧ ∀ N : Nat, s.count = some N → N ≤ 16 → (N ≤ rd8 p 0 → refused (.badField 1))
          ∧ ∀ k : StationIx, k.val = rd8 p 0 → k.val < N →
            let wrong : Nat → Prop := fun f => (f = 2 ∧ outside 1 31 drop = true)
              ∨ (∃ i : Fin 6, i.val < n ∧ f = 4 + i.val ∧ outside 50 600 (rd16 p (3 + 2 * i.val)) = true)
              ∨ (f = 10 ∧ outside 15 40 (rd8 p (3 + 2 * n)) = true) ∨ (f = 11 ∧ outside 15 40 (rd8 p (4 + 2 * n)) = true)
              ∨ (f = 12 ∧ 1 < rd8 p (5 + 2 * n)) ∨ (f = 13 ∧ 1 < rd8 p (6 + 2 * n))
              ∨ (k.val + 1 < N ∧ ((f = 14 ∧ outside 20 3000 (rd16 p (7 + 2 * n)) = true)
                ∨ (f = 15 ∧ outside 15 90 (rd8 p (9 + 2 * n)) = true) ∨ (f = 16 ∧ outside 15 90 (rd8 p (10 + 2 * n)) = true)))
            let held : StationIx → Bool := fun j => j ≠ k && (s.st j).config.any (·.drop = drop)
            let u := s.modSt k fun t => { t with config := t.config.map fun c => { c with minimums := mins } }
            let spoiled : Nat → Prop := fun g => ∃ x ∈ s.slot g, u.judge x.plan ≠ .valid
            (outside 2 6 n = true → refused (.badField 3))
              ∧ (outside 2 6 n = false →
                (p.length ≠ 7 + 2 * n + (if k.val + 1 < N then 4 else 0) → refused .badLength)
                  ∧ (p.length = 7 + 2 * n + (if k.val + 1 < N then 4 else 0) →
                    (∀ f : Nat, wrong f → (∀ g : Nat, g < f → ¬wrong g) → refused (.badField f))
                      ∧ ((∀ f : Nat, ¬wrong f) →
                        (s.ps.corridor ≠ .idle → (∃ c ∈ (s.st k).config, c.drop ≠ drop ∨ c.minimums.length ≠ n) →
                            refused .badState)
                          ∧ (s.ps.corridor = .idle ∨ (∀ c ∈ (s.st k).config, c.drop = drop ∧ c.minimums.length = n) →
                            (∀ j : StationIx, held j = true → (∀ i : StationIx, i < j → held i = false) →
                                refused (.conflict j.val))
                              ∧ ((∀ j : StationIx, held j = false) → s.ps.corridor ≠ .idle →
                                (∀ g ∈ s.ps.active, spoiled g → refused (.conflict g))
                                  ∧ ∀ g ∈ s.ps.staged, spoiled g → (∀ a ∈ s.ps.active, ¬spoiled a) →
                                    refused (.conflict g)))))))

/-- LOAD_PLAN of a fitting record stores it whole, as the tables lay it out, judges it and answers its verdict (R14, R15, R17,
R18, R24, Table 10-3). In part the model's choice: log entries 4, 12, 13. -/
def Obligations.LoadPlanStoresTheRecord : Prop :=
  ∀ (s : State) (echo : Byte) (g : Nat) (p : Plan), s.takesAtOnce → s.busy = false → 1 ≤ g → (hg : g ≤ 8) → p.fits →
    (s.ps.active ≠ some g → s.ps.staged ≠ some g →
        exec (.loadPlan echo (be8 g ++ p.bytes)) s = .next
          (({ s.heard with ps := { s.ps with
              slots := s.ps.slots.setIfInBounds (g - 1) (some { plan := p, verdict := s.judge p })
              rejection := if s.ps.rejection = some g then none else s.ps.rejection } } : State).answered
            0x03 echo (.ok (s.judge p).bytes)))
      ∧ (s.ps.active = some g ∨ s.ps.staged = some g →
        exec (.loadPlan echo (be8 g ++ p.bytes)) s = .next (s.heard.answered 0x03 echo .planInUse))

/-- LOAD_PLAN is refused by the first failing check of Table 2-4, with its result and field, and the request changes nothing
(R17, R146, R148, Table 2-3, Table 2-4). In part the model's choice: log entries 4, 36. -/
def Obligations.LoadPlanRefusalsRunInOrder : Prop :=
  ∀ (s : State) (echo : Byte) (p : List Byte), s.takesAtOnce → 1 ≤ p.length → p.length ≤ 250 →
    let refused : Result → Prop := fun r => exec (.loadPlan echo p) s = .next (s.heard.answered 0x03 echo r)
    let o := if rd8 p 6 = 3 then 9 else 8
    let items := rd8 p (o + 7)
    let at_ : List Nat → Nat → Nat := fun counts j => o + 8 + ((counts.take j).map fun c => 2 + 2 * c).sum
    let carried : List Nat → Prop := fun counts => ∀ j : Nat, j < counts.length →
      at_ counts j + 1 < p.length ∧ counts[j]? = some (rd8 p (at_ counts j + 1))
    let outside : Nat → Nat → Nat → Bool := fun low high x => x < low || high < x
    (p.length < o + 8 → refused .badLength)
      ∧ (o + 8 ≤ p.length → s.cs.saving ≠ none → refused .busy)
      ∧ (o + 8 ≤ p.length → s.cs.saving = none → (outside 1 8 (rd8 p 0) = true → refused (.badField 1))
        ∧ (outside 1 8 (rd8 p 0) = false → 3 < rd8 p 6 → refused (.badField 5))
        ∧ (outside 1 8 (rd8 p 0) = false → rd8 p 6 ≤ 3 → outside 1 16 items = true → refused (.badField 14))
        ∧ ∀ counts : List Nat, outside 1 8 (rd8 p 0) = false → rd8 p 6 ≤ 3 → outside 1 16 items = false → carried counts →
          (counts.length < items → p.length ≤ at_ counts counts.length + 1 → refused .badLength)
            ∧ (counts.length = items →
              let C := rd16 p 1
              let W := rd8 p 7
              let wrong : Nat → Prop := fun f => (f = 2 ∧ (outside 400 2400 C = true ∨ C % 10 ≠ 0)) ∨ (f = 3 ∧ C ≤ rd16 p 3)
                ∨ (f = 4 ∧ 15 < rd8 p 5) ∨ (f = 6 ∧ (100 < W ∨ W % 5 ≠ 0)) ∨ (f = 7 ∧ rd8 p 6 = 3 ∧ 15 < rd8 p 8)
                ∨ (f = 8 ∧ 30 < rd8 p o) ∨ (f = 9 ∧ outside 5 40 (rd8 p (o + 1)) = true)
                ∨ (f = 10 ∧ outside 5 120 (rd8 p (o + 2)) = true) ∨ (f = 11 ∧ 300 < rd16 p (o + 3))
                ∨ (f = 12 ∧ 200 < rd8 p (o + 5)) ∨ (f = 13 ∧ 8 < rd8 p (o + 6))
                ∨ ∃ k : Fin 16, k.val < items ∧ ((f = 20 + 8 * k.val ∧ 1 < rd8 p (at_ counts k.val))
                  ∨ ∃ i : Fin 6, i.val < counts.getD k.val 0 ∧ f = 22 + 8 * k.val + i.val
                    ∧ outside 50 2400 (rd16 p (at_ counts k.val + 2 + 2 * i.val)) = true)
              (∀ k : Nat, k < items → outside 2 6 (counts.getD k 0) = true →
                  (∀ j : Nat, j < k → outside 2 6 (counts.getD j 0) = false) → refused (.badField (21 + 8 * k)))
                ∧ ((∀ c ∈ counts, outside 2 6 c = false) → (p.length ≠ at_ counts items → refused .badLength)
                  ∧ (p.length = at_ counts items →
                    (∀ f : Nat, wrong f → (∀ g : Nat, g < f → ¬wrong g) → refused (.badField f))
                      ∧ ((∀ f : Nat, ¬wrong f) → s.ps.active = some (rd8 p 0) ∨ s.ps.staged = some (rd8 p 0) →
                        refused .planInUse)))))

/-- The verdict on a plan is the first failing check of Table 2-2, with the lowest station and its first short phase, or VALID
(R14, R15, Table 2-2). -/
def Obligations.TheVerdictFollowsTheChecks : Prop :=
  ∀ (s : State) (p : Plan),
    let fails : PlanReason → Option Nat → Option Nat → Prop := fun reason station phase =>
      s.judge p = .invalid { reason := reason, station := station, phase := phase }
    let local_ : SplitItem → Nat := fun i => if i.half then p.cycle / 2 else p.cycle
    let short : StationConfig → SplitItem → Nat → Bool := fun c i j => i.splits.getD j 0 < c.minimums.getD j 0
    let passes : StationIx → Prop := fun k => ∀ c ∈ (s.st k).config, ∀ i ∈ p.items[k.val]?,
      i.splits.length = c.minimums.length ∧ i.splits.sum = local_ i ∧ ∀ j : Nat, j < i.splits.length → short c i j = false
    (s.count = none → fails .geometry none none)
      ∧ ∀ N : Nat, s.count = some N → N ≤ 16 →
        ((∃ k : StationIx, k.val < N ∧ (s.st k).config = none) → fails .geometry none none)
          ∧ ((∀ k : StationIx, k.val < N → (s.st k).config ≠ none) →
            (N ≤ p.ref → fails .reference none none)
              ∧ (p.ref < N → ((∃ x ∈ p.tidal, N ≤ x) → fails .tidalStation none none)
                ∧ ((∀ x ∈ p.tidal, x < N) → (p.items.length ≠ N → fails .listLength none none)
                  ∧ (p.items.length = N →
                    (∀ (k : StationIx) (c : StationConfig) (i : SplitItem), k.val < N → (s.st k).config = some c →
                        p.items[k.val]? = some i → (∀ j : StationIx, j < k → passes j) →
                        (i.splits.length ≠ c.minimums.length → fails .phaseCount (some k.val) none)
                          ∧ (i.splits.length = c.minimums.length →
                            (i.splits.sum ≠ local_ i → fails .sum (some k.val) none)
                              ∧ ∀ a : Nat, i.splits.sum = local_ i → a < i.splits.length → short c i a = true →
                                (∀ j : Nat, j < a → short c i j = false) → fails .minimum (some k.val) (some (a + 1))))
                      ∧ ((∀ k : StationIx, k.val < N → passes k) → s.judge p = .valid)))))

/-- ADD_SCHEDULE and DELETE_SCHEDULE are checked in order; the one inserts in the order of the table, the other removes the
exact entry (R28, R29). The command as a whole frame, taken at once, is the model's form of the request: log entry 4. -/
def Obligations.ScheduleEntriesAreAddedAndDeleted : Prop :=
  ((∀ (s : State) (echo : Byte) (minute days g : Nat), s.takesAtOnce → minute < 65536 → days < 256 → g < 256 →
      let e : ScheduleEntry := { start := minute, days := BitVec.ofNat 7 days, plan := g }
      let run := exec (.addSchedule echo (be16 minute ++ be8 days ++ be8 g)) s
      let refused (r : Result) : Prop := run = .next (s.heard.answered 0x05 echo r)
      (s.busy = true → refused .busy)
        ∧ (s.busy = false → 1439 < minute → refused (.badField 1))
        ∧ (s.busy = false → minute ≤ 1439 → days = 0 ∨ 127 < days → refused (.badField 2))
        ∧ (s.busy = false → minute ≤ 1439 → 1 ≤ days → days ≤ 127 → 8 < g → refused (.badField 3))
        ∧ (s.busy = false → minute ≤ 1439 → 1 ≤ days → days ≤ 127 → g ≤ 8 →
          (∀ (l r : List ScheduleEntry) (x : ScheduleEntry), s.ps.schedule = l ++ x :: r →
              (∀ y ∈ l, ¬(y.start = minute ∧ y.days &&& e.days ≠ 0)) → x.start = minute → x.days &&& e.days ≠ 0 →
              refused (.conflict l.length))
            ∧ ((∀ y ∈ s.ps.schedule, ¬(y.start = minute ∧ y.days &&& e.days ≠ 0)) →
              (24 ≤ s.ps.schedule.length → refused .full)
                ∧ (s.ps.schedule.length < 24 → ∃ l r : List ScheduleEntry, s.ps.schedule = l ++ r
                  ∧ run = .next (({ s.heard with ps := { s.ps with schedule := l ++ e :: r } } : State).answered 0x05 echo
                      (.ok (be8 l.length ++ be8 (s.ps.schedule.length + 1))))
                  ∧ (s.ps.schedule.Pairwise (fun x y => x.before y = true) →
                    (l ++ e :: r).Pairwise (fun x y => x.before y = true))))))
    ∧ ∀ (s : State) (echo : Byte) (payload : List Byte), s.takesAtOnce → payloadFits payload = true → payload.length ≠ 4 →
      exec (.addSchedule echo payload) s = .next (s.heard.answered 0x05 echo .badLength))
    ∧ ∀ (s : State) (echo : Byte) (minute days : Nat), s.takesAtOnce → minute < 65536 → days < 256 →
    let mask := BitVec.ofNat 7 days
    let run := exec (.deleteSchedule echo (be16 minute ++ be8 days)) s
    let refused (r : Result) : Prop := run = .next (s.heard.answered 0x06 echo r)
    (s.busy = true → refused .busy)
      ∧ (s.busy = false → 1439 < minute → refused (.badField 1))
      ∧ (s.busy = false → minute ≤ 1439 → days = 0 ∨ 127 < days → refused (.badField 2))
      ∧ (s.busy = false → minute ≤ 1439 → 1 ≤ days → days ≤ 127 →
        (∀ (l r : List ScheduleEntry) (x : ScheduleEntry), s.ps.schedule = l ++ x :: r →
            (∀ y ∈ l, ¬(y.start = minute ∧ y.days = mask)) → x.start = minute → x.days = mask →
            run = .next (({ s.heard with ps := { s.ps with schedule := l ++ r } } : State).answered 0x06 echo
                (.ok (be8 (l ++ r).length)))
              ∧ (l ++ r = [] → ({ s with ps := { s.ps with schedule := l ++ r } } : State).schedulePlan = 0))
          ∧ ((∀ y ∈ s.ps.schedule, ¬(y.start = minute ∧ y.days = mask)) → refused .noEntry))

/-- SET_CLOCK sets the clock, reports it with the new time, and leaves the master cycle time of a running corridor (R34). In
part the model's choice: log entry 4. -/
def Obligations.SetClockKeepsTheWave : Prop :=
  ∀ (s : State) (echo day : Byte) (time : Nat), s.takesAtOnce → time < 4294967296 →
    (day.toNat < 1 ∨ 7 < day.toNat →
        exec (.setClock echo (day :: be32 time)) s = .next (s.heard.answered 0x07 echo (.badField 1)))
      ∧ (1 ≤ day.toNat → day.toNat ≤ 7 → 864000 ≤ time →
        exec (.setClock echo (day :: be32 time)) s = .next (s.heard.answered 0x07 echo (.badField 2)))
      ∧ (1 ≤ day.toNat → day.toNat ≤ 7 → time < 864000 →
        ∃ u : State, exec (.setClock echo (day :: be32 time)) s = .next (u.answered 0x07 echo (.ok []))
          ∧ u.tb.day = day.toNat ∧ u.tb.time = time ∧ u.tb.clockSet = true ∧ u.tb.tick = s.tb.tick
          ∧ (s.eq.records.length < 32 →
            ∃ more, u.eq.records = s.eq.records ++ { time := some time, body := .clockSet } :: more)
          ∧ (s.ps.corridor = .running → u.ps.corridor = .running → u.tb.m = s.tb.m)
          ∧ (s.ps.corridor = .stopping →
            u = ({ s.heard with tb := { s.tb with day := day.toNat, time := time, clockSet := true } } : State).emit .clockSet))

/-- START of an IDLE corridor that may run enters RUNNING under the governing plan, station by station (R37, R39, R40, R44, R47,
R52). In part the model's choice: log entries 4, 14. -/
def Obligations.StartEntersRunning : Prop :=
  (∀ (s : State) (echo ignored : Byte) (g : Nat) (x : PlanSlot), s.takesAtOnce → s.ps.corridor = .idle → s.tb.clockSet = true →
      s.geometryValid = true → s.governing = g → g ≠ 0 → s.slot g = some x → x.verdict = .valid →
      ∃ u : State, exec (.start echo [ignored]) s = .next (u.answered 0x08 echo (.ok [1]))
        ∧ u.ps = { s.ps with
            enable := true, corridor := .running, active := some g, staged := none, rejection := none }
        ∧ u.tb = { s.tb with m := s.tb.time % x.plan.cycle }
        ∧ u.mu = { weight := x.plan.weight, accIn := 0, accOut := 0, primed := false, ring := [] }
        ∧ (∀ k : StationIx, u.st k = if (s.st k).link = .online ∧ (s.st k).coord = .free then
            { s.st k with
              jump := true, synced := false, lastError := none, correction := none
              coord := if (s.st k).hold = true then .held else .seeking }
          else { s.st k with jump := true })
        ∧ s.heard.wrote u
            ([.corridorState .running .start, .planTaken g 0]
              ++ (allStations.filter fun k => (s.st k).link = .online && (s.st k).coord = .free).map
                fun k => .stationState k (if (s.st k).hold then .held else .seeking) .run)
        ∧ u = { s with
            ps := u.ps, tb := u.tb, mu := u.mu, stations := u.stations, eq := u.eq, hli := u.hli })
    ∧ ∀ (s : State) (echo ignored : Byte), s.takesAtOnce → s.ps.corridor = .idle → s.tb.clockSet = false →
      s.ps.override = none → exec (.start echo [ignored]) s = .next
        (({ s.heard with ps := { s.ps with enable := true, rejection := none } } : State).answered 0x08 echo (.ok [0, 1]))

/-- STOP of a running corridor reports STOPPING, places a RELEASE for every station that is not FREE, ends the waiting requests,
and with all FREE is IDLE (R24, R37, R42, R43, R44, R60, R109, R131). In part the model's choice: log entries 4, 14, 20, 47. -/
def Obligations.StopReleasesTheStations : Prop :=
  (∀ (s : State) (echo ignored : Byte), s.takesAtOnce → s.ps.corridor = .running → (∃ k : StationIx, (s.st k).coord ≠ .free) →
      ∃ u : State, exec (.stop echo [ignored]) s = .next (u.answered 0x09 echo (.ok [2]))
        ∧ (s.eq.records.length + 2 ≤ 32 → ∃ before more, (s.governing = 0 ∨ s.planValid s.governing = true → before = [])
          ∧ u.eq.records = s.eq.records ++ before ++ s.record (.corridorState .stopping .stop) :: more)
        ∧ u.ps.corridor = .stopping ∧ u.ps.enable = false ∧ u.ps.active = s.ps.active ∧ u.ps.staged = none
        ∧ u = { s with ps := u.ps, stations := u.stations, clc := u.clc, table := u.table, eq := u.eq, hli := u.hli }
        ∧ (∀ k : StationIx, (s.st k).coord ≠ .free → (u.st k).coord = (s.st k).coord ∧ (u.st k).order = some {
            number := match (s.st k).model with
              | some m => m.number + 1
              | none => 0
            body := none, deadline := tickAdd s.now 50, placed := s.now })
        ∧ (∀ k : StationIx, (s.st k).coord = .free → (u.st k).coord = .free)
        ∧ ∀ e ∈ u.table, ¬(e.cls = .transit ∧ e.state = .pending) ∧ ¬(e.origin = .route ∧ e.state ≠ .active))
    ∧ ∀ (s : State) (echo ignored : Byte), s.takesAtOnce → s.ps.corridor = .running → (∀ k : StationIx, (s.st k).coord = .free) →
      (∀ k : StationIx, (s.st k).order = none) →
      ∃ u : State, exec (.stop echo [ignored]) s = .next (u.answered 0x09 echo (.ok [0, 0]))
        ∧ (s.eq.records.length + s.table.length + 3 ≤ 32 → ∃ before ends more,
          (s.governing = 0 ∨ s.planValid s.governing = true → before = [])
            ∧ u.eq.records = s.eq.records ++ before ++ s.record (.corridorState .stopping .stop) :: ends
              ++ s.record (.corridorState .idle .stopped) :: more)
        ∧ u.ps.corridor = .idle ∧ u.ps.enable = false ∧ u.ps.active = none ∧ u.ps.staged = none ∧ u.tb.m = 0
        ∧ ∀ k : StationIx, (u.st k).target = none ∧ (u.st k).jump = true ∧ (u.st k).minsPending = false

/-- SELECT_PLAN refuses an empty or invalid plan, else sets the override and evaluates it; RELEASE_PLAN clears it and evaluates
the schedule plan (R22, R23, R25, R26, R40, R41, R42, R43). In part the model's choice: log entries 4, 20, 47. -/
def Obligations.OverridesAreSelectedAndReleased : Prop :=
  (∀ (s : State) (echo g : Byte), s.takesAtOnce →
    (8 < g.toNat → exec (.selectPlan echo [g]) s = .next (s.heard.answered 0x0A echo (.badField 1)))
      ∧ (1 ≤ g.toNat → g.toNat ≤ 8 → s.slot g.toNat = none →
        exec (.selectPlan echo [g]) s = .next (s.heard.answered 0x0A echo (.conflict 0)))
      ∧ (∀ (x : PlanSlot) (item : FailItem), 1 ≤ g.toNat → g.toNat ≤ 8 → s.slot g.toNat = some x → x.verdict = .invalid item →
        exec (.selectPlan echo [g]) s = .next (s.heard.answered 0x0A echo (.conflict item.reason.code)))
      ∧ (g.toNat = 0 ∨ g.toNat ≤ 8 ∧ s.planValid g.toNat = true →
        let v : State := { s.heard with ps := { s.ps with override := some g.toNat } }
        let u := v.evaluate .selectPlan
        let may := s.ps.enable = true ∧ s.tb.clockSet = true ∧ s.geometryValid = true
        exec (.selectPlan echo [g]) s = .next (u.answered 0x0A echo (.ok []))
          ∧ u.ps.override = some g.toNat ∧ u.ps.enable = s.ps.enable ∧ u.source = 1 ∧ u.governing = g.toNat
          ∧ (s.ps.corridor = .idle → g.toNat = 0 ∨ ¬may → u = { v with ps := { v.ps with rejection := none } })
          ∧ (∀ x : PlanSlot, s.ps.corridor = .idle → g.toNat ≠ 0 → may → s.slot g.toNat = some x →
            u.ps = { v.ps with corridor := .running, active := some g.toNat, staged := none, rejection := none }
              ∧ u.tb = { s.tb with m := s.tb.time % x.plan.cycle }
              ∧ u.mu = { weight := x.plan.weight, accIn := 0, accOut := 0, primed := false, ring := [] }
              ∧ (∀ k : StationIx,
                let joins : Bool := (s.st k).link = .online && (s.st k).coord = .free
                u.st k = if joins = true then
                    { s.st k with
                      coord := if (s.st k).hold = true then .held else .seeking
                      synced := false, lastError := none, correction := none, jump := true }
                  else { s.st k with jump := true })
              ∧ v.wrote u ([.corridorState .running .selectPlan, .planTaken g.toNat 0]
                ++ (allStations.filter fun k => (s.st k).coord = .free && (s.st k).link = .online).map
                  fun k => .stationState k (if (s.st k).hold then .held else .seeking) .run)
              ∧ u = { v with ps := u.ps, tb := u.tb, mu := u.mu, stations := u.stations, eq := u.eq, hli := u.hli })
          ∧ (s.ps.corridor = .running → may → g.toNat ≠ 0 → s.ps.active = some g.toNat →
            u = { v with ps := { v.ps with staged := none, rejection := none } })
          ∧ (s.ps.corridor = .running → g.toNat = 0 → (∃ k : StationIx, (s.st k).coord ≠ .free) →
            (s.eq.records.length < 32 →
              ∃ more, u.eq.records = s.eq.records ++ s.record (.corridorState .stopping .selectPlan) :: more)
              ∧ u.ps = { v.ps with corridor := .stopping, staged := none, rejection := none }
              ∧ u = { v with stations := u.stations, ps := u.ps, clc := u.clc, table := u.table, eq := u.eq, hli := u.hli }
              ∧ (∀ k : StationIx, (u.st k).coord = (s.st k).coord ∧ ((s.st k).coord ≠ .free → (u.st k).order = some {
                  number := match (s.st k).model with
                    | some m => m.number + 1
                    | none => 0
                  body := none, deadline := tickAdd s.now 50, placed := s.now }))
              ∧ ∀ e ∈ u.table, ¬(e.cls = .transit ∧ e.state = .pending) ∧ ¬(e.origin = .route ∧ e.state ≠ .active))
          ∧ (s.ps.corridor = .running → g.toNat = 0 → (∀ k : StationIx, (s.st k).coord = .free ∧ (s.st k).order = none) →
            (s.eq.records.length + s.table.length + 2 ≤ 32 → ∃ ends, u.eq.records = s.eq.records
              ++ s.record (.corridorState .stopping .selectPlan) :: ends ++ [s.record (.corridorState .idle .stopped)])
              ∧ u.ps = { v.ps with corridor := .idle, active := none, staged := none, rejection := none } ∧ u.tb.m = 0
              ∧ ∀ k : StationIx, (u.st k).coord = .free ∧ (u.st k).target = none ∧ (u.st k).jump = true
                ∧ (u.st k).minsPending = false))
      ∧ (1 ≤ g.toNat → g.toNat ≤ 8 → s.planValid g.toNat = true → s.ps.corridor = .running → s.ps.enable = true →
        s.tb.clockSet = true → s.geometryValid = true → s.ps.active ≠ some g.toNat →
        exec (.selectPlan echo [g]) s = .next (({ s.heard with ps := { s.ps with
            override := some g.toNat, staged := some g.toNat, rejection := none } } : State).answered 0x0A echo (.ok [])))
      ∧ (g.toNat = 0 ∨ g.toNat ≤ 8 ∧ s.planValid g.toNat = true → s.ps.corridor = .stopping →
        exec (.selectPlan echo [g]) s = .next
          (({ s.heard with ps := { s.ps with override := some g.toNat } } : State).answered 0x0A echo (.ok []))))
    ∧ ∀ (s : State) (echo ignored : Byte), s.takesAtOnce →
    let u : State := { s.heard with ps := { s.ps with override := none } }
    (s.ps.override = none → exec (.releasePlan echo [ignored]) s = .next (s.heard.answered 0x0B echo .noEntry))
      ∧ (s.ps.override ≠ none →
        exec (.releasePlan echo [ignored]) s = .next ((u.evaluate .releasePlan).answered 0x0B echo (.ok []))
          ∧ (u.evaluate .releasePlan).ps.override = none ∧ (u.evaluate .releasePlan).source = 0
          ∧ u.governing = s.schedulePlan
          ∧ (s.ps.corridor = .stopping → u.evaluate .releasePlan = u)
          ∧ (s.ps.corridor = .idle → s.ps.enable = true → s.tb.clockSet = true → s.geometryValid = true →
            s.planValid s.schedulePlan = true → s.schedulePlan ≠ 0 →
            (u.evaluate .releasePlan).ps.corridor = .running ∧ (u.evaluate .releasePlan).ps.active = some s.schedulePlan)
          ∧ (s.ps.corridor = .running → s.schedulePlan = 0 → (u.evaluate .releasePlan).ps.corridor ≠ .running)
          ∧ (s.ps.corridor = .running → s.ps.enable = true → s.tb.clockSet = true → s.geometryValid = true →
            s.schedulePlan ≠ 0 →
            (s.ps.active = some s.schedulePlan → u.evaluate .releasePlan
                = { u with ps := { u.ps with staged := none, rejection := none } })
              ∧ (s.ps.active ≠ some s.schedulePlan → s.planValid s.schedulePlan = true → u.evaluate .releasePlan
                = { u with ps := { u.ps with staged := some s.schedulePlan, rejection := none } })))

/-- HOLD_STATION sets or clears the host hold, and a changed effective hold moves a coordinated station (R49, R53, R54). In part
the model's choice: log entry 4. -/
def Obligations.HoldStationSetsTheHostHold : Prop :=
  ∀ (s : State) (echo i v : Byte), s.takesAtOnce →
    (s.count.any (i.toNat < ·) = false → exec (.holdStation echo [i, v]) s = .next (s.heard.answered 0x0C echo (.badField 1)))
      ∧ ∀ k : StationIx, i.toNat = k.val → s.count.any (i.toNat < ·) = true →
        (1 < v.toNat → exec (.holdStation echo [i, v]) s = .next (s.heard.answered 0x0C echo (.badField 2)))
          ∧ (v.toNat ≤ 1 → ∃ u : State, exec (.holdStation echo [i, v]) s
              = .next (u.answered 0x0C echo (.ok ((u.sources k).flatMap flagByte ++ flagByte (u.st k).hold)))
            ∧ (u.st k).hostHold = decide (v.toNat = 1) ∧ (u.st k).hold = u.anySource k
            ∧ (u.st k).manualFlag = (s.st k).manualFlag ∧ (u.st k).preemptFlag = (s.st k).preemptFlag
            ∧ (u.st k).routeActive = (s.st k).routeActive ∧ (u.st k).config = (s.st k).config ∧ u.hl = s.hl
            ∧ (s.ps.corridor = .running → (s.st k).link = .online → (s.st k).coordinated = true → (s.st k).hold = false →
              (u.st k).hold = true → (u.st k).coord = .held ∧ (u.st k).synced = false
                ∧ ∀ o ∈ (u.st k).order, o.body = none)
            ∧ (s.ps.corridor = .running → (s.st k).link = .online → (s.st k).coord = .held → (s.st k).hold = true →
              (u.st k).hold = false → (u.st k).coord = .seeking ∧ (u.st k).synced = false ∧ (u.st k).jump = true)
            ∧ u = { s with stations := u.stations, clc := u.clc, table := u.table, eq := u.eq, hli := u.hli })

/-- SET_PRIORITY_MASK sets masks and masked flags, SET_INCIDENT polarity and gates with every hold recomputed, after their
checks in order (R117, R53, R56, R57). In part the model's choice: log entries 4, 43. -/
def Obligations.MasksPolarityAndGatesAreSet : Prop :=
  (∀ (s : State) (echo i a b : Byte), s.takesAtOnce →
    let run := exec (.setPriorityMask echo [i, a, b]) s
    let refused (r : Result) : Prop := run = .next (s.heard.answered 0x0D echo r)
    (s.busy = true → refused .busy)
      ∧ (s.busy = false → s.count = none → refused .badState)
      ∧ ∀ N : Nat, s.busy = false → s.count = some N →
        (N ≤ i.toNat → refused (.badField 1))
          ∧ ∀ k : StationIx, i.toNat = k.val → i.toNat < N →
            (1 < a.toNat → refused (.badField 2)) ∧ (a.toNat ≤ 1 → 1 < b.toNat → refused (.badField 3))
              ∧ (a.toNat ≤ 1 → b.toNat ≤ 1 → run = .next (({
                  s.heard.modSt k (fun t => { t with maskIn := decide (a.toNat = 1), maskOut := decide (b.toNat = 1) }) with
                  table := s.table.map fun e =>
                    if e.station = k ∧ e.cls = .transit then
                      { e with masked := decide ((if e.dir = .inward then a.toNat else b.toNat) = 0) }
                    else e } : State).answered 0x0D echo (.ok []))))
    ∧ ∀ (s : State) (echo polarity : Byte) (gates : Nat), s.takesAtOnce → gates < 65536 →
    let run := exec (.setIncident echo (polarity :: be16 gates)) s
    let refused (r : Result) : Prop := run = .next (s.heard.answered 0x0E echo r)
    (s.busy = true → refused .busy)
      ∧ (s.busy = false → 1 < polarity.toNat → refused (.badField 1))
      ∧ (s.busy = false → polarity.toNat ≤ 1 → s.count = none → refused .badState)
      ∧ ∀ N : Nat, s.busy = false → polarity.toNat ≤ 1 → s.count = some N →
        ((∃ k : StationIx, gates.testBit k.val = true ∧ (N ≤ k.val ∨ (s.st k).config = none)) → refused (.badField 2))
          ∧ ((∀ k : StationIx, gates.testBit k.val = true → k.val < N ∧ (s.st k).config ≠ none) →
            ∃ u : State, run = .next (u.answered 0x0E echo (.ok (flagByte u.incidentActive)))
              ∧ u.hl = { s.hl with polarity := if polarity.toNat = 0 then .activeHigh else .activeLow }
              ∧ (∀ k : StationIx, (u.st k).config
                  = (s.st k).config.map (fun c => { c with incidentGate := gates.testBit k.val })
                ∧ (u.st k).hold = u.anySource k)
              ∧ u = { s with hl := u.hl, stations := u.stations, clc := u.clc, table := u.table, eq := u.eq, hli := u.hli })

/-- SET_AUTOSTART, SAVE and RESET each do their one thing; during a save every configuration-changing request and both are BUSY
(R5, R7, R17, R28, R29, R38, R57, R117, R154, R158, R159). In part the model's choice: log entries 4, 36. -/
def Obligations.AutostartSaveAndResetAnswerOrAreBusy : Prop :=
  ((∀ (s : State) (echo v : Byte), s.takesAtOnce → s.busy = false →
      (1 < v.toNat → exec (.setAutostart echo [v]) s = .next (s.heard.answered 0x0F echo (.badField 1)))
        ∧ (v.toNat ≤ 1 → exec (.setAutostart echo [v]) s = .next
          (({ s.heard with ps := { s.ps with autostart := decide (v.toNat = 1) } } : State).answered 0x0F echo (.ok []))))
    ∧ (∀ (s : State) (echo ignored : Byte), s.takesAtOnce → s.busy = false →
      exec (.save echo [ignored]) s = .next
        (({ s.heard with cs := { s.cs with saving := some s.now } } : State).answered 0x17 echo (.ok [])))
    ∧ ∀ (s : State) (echo ignored : Byte), s.takesAtOnce → s.busy = false →
      exec (.reset echo [ignored]) s = .next
        (({ s.heard with hli := { s.hli with rx := .ignoring } } : State).answered 0x18 echo (.ok [])))
    ∧ ∀ (i : Instr) (f : HostFrame) (s : State), s.takesAtOnce → s.busy = true → i.frame = some f → i.wellFormed = true →
    f.kind.toNat ∈ [0x01, 0x02, 0x03, 0x05, 0x06, 0x0D, 0x0E, 0x0F, 0x17, 0x18] →
    (∀ n, fixedLength f.kind.toNat = some n → f.payload.length = n) →
    (f.kind = 0x02 → 3 ≤ f.payload.length) → (f.kind = 0x03 → 17 ≤ f.payload.length) →
    exec i s = .next (s.heard.answered f.kind f.echo .busy)

/-- ROUTE_CLEAR is checked field by field, and makes one SCHEDULED entry for each station of the route, in the order the vehicle
meets them (R114, R126, R129). In part the model's choice: log entry 4. -/
def Obligations.RouteClearMakesAnEntryPerStation : Prop :=
  (∀ (s : State) (echo : Byte) (r : RouteFields) (N : Nat), s.takesAtOnce → s.TableLaw → s.ps.corridor = .running →
      s.count = some N → N ≤ 16 → r.first < N → r.last < N →
      (match r.dir with
        | .inward => r.first ≤ r.last
        | .outward => r.last ≤ r.first) →
      15 ≤ r.speed → r.speed ≤ 90 → r.delay ≤ 6000 → 4 ≤ r.level → r.level ≤ 7 → s.table.length + r.stations.length ≤ 24 →
      let time (k : StationIx) : Nat :=
        ((List.range' (min r.first k.val) (max r.first k.val - min r.first k.val)).map fun j =>
          ((s.linkAt j).map fun l => (72 * l.distance + r.speed) / (2 * r.speed)).getD 0).sum
      let entry (k : StationIx) (i : SlotIx) : Entry := {
        slot := i, cls := .emergency, level := r.level, origin := .route, station := k, dir := r.dir, tag := r.tag
        arrival := s.now, eta := tickAdd s.now (r.delay + time k : Nat)
        due := some (tickAdd (tickAdd s.now (r.delay + time k : Nat)) (-100)), masked := false, grant := none
        outstanding := false, seen := false, posted := false, delivered := none, state := .scheduled }
      ∃ slots : List SlotIx, slots.length = r.stations.length ∧ slots.Nodup ∧ (∀ i ∈ slots, ∀ e ∈ s.table, e.slot ≠ i)
        ∧ (∀ (j : Nat) (i h : SlotIx), slots[j]? = some i → h < i → h ∈ slots.take j ∨ ∃ e ∈ s.table, e.slot = h)
        ∧ exec (.routeClear echo (be8 r.dir.code ++ be8 r.first ++ be8 r.last ++ be8 r.speed ++ be16 r.delay ++ be8 r.level
            ++ be16 r.tag.toNat)) s
          = .next (({ s.heard with table := s.table ++ List.zipWith entry r.stations slots } : State).answered 0x10 echo
            (.ok (be8 slots.length ++ slots.flatMap fun i => be8 i.val))))
    ∧ ∀ (s : State) (echo : Byte) (p : List Byte), s.takesAtOnce → p.length = 9 →
      let refused : Result → Prop := fun r => exec (.routeClear echo p) s = .next (s.heard.answered 0x10 echo r)
      let outside : Nat → Nat → Nat → Bool := fun low high x => x < low || high < x
      (s.ps.corridor ≠ .running → refused .badState)
        ∧ ∀ N : Nat, s.ps.corridor = .running → s.count = some N → N ≤ 16 →
          let wrong : Nat → Prop := fun f => (f = 1 ∧ 1 < rd8 p 0) ∨ (f = 2 ∧ N ≤ rd8 p 1)
            ∨ (f = 3 ∧ (N ≤ rd8 p 2 ∨ rd8 p 0 = 0 ∧ rd8 p 2 < rd8 p 1 ∨ rd8 p 0 = 1 ∧ rd8 p 1 < rd8 p 2))
            ∨ (f = 4 ∧ outside 15 90 (rd8 p 3) = true) ∨ (f = 5 ∧ 6000 < rd16 p 4) ∨ (f = 6 ∧ outside 4 7 (rd8 p 6) = true)
          ∀ f : Nat, wrong f → (∀ g : Nat, g < f → ¬wrong g) → refused (.badField f)

/-- CANCEL_REQUEST ends every entry that carries the tag, with the REQUEST_END records in table order, or answers NO_ENTRY
(R115, R130). In part the model's choice: log entries 4, 20. -/
def Obligations.CancelRequestEndsEveryTaggedEntry : Prop :=
  ∀ (s : State) (echo : Byte) (tag : Word16), s.takesAtOnce → s.TableLaw →
    ((∀ e ∈ s.table, e.tag ≠ tag) →
        exec (.cancelRequest echo (be16 tag.toNat)) s = .next (s.heard.answered 0x11 echo .noEntry))
      ∧ ((∃ e ∈ s.table, e.tag = tag) →
        ∃ u : State, exec (.cancelRequest echo (be16 tag.toNat)) s
            = .next (u.answered 0x11 echo (.ok (be8 (s.table.filter (·.tag = tag)).length)))
          ∧ s.without u (·.tag = tag)
          ∧ (s.eq.records.length + (s.table.filter (·.tag = tag)).length ≤ 32 → ∃ more, u.eq.records = s.eq.records
            ++ (s.table.filter (·.tag = tag)).map (fun e => s.record (.requestEnd e.station .cancelled e.grant tag)) ++ more)
          ∧ (∀ e ∈ s.table, e.tag = tag → e.posted = true → ∀ f ∈ u.clc.urgent, f.isPreempt e.slot = false)
          ∧ (∀ k : StationIx, (u.st k).preemptFlag = (s.st k).preemptFlag)
          ∧ u = { s with stations := u.stations, clc := u.clc, table := u.table, eq := u.eq, hli := u.hli })

/-- The four queries answer from the present state, in every corridor state, and change nothing else (R11, R19, R45, R59, R80,
R99, R100, R132, R144, R151, Table 8-1, Table 10-4). In part the model's choice: log entries 4, 12, 13, 14, 15, 16, 17, 44. -/
def Obligations.QueriesChangeNothing : Prop :=
  (∀ (s : State) (echo ignored : Byte), s.takesAtOnce →
      let governing := s.ps.override.getD s.schedulePlan
      let planTerm : Bool := match s.ps.corridor with
        | .idle => governing ≠ 0 && s.planValid governing
        | .running => governing ≠ 0
        | .stopping => true
      let operating := be8 s.ps.corridor.code ++ flagByte s.ps.enable ++ flagByte s.ps.autostart ++ flagByte s.ps.override.isSome
        ++ optBytes be8 s.ps.active ++ optBytes be8 s.ps.staged ++ optBytes be8 s.ps.override ++ be8 s.schedulePlan ++ be8 governing
        ++ optBytes be8 s.ps.rejection
        ++ (if s.ps.corridor = .stopping then be8 (allStations.filter s.releaseOut).length else [])
      let time := be32 s.tb.tick.toNat ++ flagByte s.tb.clockSet ++ (if s.tb.clockSet then be8 s.tb.day ++ be32 s.tb.time else [])
        ++ (if s.ps.corridor = .idle then [] else (s.activePlan.map fun p => be16 s.tb.m ++ be16 p.cycle).getD [])
      let loaded := allStations.filter fun k => (s.st k).config.isSome
      let geometry := optBytes be8 s.count ++ be16 (loaded.map fun k => 2 ^ k.val).sum ++ flagByte s.geometryValid
      exec (.queryCorridor echo [ignored]) s = .next (s.heard.answered 0x12 echo (.ok
        (operating ++ flagByte s.ps.enable ++ flagByte s.tb.clockSet ++ flagByte s.geometryValid ++ flagByte planTerm
          ++ time ++ geometry ++ be8 s.mu.weight
          ++ listBytes (fun k => be8 (s.st k).coord.code) (allStations.filter fun k => s.count.any (k.val < ·))))))
    ∧ (∀ (s : State) (echo i part : Byte), s.takesAtOnce →
      (s.count.any (i.toNat < ·) = false →
          exec (.queryStation echo [i, part]) s = .next (s.heard.answered 0x13 echo (.badField 1)))
        ∧ ∀ k : StationIx, i.toNat = k.val → s.count.any (i.toNat < ·) = true →
          (part.toNat < 1 ∨ 3 < part.toNat →
              exec (.queryStation echo [i, part]) s = .next (s.heard.answered 0x13 echo (.badField 2)))
            ∧ (1 ≤ part.toNat → part.toNat ≤ 3 →
              let t := s.st k
              let order := t.order
              let urgent : (UrgentFrame → Bool) → List Byte := fun f => flagByte (s.clc.urgent.any fun x => x.station = k && f x)
              let errors := optBytes be16 t.lastError ++ optBytes (fun x => be8 x.code) t.correction
              let geometry := optBytes (fun c => be8 c.drop ++ be8 c.minimums.length ++ listBytes be16 c.minimums
                ++ be8 c.headwayIn ++ be8 c.headwayOut ++ flagByte c.honourManual ++ flagByte c.incidentGate
                ++ optBytes (fun l => be16 l.distance) c.link ++ optBytes (fun l => be8 l.vIn) c.link
                ++ optBytes (fun l => be8 l.vOut) c.link ++ listBytes be16 c.minimums ++ flagByte t.minsPending
                ++ (if t.minsPending then listBytes be16 t.minsInForce else [])
                ++ (c.link.map fun l => be16 l.tIn ++ be16 l.tOut).getD []) t.config
              let hold := be8 t.link.code ++ be8 t.misses ++ be8 t.coord.code ++ flagByte t.synced
                ++ optBytes (fun m => be8 m.number.toNat ++ sbe32 (tickDiff s.now m.zeroTick)
                  ++ optBytes (fun c => be16 c.length) m.basis.course) t.model
                ++ errors ++ flagByte t.hold
                ++ flagByte t.hostHold ++ flagByte (t.manualFlag && t.config.any (·.honourManual))
                ++ flagByte (s.incidentActive && t.config.any (·.incidentGate)) ++ flagByte t.preemptFlag
                ++ flagByte t.routeActive ++ flagByte t.hostHold ++ flagByte t.manualFlag ++ flagByte t.preemptFlag
                ++ flagByte (t.config.any (·.honourManual)) ++ flagByte (t.config.any (·.incidentGate))
                ++ flagByte s.incidentActive
              let link := be8 t.link.code ++ be8 t.misses ++ be8 (failureCode t.lastFailure) ++ flagByte t.ackMark
                ++ urgent (fun _ => true) ++ urgent (·.kind = .revise) ++ urgent (·.kind ≠ .revise) ++ flagByte order.isSome
              let model := be8 t.coord.code ++ flagByte t.synced
                ++ optBytes (fun m => be8 m.number.toNat ++ sbe32 (tickDiff s.now m.zeroTick) ++ be32 m.zeroTick.toNat
                  ++ be8 m.basis.code ++ courseBytes m.basis.course ++ be8 m.lastZero.toNat
                  ++ optBytes (fun x => be8 x.toNat) m.mark
                  ++ optBytes (fun x => be8 x.number.toNat ++ x.course.bytes) m.next) t.model ++ errors
              let orders := optBytes (fun o => be8 o.number.toNat ++ flagByte o.body.isNone
                  ++ courseBytes (o.body.map (·.course)) ++ be32 o.deadline.toNat ++ optBytes (fun b => be8 b.plan) o.body
                  ++ optBytes (fun b => be16 b.target) o.body
                  ++ optBytes (fun f => be8 f.slot.val ++ be8 f.kind.code ++ be16 f.amount) (o.body.bind (·.fold))) order
                ++ optBytes (fun r => be8 r.number.toNat ++ be8 r.kind.code ++ be8 r.slot.val ++ r.course.bytes
                  ++ be32 r.latest.toNat) t.revise
              let tidal := optBytes (fun mu => flagByte mu.primed ++ be16 mu.accIn ++ be16 mu.accOut
                  ++ listBytes (fun x => be16 x.1 ++ be16 x.2) mu.ring)
                (if s.activePlan.any (fun p => p.mode = .tidal && p.tidal = some k.val) then some s.mu else none)
              let measure := be8 t.queueIn ++ be8 t.queueOut ++ optBytes (fun x => be8 x.toNat) t.sampleNo ++ be8 t.age
                ++ be8 t.countedIn ++ be8 t.countedOut ++ tidal
              let priority := be8 t.lockout ++ flagByte t.maskIn ++ flagByte t.maskOut
                ++ be8 (s.table.filter (·.station = k)).length ++ optBytes (fun e => be8 e.slot.val) (s.activeAt k)
              let content := if part.toNat = 1 then geometry ++ hold ++ link
                else if part.toNat = 2 then
                  model ++ optBytes be16 t.raw ++ optBytes be16 t.target ++ flagByte t.jump ++ orders
                else measure ++ priority
              exec (.queryStation echo [i, part]) s = .next (s.heard.answered 0x13 echo (.ok ([i, part] ++ content)))))
    ∧ (∀ (s : State) (echo sel start : Byte), s.takesAtOnce →
      (sel.toNat ≠ 0xFF → s.count.any (sel.toNat < ·) = false →
          exec (.queryRequests echo [sel, start]) s = .next (s.heard.answered 0x14 echo (.badField 1)))
        ∧ (sel.toNat = 0xFF ∨ s.count.any (sel.toNat < ·) = true →
          (24 ≤ start.toNat → exec (.queryRequests echo [sel, start]) s = .next (s.heard.answered 0x14 echo (.badField 2)))
            ∧ (start.toNat < 24 →
              let flag : Bool → Bool → List Byte := fun present v => optBytes flagByte (if present then some v else none)
              let item : Entry → List Byte := fun e =>
                be8 e.slot.val ++ be8 e.cls.code ++ be8 e.level ++ be8 e.origin.code ++ be8 e.station.val ++ be8 e.dir.code
                  ++ be16 e.tag.toNat ++ be32 e.arrival.toNat ++ be32 e.eta.toNat ++ optBytes (fun t => be32 t.toNat) e.due
                  ++ flag (e.cls = .transit) e.masked ++ optBytes (fun g => be8 g.code) e.grant
                  ++ flag (e.cls = .transit) e.outstanding ++ flag (e.cls = .emergency) e.seen
                  ++ flag (e.origin = .route) e.posted ++ be8 e.state.code
              let l := if sel.toNat = 0xFF then s.table else s.table.filter (·.station.val = sel.toNat)
              exec (.queryRequests echo [sel, start]) s = .next (s.heard.answered 0x14 echo
                (.ok (be8 l.length ++ [start] ++ listBytes item ((l.drop start.toNat).take 7)))))))
    ∧ ∀ (s : State) (echo g : Byte), s.takesAtOnce →
      (g.toNat < 1 ∨ 8 < g.toNat → exec (.queryPlan echo [g]) s = .next (s.heard.answered 0x04 echo (.badField 1)))
        ∧ (1 ≤ g.toNat → g.toNat ≤ 8 → s.slot g.toNat = none →
          exec (.queryPlan echo [g]) s = .next (s.heard.answered 0x04 echo .noEntry))
        ∧ ∀ x : PlanSlot, 1 ≤ g.toNat → g.toNat ≤ 8 → s.slot g.toNat = some x →
          exec (.queryPlan echo [g]) s = .next (s.heard.answered 0x04 echo (.ok
            ([g] ++ x.plan.bytes ++ x.verdict.bytes ++ flagByte (s.ps.active = some g.toNat)
              ++ flagByte (s.ps.staged = some g.toNat) ++ flagByte (s.ps.override = some g.toNat))))

/-- READ_EVENTS removes the oldest eight records; SET_NOTICE arms, places a notice at once when records wait, or disarms (R157,
R152, R153). In part the model's choice: log entries 4, 26. -/
def Obligations.EventsAreReadAndNoticesSet : Prop :=
  (∀ (s : State) (echo ignored : Byte), s.takesAtOnce →
    (exec (.readEvents echo [ignored]) s = .next (({ s.heard with
        eq := { records := s.eq.records.drop 8, overflow := false }
        hli := { s.heard.hli with
          armed := if s.eq.records.length ≤ 8 ∧ s.hli.notice = true then true else s.hli.armed } } : State).answered 0x15 echo
      (.ok (be8 (min 8 s.eq.records.length) ++ (s.eq.records.take 8).flatMap (·.bytes)
        ++ be8 (s.eq.records.length - 8) ++ flagByte s.eq.overflow))))
      ∧ (s.eq.records = [] → exec (.readEvents echo [ignored]) s = .next (({ s.heard with
          eq := { records := [], overflow := false }
          hli := { s.heard.hli with armed := s.hli.armed || s.hli.notice } } : State).answered 0x15 echo
        (.ok ([0, 0] ++ flagByte s.eq.overflow)))))
    ∧ ∀ (s : State) (echo v : Byte), s.takesAtOnce →
    (1 < v.toNat → exec (.setNotice echo [v]) s = .next (s.heard.answered 0x16 echo (.badField 1)))
      ∧ (v.toNat = 0 → exec (.setNotice echo [v]) s = .next
        (({ s.heard with hli := { s.heard.hli with notice := false, armed := false } } : State).answered 0x16 echo (.ok [0])))
      ∧ (v.toNat = 1 → s.eq.records = [] → exec (.setNotice echo [v]) s = .next
        (({ s.heard with hli := { s.heard.hli with notice := true, armed := true } } : State).answered 0x16 echo (.ok [1])))
      ∧ (v.toNat = 1 → s.eq.records ≠ [] → exec (.setNotice echo [v]) s = .next
        (({ s.heard with hli := { s.heard.hli with
            notice := true, armed := false
            transmit := s.hli.transmit ++ [.notice (if s.hli.transmit = [] then some s.eq.records.length else none)] } }
          : State).answered 0x16 echo (.ok [1])))

/-- The chains follow the links from B, the raw target is the weighted ideal offset in the local cycle, and T moves to it by the
step limit (R63, R64, R67, R68, R69, R70, R71). -/
def Obligations.ChainsFollowTheLinks : Prop :=
  (∀ (s : State) (p : Plan), p.base < p.cycle →
      s.inboundChain p p.ref = p.base ∧ s.outboundChain p p.ref = p.base
        ∧ (∀ k : Nat, p.ref ≤ k → s.inboundChain p (k + 1) = (s.inboundChain p k + s.tIn k) % p.cycle
          ∧ (s.outboundChain p (k + 1) : Int) = ((s.outboundChain p k : Int) - s.tOut k) % p.cycle)
        ∧ ∀ k : Nat, k < p.ref → (s.inboundChain p k : Int) = ((s.inboundChain p (k + 1) : Int) - s.tIn k) % p.cycle
          ∧ s.outboundChain p k = (s.outboundChain p (k + 1) + s.tOut k) % p.cycle)
    ∧ (∀ (s : State) (p : Plan) (k : StationIx) (i : SplitItem), p.fits → p.items[k.val]? = some i →
      let I := s.idealIn p k
      let O := s.idealOut p k
      let share : Nat := match p.mode with
        | .inbound => 100
        | .outbound => 0
        | .weighted => p.weight
        | .tidal => s.mu.weight
      let weighted := weightedOffset p.cycle share I O
      (I : Int) = ((s.inboundChain p k.val : Int) - s.advanceIn p k) % p.cycle
        ∧ (O : Int) = ((s.outboundChain p k.val : Int) - s.advanceOut p k) % p.cycle
        ∧ (i.half = false → s.rawTarget p k = weighted)
        ∧ (i.half = true → weighted < p.cycle / 2 → s.rawTarget p k = weighted)
        ∧ (i.half = true → p.cycle / 2 ≤ weighted → s.rawTarget p k = weighted - p.cycle / 2))
    ∧ ∀ Cl limit raw T : Nat, raw < Cl → T < Cl →
      smoothed Cl limit raw true (some T) = raw ∧ smoothed Cl limit raw true none = raw ∧ smoothed Cl limit raw false none = raw
        ∧ ∃ e : Int, (raw - T - e) % Cl = 0 ∧ -(Cl : Int) < 2 * e ∧ 2 * e ≤ Cl
          ∧ (e.natAbs ≤ limit → smoothed Cl limit raw false (some T) = raw)
          ∧ ((limit : Int) < e → smoothed Cl limit raw false (some T) = (T + limit) % Cl)
          ∧ (e < -(limit : Int) → (smoothed Cl limit raw false (some T) : Int) = ((T : Int) - limit) % Cl)

/-- The queue advances are the least of queue time, cap and link time, and the weighted offset lies between the ideal offsets by
the share (R65, R66, R69). -/
def Obligations.AdvancesAndWeightingAreAsTheRulesSay : Prop :=
  (∀ (s : State) (p : Plan) (k : StationIx) (N : Nat) (c : StationConfig), s.count = some N → k.val < N →
      (s.st k).config = some c → p.fits →
      let queueIn := (s.st k).countedIn * c.headwayIn
      let queueOut := (s.st k).countedOut * c.headwayOut
      let a := s.advanceIn p k
      let b := s.advanceOut p k
      a ≤ queueIn ∧ a ≤ p.advanceCap ∧ (1 ≤ k.val → a ≤ s.tIn (k.val - 1))
        ∧ (a = queueIn ∨ a = p.advanceCap ∨ (1 ≤ k.val ∧ a = s.tIn (k.val - 1)))
        ∧ b ≤ queueOut ∧ b ≤ p.advanceCap ∧ (k.val + 1 < N → b ≤ s.tOut k.val)
        ∧ (b = queueOut ∨ b = p.advanceCap ∨ (k.val + 1 < N ∧ b = s.tOut k.val))
        ∧ p.advanceCap ≤ 300)
    ∧ ∀ C W I O : Nat, I < C → O < C → W ≤ 100 →
      let weighted := weightedOffset C W I O
      ∃ δ shift : Int, (O - I - δ) % C = 0 ∧ -(C : Int) < 2 * δ ∧ 2 * δ ≤ C
        ∧ shift = Int.sign ((100 - W) * δ) * (((((100 - W) * δ).natAbs + 50) / 100 : Nat) : Int)
        ∧ (weighted : Int) = (I + shift) % C ∧ (0 ≤ shift ∧ shift ≤ δ ∨ δ ≤ shift ∧ shift ≤ 0)
        ∧ (W = 100 → shift = 0 ∧ weighted = I) ∧ (W = 0 → shift = δ ∧ weighted = O)
        ∧ (circDiff C (weighted - I)).natAbs ≤ δ.natAbs ∧ (circDiff C (weighted - O)).natAbs ≤ δ.natAbs

/-- The schedule plan is that of the entry that began most recently within the past week, and 0 with an empty schedule or no
clock (R30). -/
def Obligations.TheGoverningEntryBeganLast : Prop :=
  (∀ (table : List ScheduleEntry) (d t : Nat), 1 ≤ d → d ≤ 7 → t < 864000 →
    (∀ e ∈ table, e.start ≤ 1439 ∧ e.days ≠ 0) →
    (table = [] → governingEntry table d t = none)
      ∧ (table ≠ [] → ∃ e ∈ table, governingEntry table d t = some e
        ∧ ∃ day ∈ [1, 2, 3, 4, 5, 6, 7], e.onDay day = true
          ∧ ∀ x ∈ table, ∀ day' ∈ [1, 2, 3, 4, 5, 6, 7], x.onDay day' = true →
            e.minutesAgo d (t / 600) day ≤ x.minutesAgo d (t / 600) day'))
    ∧ ∀ s : State, (s.tb.clockSet = false → s.schedulePlan = 0)
      ∧ (s.tb.clockSet = true →
        (∀ e : ScheduleEntry, governingEntry s.ps.schedule s.tb.day s.tb.time = some e → s.schedulePlan = e.plan)
          ∧ (governingEntry s.ps.schedule s.tb.day s.tb.time = none → s.schedulePlan = 0))
end

