-- ==== Sys2Proof/Laws/Arithmetic.lean ====
section
/-! SUPPORT. What the manual's arithmetic gives (section 6.2): ranges of circular differences and of values taken modulo a length, and
the running sums and differences of a cycle's phases. -/

namespace Sys2Proof.Machine

/-! ## Values modulo a length -/

/-- A value taken modulo `M` lies in 0 to M − 1. -/
theorem modulo_lt (x : Int) {M : Nat} (h : 0 < M) : modulo x M < M := by
  have h1 := Int.emod_nonneg x (b := M) (by omega)
  have h2 := Int.emod_lt_of_pos x (b := M) (by omega)
  unfold modulo; omega

theorem modulo_cast (x : Int) {M : Nat} (h : 0 < M) : (modulo x M : Int) = x % M := by
  have h1 := Int.emod_nonneg x (b := M) (by omega)
  unfold modulo; omega

theorem modulo_of_lt {n M : Nat} (h : n < M) : modulo n M = n := by
  unfold modulo
  rw [Int.emod_eq_of_lt (by omega) (by omega)]; rfl

/-- A circular difference lies above −M/2 and at or below M/2. -/
theorem circDiff_range (x : Int) {M : Nat} (h : 0 < M) : -(M : Int) < 2 * circDiff M x ∧ 2 * circDiff M x ≤ M := by
  have h1 := Int.emod_nonneg x (b := M) (by omega)
  have h2 := Int.emod_lt_of_pos x (b := M) (by omega)
  unfold circDiff; dsimp only; split <;> omega

/-- A circular difference differs from the difference itself by a multiple of `M`. -/
theorem circDiff_emod (x : Int) (M : Nat) : circDiff M x % M = x % M := by
  unfold circDiff; dsimp only
  split
  · rw [Int.sub_emod_right]; exact Int.emod_emod_of_dvd x (Int.dvd_refl _)
  · exact Int.emod_emod_of_dvd x (Int.dvd_refl _)

/-- A difference that already lies in the range is its own circular difference. -/
theorem circDiff_of_range {x : Int} {M : Nat} (h1 : -(M : Int) < 2 * x) (h2 : 2 * x ≤ M) : circDiff M x = x := by
  unfold circDiff; dsimp only
  by_cases h : 0 ≤ x
  · rw [Int.emod_eq_of_lt h (by omega)]; split <;> omega
  · have : x % (M : Int) = x + M := by
      rw [← Int.add_emod_right, Int.emod_eq_of_lt (by omega) (by omega)]
    rw [this]; split <;> omega

@[simp] theorem tickDiff_self (t : Tick) : tickDiff t t = 0 := by
  unfold tickDiff; rw [Int.sub_self]; exact circDiff_of_range (by omega) (by omega)

@[simp] theorem reached_self (t : Tick) : reached t t = true := by simp [reached]

theorem tickDiff_range (a b : Tick) : -2147483648 < tickDiff a b ∧ tickDiff a b ≤ 2147483648 := by
  have := circDiff_range ((a.toNat : Int) - b.toNat) (M := 4294967296) (by omega)
  unfold tickDiff; omega

theorem clamp_range (x : Nat) {low high : Nat} (h : low ≤ high) : low ≤ clamp low high x ∧ clamp low high x ≤ high := by
  unfold clamp; omega

/-! ## Phases of a cycle -/

@[simp] theorem runningSums_length (a : Nat) (l : List Nat) : (runningSums a l).length = l.length := by
  induction l generalizing a with
  | nil => rfl
  | cons x xs ih => simp [runningSums, ih]

/-- The differences of the running sums are the intervals. -/
theorem differences_runningSums (a : Nat) (l : List Nat) : differences a (runningSums a l) = l := by
  induction l generalizing a with
  | nil => rfl
  | cons x xs ih => simp [runningSums, differences, ih]

@[simp] theorem Course.ofIntervals_intervals (l : List Nat) : (Course.ofIntervals l).intervals = l :=
  differences_runningSums 0 l

@[simp] theorem Course.ofIntervals_length (l : List Nat) : (Course.ofIntervals l).length = l.sum := rfl

@[simp] theorem Course.ofIntervals_ends (l : List Nat) : (Course.ofIntervals l).ends = runningSums 0 l := rfl

theorem growFirst_sum (c : Nat) {l : List Nat} (h : l ≠ []) : (growFirst c l).sum = l.sum + c := by
  cases l with
  | nil => exact absurd rfl h
  | cons x xs => simp [growFirst]; omega

@[simp] theorem growFirst_length (c : Nat) (l : List Nat) : (growFirst c l).length = l.length := by
  cases l <;> rfl

/-- The phases that have given, in the order in which they give: as many as there were. -/
@[simp] theorem takeInOrder_length (a : Nat) (l : List (Nat × Nat)) : (takeInOrder a l).length = l.length := by
  induction l generalizing a with
  | nil => rfl
  | cons x xs ih => obtain ⟨iv, mn⟩ := x; simp [takeInOrder, ih]

/-- The phases give the whole amount when their room allows it. -/
theorem takeInOrder_sum (a : Nat) (l : List (Nat × Nat)) (h : a ≤ (l.map fun x => x.1 - x.2).sum) :
    (takeInOrder a l).sum + a = (l.map (·.1)).sum := by
  induction l generalizing a with
  | nil => simp at h; simp [takeInOrder, h]
  | cons x xs ih =>
    obtain ⟨iv, mn⟩ := x
    simp only [List.map_cons, List.sum_cons] at h
    have := ih (a - min a (iv - mn)) (by omega)
    simp only [takeInOrder, List.sum_cons, List.map_cons]
    omega

end Sys2Proof.Machine
end

