-- ==== Sys2Proof/Laws/State.lean ====
section
/-! SUPPORT. One lemma per field per update of the state: what each named update leaves as it was. -/

namespace Sys2Proof.Machine

variable (s : State)

/-! ## Updates of one block -/

@[simp] theorem State.modSt_pending (k : StationIx) (f : Station → Station) : (s.modSt k f).pending = s.pending := rfl
@[simp] theorem State.modSt_count (k : StationIx) (f : Station → Station) : (s.modSt k f).count = s.count := rfl
@[simp] theorem State.modSt_tb (k : StationIx) (f : Station → Station) : (s.modSt k f).tb = s.tb := rfl
@[simp] theorem State.modSt_ps (k : StationIx) (f : Station → Station) : (s.modSt k f).ps = s.ps := rfl
@[simp] theorem State.modSt_hl (k : StationIx) (f : Station → Station) : (s.modSt k f).hl = s.hl := rfl
@[simp] theorem State.modSt_clc (k : StationIx) (f : Station → Station) : (s.modSt k f).clc = s.clc := rfl
@[simp] theorem State.modSt_mu (k : StationIx) (f : Station → Station) : (s.modSt k f).mu = s.mu := rfl
@[simp] theorem State.modSt_table (k : StationIx) (f : Station → Station) : (s.modSt k f).table = s.table := rfl
@[simp] theorem State.modSt_eq (k : StationIx) (f : Station → Station) : (s.modSt k f).eq = s.eq := rfl
@[simp] theorem State.modSt_hli (k : StationIx) (f : Station → Station) : (s.modSt k f).hli = s.hli := rfl
@[simp] theorem State.modSt_cs (k : StationIx) (f : Station → Station) : (s.modSt k f).cs = s.cs := rfl

@[simp] theorem State.modEntry_pending (i : SlotIx) (f : Entry → Entry) : (s.modEntry i f).pending = s.pending := rfl
@[simp] theorem State.modEntry_count (i : SlotIx) (f : Entry → Entry) : (s.modEntry i f).count = s.count := rfl
@[simp] theorem State.modEntry_stations (i : SlotIx) (f : Entry → Entry) : (s.modEntry i f).stations = s.stations := rfl
@[simp] theorem State.modEntry_tb (i : SlotIx) (f : Entry → Entry) : (s.modEntry i f).tb = s.tb := rfl
@[simp] theorem State.modEntry_ps (i : SlotIx) (f : Entry → Entry) : (s.modEntry i f).ps = s.ps := rfl
@[simp] theorem State.modEntry_hl (i : SlotIx) (f : Entry → Entry) : (s.modEntry i f).hl = s.hl := rfl
@[simp] theorem State.modEntry_clc (i : SlotIx) (f : Entry → Entry) : (s.modEntry i f).clc = s.clc := rfl
@[simp] theorem State.modEntry_mu (i : SlotIx) (f : Entry → Entry) : (s.modEntry i f).mu = s.mu := rfl
@[simp] theorem State.modEntry_eq (i : SlotIx) (f : Entry → Entry) : (s.modEntry i f).eq = s.eq := rfl
@[simp] theorem State.modEntry_hli (i : SlotIx) (f : Entry → Entry) : (s.modEntry i f).hli = s.hli := rfl
@[simp] theorem State.modEntry_cs (i : SlotIx) (f : Entry → Entry) : (s.modEntry i f).cs = s.cs := rfl

@[simp] theorem State.removeEntry_pending (i : SlotIx) : (s.removeEntry i).pending = s.pending := rfl
@[simp] theorem State.removeEntry_count (i : SlotIx) : (s.removeEntry i).count = s.count := rfl
@[simp] theorem State.removeEntry_stations (i : SlotIx) : (s.removeEntry i).stations = s.stations := rfl
@[simp] theorem State.removeEntry_tb (i : SlotIx) : (s.removeEntry i).tb = s.tb := rfl
@[simp] theorem State.removeEntry_ps (i : SlotIx) : (s.removeEntry i).ps = s.ps := rfl
@[simp] theorem State.removeEntry_hl (i : SlotIx) : (s.removeEntry i).hl = s.hl := rfl
@[simp] theorem State.removeEntry_clc (i : SlotIx) : (s.removeEntry i).clc = s.clc := rfl
@[simp] theorem State.removeEntry_mu (i : SlotIx) : (s.removeEntry i).mu = s.mu := rfl
@[simp] theorem State.removeEntry_eq (i : SlotIx) : (s.removeEntry i).eq = s.eq := rfl
@[simp] theorem State.removeEntry_hli (i : SlotIx) : (s.removeEntry i).hli = s.hli := rfl
@[simp] theorem State.removeEntry_cs (i : SlotIx) : (s.removeEntry i).cs = s.cs := rfl

@[simp] theorem State.dropUrgent_pending (p : UrgentFrame → Bool) : (s.dropUrgent p).pending = s.pending := rfl
@[simp] theorem State.dropUrgent_count (p : UrgentFrame → Bool) : (s.dropUrgent p).count = s.count := rfl
@[simp] theorem State.dropUrgent_stations (p : UrgentFrame → Bool) : (s.dropUrgent p).stations = s.stations := rfl
@[simp] theorem State.dropUrgent_tb (p : UrgentFrame → Bool) : (s.dropUrgent p).tb = s.tb := rfl
@[simp] theorem State.dropUrgent_ps (p : UrgentFrame → Bool) : (s.dropUrgent p).ps = s.ps := rfl
@[simp] theorem State.dropUrgent_hl (p : UrgentFrame → Bool) : (s.dropUrgent p).hl = s.hl := rfl
@[simp] theorem State.dropUrgent_mu (p : UrgentFrame → Bool) : (s.dropUrgent p).mu = s.mu := rfl
@[simp] theorem State.dropUrgent_table (p : UrgentFrame → Bool) : (s.dropUrgent p).table = s.table := rfl
@[simp] theorem State.dropUrgent_eq (p : UrgentFrame → Bool) : (s.dropUrgent p).eq = s.eq := rfl
@[simp] theorem State.dropUrgent_hli (p : UrgentFrame → Bool) : (s.dropUrgent p).hli = s.hli := rfl
@[simp] theorem State.dropUrgent_cs (p : UrgentFrame → Bool) : (s.dropUrgent p).cs = s.cs := rfl

@[simp] theorem State.placeUrgent_pending (k : StationIx) (x : UrgentKind) : (s.placeUrgent k x).pending = s.pending := rfl
@[simp] theorem State.placeUrgent_count (k : StationIx) (x : UrgentKind) : (s.placeUrgent k x).count = s.count := rfl
@[simp] theorem State.placeUrgent_stations (k : StationIx) (x : UrgentKind) : (s.placeUrgent k x).stations = s.stations := rfl
@[simp] theorem State.placeUrgent_tb (k : StationIx) (x : UrgentKind) : (s.placeUrgent k x).tb = s.tb := rfl
@[simp] theorem State.placeUrgent_ps (k : StationIx) (x : UrgentKind) : (s.placeUrgent k x).ps = s.ps := rfl
@[simp] theorem State.placeUrgent_hl (k : StationIx) (x : UrgentKind) : (s.placeUrgent k x).hl = s.hl := rfl
@[simp] theorem State.placeUrgent_mu (k : StationIx) (x : UrgentKind) : (s.placeUrgent k x).mu = s.mu := rfl
@[simp] theorem State.placeUrgent_table (k : StationIx) (x : UrgentKind) : (s.placeUrgent k x).table = s.table := rfl
@[simp] theorem State.placeUrgent_eq (k : StationIx) (x : UrgentKind) : (s.placeUrgent k x).eq = s.eq := rfl
@[simp] theorem State.placeUrgent_hli (k : StationIx) (x : UrgentKind) : (s.placeUrgent k x).hli = s.hli := rfl
@[simp] theorem State.placeUrgent_cs (k : StationIx) (x : UrgentKind) : (s.placeUrgent k x).cs = s.cs := rfl

@[simp] theorem State.setLockout_pending (k : StationIx) (n : Nat) : (s.setLockout k n).pending = s.pending := rfl
@[simp] theorem State.setLockout_count (k : StationIx) (n : Nat) : (s.setLockout k n).count = s.count := rfl
@[simp] theorem State.setLockout_tb (k : StationIx) (n : Nat) : (s.setLockout k n).tb = s.tb := rfl
@[simp] theorem State.setLockout_ps (k : StationIx) (n : Nat) : (s.setLockout k n).ps = s.ps := rfl
@[simp] theorem State.setLockout_hl (k : StationIx) (n : Nat) : (s.setLockout k n).hl = s.hl := rfl
@[simp] theorem State.setLockout_clc (k : StationIx) (n : Nat) : (s.setLockout k n).clc = s.clc := rfl
@[simp] theorem State.setLockout_mu (k : StationIx) (n : Nat) : (s.setLockout k n).mu = s.mu := rfl
@[simp] theorem State.setLockout_table (k : StationIx) (n : Nat) : (s.setLockout k n).table = s.table := rfl
@[simp] theorem State.setLockout_eq (k : StationIx) (n : Nat) : (s.setLockout k n).eq = s.eq := rfl
@[simp] theorem State.setLockout_hli (k : StationIx) (n : Nat) : (s.setLockout k n).hli = s.hli := rfl
@[simp] theorem State.setLockout_cs (k : StationIx) (n : Nat) : (s.setLockout k n).cs = s.cs := rfl

@[simp] theorem State.modModel_pending (k : StationIx) (f : CycleModel → CycleModel) : (s.modModel k f).pending = s.pending := rfl
@[simp] theorem State.modModel_count (k : StationIx) (f : CycleModel → CycleModel) : (s.modModel k f).count = s.count := rfl
@[simp] theorem State.modModel_tb (k : StationIx) (f : CycleModel → CycleModel) : (s.modModel k f).tb = s.tb := rfl
@[simp] theorem State.modModel_ps (k : StationIx) (f : CycleModel → CycleModel) : (s.modModel k f).ps = s.ps := rfl
@[simp] theorem State.modModel_hl (k : StationIx) (f : CycleModel → CycleModel) : (s.modModel k f).hl = s.hl := rfl
@[simp] theorem State.modModel_clc (k : StationIx) (f : CycleModel → CycleModel) : (s.modModel k f).clc = s.clc := rfl
@[simp] theorem State.modModel_mu (k : StationIx) (f : CycleModel → CycleModel) : (s.modModel k f).mu = s.mu := rfl
@[simp] theorem State.modModel_table (k : StationIx) (f : CycleModel → CycleModel) : (s.modModel k f).table = s.table := rfl
@[simp] theorem State.modModel_eq (k : StationIx) (f : CycleModel → CycleModel) : (s.modModel k f).eq = s.eq := rfl
@[simp] theorem State.modModel_hli (k : StationIx) (f : CycleModel → CycleModel) : (s.modModel k f).hli = s.hli := rfl
@[simp] theorem State.modModel_cs (k : StationIx) (f : CycleModel → CycleModel) : (s.modModel k f).cs = s.cs := rfl

@[simp] theorem State.emptyRing_pending : (s.emptyRing).pending = s.pending := rfl
@[simp] theorem State.emptyRing_count : (s.emptyRing).count = s.count := rfl
@[simp] theorem State.emptyRing_stations : (s.emptyRing).stations = s.stations := rfl
@[simp] theorem State.emptyRing_tb : (s.emptyRing).tb = s.tb := rfl
@[simp] theorem State.emptyRing_ps : (s.emptyRing).ps = s.ps := rfl
@[simp] theorem State.emptyRing_hl : (s.emptyRing).hl = s.hl := rfl
@[simp] theorem State.emptyRing_clc : (s.emptyRing).clc = s.clc := rfl
@[simp] theorem State.emptyRing_table : (s.emptyRing).table = s.table := rfl
@[simp] theorem State.emptyRing_eq : (s.emptyRing).eq = s.eq := rfl
@[simp] theorem State.emptyRing_hli : (s.emptyRing).hli = s.hli := rfl
@[simp] theorem State.emptyRing_cs : (s.emptyRing).cs = s.cs := rfl

@[simp] theorem State.takeWeight_pending (p : Plan) : (s.takeWeight p).pending = s.pending := rfl
@[simp] theorem State.takeWeight_count (p : Plan) : (s.takeWeight p).count = s.count := rfl
@[simp] theorem State.takeWeight_stations (p : Plan) : (s.takeWeight p).stations = s.stations := rfl
@[simp] theorem State.takeWeight_tb (p : Plan) : (s.takeWeight p).tb = s.tb := rfl
@[simp] theorem State.takeWeight_ps (p : Plan) : (s.takeWeight p).ps = s.ps := rfl
@[simp] theorem State.takeWeight_hl (p : Plan) : (s.takeWeight p).hl = s.hl := rfl
@[simp] theorem State.takeWeight_clc (p : Plan) : (s.takeWeight p).clc = s.clc := rfl
@[simp] theorem State.takeWeight_table (p : Plan) : (s.takeWeight p).table = s.table := rfl
@[simp] theorem State.takeWeight_eq (p : Plan) : (s.takeWeight p).eq = s.eq := rfl
@[simp] theorem State.takeWeight_hli (p : Plan) : (s.takeWeight p).hli = s.hli := rfl
@[simp] theorem State.takeWeight_cs (p : Plan) : (s.takeWeight p).cs = s.cs := rfl

@[simp] theorem State.stage_pending (g : Option Nat) : (s.stage g).pending = s.pending := rfl
@[simp] theorem State.stage_count (g : Option Nat) : (s.stage g).count = s.count := rfl
@[simp] theorem State.stage_stations (g : Option Nat) : (s.stage g).stations = s.stations := rfl
@[simp] theorem State.stage_tb (g : Option Nat) : (s.stage g).tb = s.tb := rfl
@[simp] theorem State.stage_hl (g : Option Nat) : (s.stage g).hl = s.hl := rfl
@[simp] theorem State.stage_clc (g : Option Nat) : (s.stage g).clc = s.clc := rfl
@[simp] theorem State.stage_mu (g : Option Nat) : (s.stage g).mu = s.mu := rfl
@[simp] theorem State.stage_table (g : Option Nat) : (s.stage g).table = s.table := rfl
@[simp] theorem State.stage_eq (g : Option Nat) : (s.stage g).eq = s.eq := rfl
@[simp] theorem State.stage_hli (g : Option Nat) : (s.stage g).hli = s.hli := rfl
@[simp] theorem State.stage_cs (g : Option Nat) : (s.stage g).cs = s.cs := rfl

@[simp] theorem State.clearRejection_pending : (s.clearRejection).pending = s.pending := rfl
@[simp] theorem State.clearRejection_count : (s.clearRejection).count = s.count := rfl
@[simp] theorem State.clearRejection_stations : (s.clearRejection).stations = s.stations := rfl
@[simp] theorem State.clearRejection_tb : (s.clearRejection).tb = s.tb := rfl
@[simp] theorem State.clearRejection_hl : (s.clearRejection).hl = s.hl := rfl
@[simp] theorem State.clearRejection_clc : (s.clearRejection).clc = s.clc := rfl
@[simp] theorem State.clearRejection_mu : (s.clearRejection).mu = s.mu := rfl
@[simp] theorem State.clearRejection_table : (s.clearRejection).table = s.table := rfl
@[simp] theorem State.clearRejection_eq : (s.clearRejection).eq = s.eq := rfl
@[simp] theorem State.clearRejection_hli : (s.clearRejection).hli = s.hli := rfl
@[simp] theorem State.clearRejection_cs : (s.clearRejection).cs = s.cs := rfl

@[simp] theorem State.setEnable_pending (b : Bool) : (s.setEnable b).pending = s.pending := rfl
@[simp] theorem State.setEnable_count (b : Bool) : (s.setEnable b).count = s.count := rfl
@[simp] theorem State.setEnable_stations (b : Bool) : (s.setEnable b).stations = s.stations := rfl
@[simp] theorem State.setEnable_tb (b : Bool) : (s.setEnable b).tb = s.tb := rfl
@[simp] theorem State.setEnable_hl (b : Bool) : (s.setEnable b).hl = s.hl := rfl
@[simp] theorem State.setEnable_clc (b : Bool) : (s.setEnable b).clc = s.clc := rfl
@[simp] theorem State.setEnable_mu (b : Bool) : (s.setEnable b).mu = s.mu := rfl
@[simp] theorem State.setEnable_table (b : Bool) : (s.setEnable b).table = s.table := rfl
@[simp] theorem State.setEnable_eq (b : Bool) : (s.setEnable b).eq = s.eq := rfl
@[simp] theorem State.setEnable_hli (b : Bool) : (s.setEnable b).hli = s.hli := rfl
@[simp] theorem State.setEnable_cs (b : Bool) : (s.setEnable b).cs = s.cs := rfl

@[simp] theorem State.setOverride_pending (g : Option Nat) : (s.setOverride g).pending = s.pending := rfl
@[simp] theorem State.setOverride_count (g : Option Nat) : (s.setOverride g).count = s.count := rfl
@[simp] theorem State.setOverride_stations (g : Option Nat) : (s.setOverride g).stations = s.stations := rfl
@[simp] theorem State.setOverride_tb (g : Option Nat) : (s.setOverride g).tb = s.tb := rfl
@[simp] theorem State.setOverride_hl (g : Option Nat) : (s.setOverride g).hl = s.hl := rfl
@[simp] theorem State.setOverride_clc (g : Option Nat) : (s.setOverride g).clc = s.clc := rfl
@[simp] theorem State.setOverride_mu (g : Option Nat) : (s.setOverride g).mu = s.mu := rfl
@[simp] theorem State.setOverride_table (g : Option Nat) : (s.setOverride g).table = s.table := rfl
@[simp] theorem State.setOverride_eq (g : Option Nat) : (s.setOverride g).eq = s.eq := rfl
@[simp] theorem State.setOverride_hli (g : Option Nat) : (s.setOverride g).hli = s.hli := rfl
@[simp] theorem State.setOverride_cs (g : Option Nat) : (s.setOverride g).cs = s.cs := rfl

@[simp] theorem State.setClock_pending (d n : Nat) : (s.setClock d n).pending = s.pending := rfl
@[simp] theorem State.setClock_count (d n : Nat) : (s.setClock d n).count = s.count := rfl
@[simp] theorem State.setClock_stations (d n : Nat) : (s.setClock d n).stations = s.stations := rfl
@[simp] theorem State.setClock_ps (d n : Nat) : (s.setClock d n).ps = s.ps := rfl
@[simp] theorem State.setClock_hl (d n : Nat) : (s.setClock d n).hl = s.hl := rfl
@[simp] theorem State.setClock_clc (d n : Nat) : (s.setClock d n).clc = s.clc := rfl
@[simp] theorem State.setClock_mu (d n : Nat) : (s.setClock d n).mu = s.mu := rfl
@[simp] theorem State.setClock_table (d n : Nat) : (s.setClock d n).table = s.table := rfl
@[simp] theorem State.setClock_eq (d n : Nat) : (s.setClock d n).eq = s.eq := rfl
@[simp] theorem State.setClock_hli (d n : Nat) : (s.setClock d n).hli = s.hli := rfl
@[simp] theorem State.setClock_cs (d n : Nat) : (s.setClock d n).cs = s.cs := rfl

@[simp] theorem State.discardExchange_pending (p : StationIx → Bool) : (s.discardExchange p).pending = s.pending := rfl
@[simp] theorem State.discardExchange_count (p : StationIx → Bool) : (s.discardExchange p).count = s.count := rfl
@[simp] theorem State.discardExchange_stations (p : StationIx → Bool) : (s.discardExchange p).stations = s.stations := rfl
@[simp] theorem State.discardExchange_tb (p : StationIx → Bool) : (s.discardExchange p).tb = s.tb := rfl
@[simp] theorem State.discardExchange_ps (p : StationIx → Bool) : (s.discardExchange p).ps = s.ps := rfl
@[simp] theorem State.discardExchange_hl (p : StationIx → Bool) : (s.discardExchange p).hl = s.hl := rfl
@[simp] theorem State.discardExchange_mu (p : StationIx → Bool) : (s.discardExchange p).mu = s.mu := rfl
@[simp] theorem State.discardExchange_table (p : StationIx → Bool) : (s.discardExchange p).table = s.table := rfl
@[simp] theorem State.discardExchange_eq (p : StationIx → Bool) : (s.discardExchange p).eq = s.eq := rfl
@[simp] theorem State.discardExchange_hli (p : StationIx → Bool) : (s.discardExchange p).hli = s.hli := rfl
@[simp] theorem State.discardExchange_cs (p : StationIx → Bool) : (s.discardExchange p).cs = s.cs := rfl

@[simp] theorem State.countNonRoutine_pending : (s.countNonRoutine).pending = s.pending := rfl
@[simp] theorem State.countNonRoutine_count : (s.countNonRoutine).count = s.count := rfl
@[simp] theorem State.countNonRoutine_stations : (s.countNonRoutine).stations = s.stations := rfl
@[simp] theorem State.countNonRoutine_tb : (s.countNonRoutine).tb = s.tb := rfl
@[simp] theorem State.countNonRoutine_ps : (s.countNonRoutine).ps = s.ps := rfl
@[simp] theorem State.countNonRoutine_hl : (s.countNonRoutine).hl = s.hl := rfl
@[simp] theorem State.countNonRoutine_mu : (s.countNonRoutine).mu = s.mu := rfl
@[simp] theorem State.countNonRoutine_table : (s.countNonRoutine).table = s.table := rfl
@[simp] theorem State.countNonRoutine_eq : (s.countNonRoutine).eq = s.eq := rfl
@[simp] theorem State.countNonRoutine_hli : (s.countNonRoutine).hli = s.hli := rfl
@[simp] theorem State.countNonRoutine_cs : (s.countNonRoutine).cs = s.cs := rfl

@[simp] theorem State.countRoutine_pending (k : StationIx) : (s.countRoutine k).pending = s.pending := rfl
@[simp] theorem State.countRoutine_count (k : StationIx) : (s.countRoutine k).count = s.count := rfl
@[simp] theorem State.countRoutine_stations (k : StationIx) : (s.countRoutine k).stations = s.stations := rfl
@[simp] theorem State.countRoutine_tb (k : StationIx) : (s.countRoutine k).tb = s.tb := rfl
@[simp] theorem State.countRoutine_ps (k : StationIx) : (s.countRoutine k).ps = s.ps := rfl
@[simp] theorem State.countRoutine_hl (k : StationIx) : (s.countRoutine k).hl = s.hl := rfl
@[simp] theorem State.countRoutine_mu (k : StationIx) : (s.countRoutine k).mu = s.mu := rfl
@[simp] theorem State.countRoutine_table (k : StationIx) : (s.countRoutine k).table = s.table := rfl
@[simp] theorem State.countRoutine_eq (k : StationIx) : (s.countRoutine k).eq = s.eq := rfl
@[simp] theorem State.countRoutine_hli (k : StationIx) : (s.countRoutine k).hli = s.hli := rfl
@[simp] theorem State.countRoutine_cs (k : StationIx) : (s.countRoutine k).cs = s.cs := rfl

@[simp] theorem State.beginExchange_pending (k : StationIx) (f : SentFrame) : (s.beginExchange k f).pending = s.pending := rfl
@[simp] theorem State.beginExchange_count (k : StationIx) (f : SentFrame) : (s.beginExchange k f).count = s.count := rfl
@[simp] theorem State.beginExchange_stations (k : StationIx) (f : SentFrame) : (s.beginExchange k f).stations = s.stations := rfl
@[simp] theorem State.beginExchange_tb (k : StationIx) (f : SentFrame) : (s.beginExchange k f).tb = s.tb := rfl
@[simp] theorem State.beginExchange_ps (k : StationIx) (f : SentFrame) : (s.beginExchange k f).ps = s.ps := rfl
@[simp] theorem State.beginExchange_hl (k : StationIx) (f : SentFrame) : (s.beginExchange k f).hl = s.hl := rfl
@[simp] theorem State.beginExchange_mu (k : StationIx) (f : SentFrame) : (s.beginExchange k f).mu = s.mu := rfl
@[simp] theorem State.beginExchange_table (k : StationIx) (f : SentFrame) : (s.beginExchange k f).table = s.table := rfl
@[simp] theorem State.beginExchange_eq (k : StationIx) (f : SentFrame) : (s.beginExchange k f).eq = s.eq := rfl
@[simp] theorem State.beginExchange_hli (k : StationIx) (f : SentFrame) : (s.beginExchange k f).hli = s.hli := rfl
@[simp] theorem State.beginExchange_cs (k : StationIx) (f : SentFrame) : (s.beginExchange k f).cs = s.cs := rfl

/-! ## Station records -/

@[simp] theorem State.st_modSt_same (k : StationIx) (f : Station → Station) : (s.modSt k f).st k = f (s.st k) := by
  simp [State.st, State.modSt]

theorem State.st_modSt_ne {j k : StationIx} (h : j ≠ k) (f : Station → Station) : (s.modSt k f).st j = s.st j := by
  have : (k : Nat) ≠ j := fun e => h (Fin.ext e.symm)
  simp [State.st, State.modSt, this]

theorem State.st_modSt (j k : StationIx) (f : Station → Station) :
    (s.modSt k f).st j = if j = k then f (s.st j) else s.st j := by
  by_cases h : j = k
  · subst h; simp
  · simp [State.st_modSt_ne s h f, h]

/-- Records with the same stations have the same record at every index. -/
theorem State.st_congr {s t : State} (h : t.stations = s.stations) (k : StationIx) : t.st k = s.st k := by
  simp [State.st, h]

/-! ## The transmit queue and the event queue -/

/-- A frame begins to be sent: only the transmit queue can change. -/
theorem State.beginHead_eq : s.beginHead = { s with hli := { s.hli with transmit := s.beginHead.hli.transmit } } := by
  unfold State.beginHead
  split <;> rfl

/-- A frame joins the transmit queue: only that queue can change, and it is one longer. -/
theorem State.transmit_eq (f : TxFrame) :
    s.transmit f = { s with hli := { s.hli with transmit := (s.transmit f).hli.transmit } } := by
  unfold State.transmit
  rw [State.beginHead_eq]

@[simp] theorem State.beginHead_length : s.beginHead.hli.transmit.length = s.hli.transmit.length := by
  unfold State.beginHead
  split <;> simp_all

@[simp] theorem State.transmit_length (f : TxFrame) :
    (s.transmit f).hli.transmit.length = s.hli.transmit.length + 1 := by
  unfold State.transmit
  simp

/-- An event is written: only the event queue, the transmit queue and the armed flag can change. -/
theorem State.emit_eq (b : EventBody) :
    s.emit b = { s with
      eq := (s.emit b).eq
      hli := { s.hli with transmit := (s.emit b).hli.transmit, armed := (s.emit b).hli.armed } } := by
  unfold State.emit State.noticeReport
  split
  · dsimp only
    split
    · split
      · rw [State.transmit_eq]
      · rfl
    · rfl
  · rfl

@[simp] theorem State.emit_pending (b : EventBody) : (s.emit b).pending = s.pending := by rw [State.emit_eq]
@[simp] theorem State.emit_count (b : EventBody) : (s.emit b).count = s.count := by rw [State.emit_eq]
@[simp] theorem State.emit_stations (b : EventBody) : (s.emit b).stations = s.stations := by rw [State.emit_eq]
@[simp] theorem State.emit_tb (b : EventBody) : (s.emit b).tb = s.tb := by rw [State.emit_eq]
@[simp] theorem State.emit_ps (b : EventBody) : (s.emit b).ps = s.ps := by rw [State.emit_eq]
@[simp] theorem State.emit_hl (b : EventBody) : (s.emit b).hl = s.hl := by rw [State.emit_eq]
@[simp] theorem State.emit_clc (b : EventBody) : (s.emit b).clc = s.clc := by rw [State.emit_eq]
@[simp] theorem State.emit_mu (b : EventBody) : (s.emit b).mu = s.mu := by rw [State.emit_eq]
@[simp] theorem State.emit_table (b : EventBody) : (s.emit b).table = s.table := by rw [State.emit_eq]
@[simp] theorem State.emit_cs (b : EventBody) : (s.emit b).cs = s.cs := by rw [State.emit_eq]
@[simp] theorem State.emit_rx (b : EventBody) : (s.emit b).hli.rx = s.hli.rx := by rw [State.emit_eq]
@[simp] theorem State.emit_received (b : EventBody) : (s.emit b).hli.received = s.hli.received := by rw [State.emit_eq]
@[simp] theorem State.emit_overrun (b : EventBody) : (s.emit b).hli.overrun = s.hli.overrun := by rw [State.emit_eq]
@[simp] theorem State.emit_notice (b : EventBody) : (s.emit b).hli.notice = s.hli.notice := by rw [State.emit_eq]
@[simp] theorem State.emit_emptied (b : EventBody) : (s.emit b).hli.emptied = s.hli.emptied := by rw [State.emit_eq]

@[simp] theorem State.emit_st (b : EventBody) (k : StationIx) : (s.emit b).st k = s.st k :=
  State.st_congr (State.emit_stations s b) k

/-! ## The end of an exchange -/

@[simp] theorem State.clearExchange_pending : (s.clearExchange).pending = s.pending := rfl
@[simp] theorem State.clearExchange_count : (s.clearExchange).count = s.count := rfl
@[simp] theorem State.clearExchange_stations : (s.clearExchange).stations = s.stations := rfl
@[simp] theorem State.clearExchange_tb : (s.clearExchange).tb = s.tb := rfl
@[simp] theorem State.clearExchange_ps : (s.clearExchange).ps = s.ps := rfl
@[simp] theorem State.clearExchange_hl : (s.clearExchange).hl = s.hl := rfl
@[simp] theorem State.clearExchange_mu : (s.clearExchange).mu = s.mu := rfl
@[simp] theorem State.clearExchange_table : (s.clearExchange).table = s.table := rfl
@[simp] theorem State.clearExchange_eq : (s.clearExchange).eq = s.eq := rfl
@[simp] theorem State.clearExchange_hli : (s.clearExchange).hli = s.hli := rfl
@[simp] theorem State.clearExchange_cs : (s.clearExchange).cs = s.cs := rfl

/-- A resynchronisation of the present tick notes its station, and nothing else changes (R97). -/
theorem State.markResync_notes (k : StationIx) (t : Tick) :
    s.markResync k t = { s with clc := { s.clc with resynced := if t = s.now then some k else s.clc.resynced } } := by
  unfold State.markResync
  split <;> simp [*]

@[simp] theorem State.markResync_pending (k : StationIx) (t : Tick) : (s.markResync k t).pending = s.pending := by rw [State.markResync_notes]
@[simp] theorem State.markResync_count (k : StationIx) (t : Tick) : (s.markResync k t).count = s.count := by rw [State.markResync_notes]
@[simp] theorem State.markResync_stations (k : StationIx) (t : Tick) : (s.markResync k t).stations = s.stations := by rw [State.markResync_notes]
@[simp] theorem State.markResync_tb (k : StationIx) (t : Tick) : (s.markResync k t).tb = s.tb := by rw [State.markResync_notes]
@[simp] theorem State.markResync_ps (k : StationIx) (t : Tick) : (s.markResync k t).ps = s.ps := by rw [State.markResync_notes]
@[simp] theorem State.markResync_hl (k : StationIx) (t : Tick) : (s.markResync k t).hl = s.hl := by rw [State.markResync_notes]
@[simp] theorem State.markResync_mu (k : StationIx) (t : Tick) : (s.markResync k t).mu = s.mu := by rw [State.markResync_notes]
@[simp] theorem State.markResync_table (k : StationIx) (t : Tick) : (s.markResync k t).table = s.table := by rw [State.markResync_notes]
@[simp] theorem State.markResync_eq (k : StationIx) (t : Tick) : (s.markResync k t).eq = s.eq := by rw [State.markResync_notes]
@[simp] theorem State.markResync_hli (k : StationIx) (t : Tick) : (s.markResync k t).hli = s.hli := by rw [State.markResync_notes]
@[simp] theorem State.markResync_cs (k : StationIx) (t : Tick) : (s.markResync k t).cs = s.cs := by rw [State.markResync_notes]

/-- Moving a waiting order's deadline changes the deadline alone (R87). -/
theorem State.retimeOrder_cases (k : StationIx) :
    s.retimeOrder k = s
      ∨ ∃ o d, (s.st k).order = some o ∧ o.body ≠ none
        ∧ s.retimeOrder k = s.modSt k fun t => { t with order := some { o with deadline := d } } := by
  unfold State.retimeOrder
  split
  · next o m ho hm =>
    split
    · split
      · next h =>
        refine .inr ⟨o, _, ho, ?_, rfl⟩
        intro hb
        simp [WaitingOrder.release, hb] at h
      · exact .inl rfl
    · exact .inl rfl
  · exact .inl rfl

/-! ## The note that the transmit queue has been sent empty -/

@[simp] theorem State.noteEmptied_pending : s.noteEmptied.pending = s.pending := by unfold State.noteEmptied; split <;> rfl
@[simp] theorem State.noteEmptied_count : s.noteEmptied.count = s.count := by unfold State.noteEmptied; split <;> rfl
@[simp] theorem State.noteEmptied_stations : s.noteEmptied.stations = s.stations := by unfold State.noteEmptied; split <;> rfl
@[simp] theorem State.noteEmptied_tb : s.noteEmptied.tb = s.tb := by unfold State.noteEmptied; split <;> rfl
@[simp] theorem State.noteEmptied_ps : s.noteEmptied.ps = s.ps := by unfold State.noteEmptied; split <;> rfl
@[simp] theorem State.noteEmptied_hl : s.noteEmptied.hl = s.hl := by unfold State.noteEmptied; split <;> rfl
@[simp] theorem State.noteEmptied_clc : s.noteEmptied.clc = s.clc := by unfold State.noteEmptied; split <;> rfl
@[simp] theorem State.noteEmptied_mu : s.noteEmptied.mu = s.mu := by unfold State.noteEmptied; split <;> rfl
@[simp] theorem State.noteEmptied_table : s.noteEmptied.table = s.table := by unfold State.noteEmptied; split <;> rfl
@[simp] theorem State.noteEmptied_eq : s.noteEmptied.eq = s.eq := by unfold State.noteEmptied; split <;> rfl
@[simp] theorem State.noteEmptied_cs : s.noteEmptied.cs = s.cs := by unfold State.noteEmptied; split <;> rfl

/-- The note is taken exactly when the transmit queue is empty and no request waits, and stays once taken (R154, step 4). -/
@[simp] theorem State.noteEmptied_emptied :
    s.noteEmptied.hli.emptied = (s.hli.emptied || s.hli.transmit.isEmpty && s.hli.received.isEmpty) := by
  unfold State.noteEmptied; split <;> simp_all

/-! ## The departure of an entry -/

@[simp] theorem State.letGo_table (e : Entry) : (s.letGo e).table = s.table := by
  unfold State.letGo
  split
  · dsimp only
    split <;> rfl
  · rfl

/-- The departing entry's slot is freed, and no other entry changes (R115). -/
@[simp] theorem State.leave_table (e : Entry) (o : ReqOutcome) : (s.leave e o).table = s.table.filter (·.slot ≠ e.slot) := by
  unfold State.leave; split <;> simp [State.removeEntry]

end Sys2Proof.Machine
end

