-- ==== Sys2Proof/Laws/Quiet.lean ====
section
/-! SUPPORT. Which operations write to the host side of the controller: every operation of the corridor side leaves the pending
commands alone, and reaches the event queue and the host link by writing event records only. One lemma per shared operation. -/

namespace Sys2Proof.Machine

/-- From `s` to `t` the pending commands, the Event Queue and the host link have changed by written event records only. -/
inductive Quiet (s : State) : State → Prop
  | same {t : State} (hp : t.pending = s.pending) (he : t.eq = s.eq) (hh : t.hli = s.hli) : Quiet s t
  | emit {t : State} (h : Quiet s t) (b : EventBody) : Quiet s (t.emit b)
  | host {t u : State} (h : Quiet s t) (hp : u.pending = t.pending) (he : u.eq = t.eq) (hh : u.hli = t.hli) : Quiet s u

namespace Quiet

theorem refl (s : State) : Quiet s s := .same rfl rfl rfl

theorem trans {s t u : State} (h : Quiet s t) (h' : Quiet t u) : Quiet s u := by
  induction h' with
  | same hp he hh => exact h.host hp he hh
  | emit _ b ih => exact ih.emit b
  | host _ hp he hh ih => exact ih.host hp he hh

/-- A fold of quiet actions is quiet. -/
theorem foldl {α : Type} {f : State → α → State} (hf : ∀ s a, Quiet s (f s a)) (l : List α) (s : State) :
    Quiet s (l.foldl f s) := by
  induction l generalizing s with
  | nil => exact .refl s
  | cons a l ih => exact (hf s a).trans (ih _)

/-- The pending commands are as they were. -/
theorem pending {s t : State} (h : Quiet s t) : t.pending = s.pending := by
  induction h with
  | same hp _ _ => exact hp
  | emit _ b ih => rw [State.emit_pending]; exact ih
  | host _ hp _ _ ih => rw [hp]; exact ih

end Quiet

variable (s : State)

/-! ## Records and tables -/

theorem State.modSt_quiet (k : StationIx) (f : Station → Station) : Quiet s (s.modSt k f) := .same rfl rfl rfl
theorem State.modAll_quiet (f : Station → Station) : Quiet s (s.modAll f) :=
  .foldl (fun s k => s.modSt_quiet k f) _ s
theorem State.eachStation_quiet {f : State → StationIx → State} (hf : ∀ s k, Quiet s (f s k)) :
    Quiet s (s.eachStation f) := .foldl hf _ s
theorem State.emit_quiet (b : EventBody) : Quiet s (s.emit b) := (Quiet.refl s).emit b
theorem State.modEntry_quiet (i : SlotIx) (f : Entry → Entry) : Quiet s (s.modEntry i f) := .same rfl rfl rfl
theorem State.removeEntry_quiet (i : SlotIx) : Quiet s (s.removeEntry i) := .same rfl rfl rfl
theorem State.dropUrgent_quiet (p : UrgentFrame → Bool) : Quiet s (s.dropUrgent p) := .same rfl rfl rfl
theorem State.placeUrgent_quiet (k : StationIx) (x : UrgentKind) : Quiet s (s.placeUrgent k x) := .same rfl rfl rfl
theorem State.setLockout_quiet (k : StationIx) (n : Nat) : Quiet s (s.setLockout k n) := .same rfl rfl rfl
theorem State.modModel_quiet (k : StationIx) (f : CycleModel → CycleModel) : Quiet s (s.modModel k f) := .same rfl rfl rfl
theorem State.emptyRing_quiet : Quiet s s.emptyRing := .same rfl rfl rfl
theorem State.takeWeight_quiet (p : Plan) : Quiet s (s.takeWeight p) := .same rfl rfl rfl
theorem State.stage_quiet (g : Option Nat) : Quiet s (s.stage g) := .same rfl rfl rfl
theorem State.clearRejection_quiet : Quiet s s.clearRejection := .same rfl rfl rfl
theorem State.setOverride_quiet (g : Option Nat) : Quiet s (s.setOverride g) := .same rfl rfl rfl
theorem State.setEnable_quiet (b : Bool) : Quiet s (s.setEnable b) := .same rfl rfl rfl
theorem State.setClock_quiet (d n : Nat) : Quiet s (s.setClock d n) := .same rfl rfl rfl
theorem State.moveTarget_quiet (p : Plan) (k : StationIx) : Quiet s (s.moveTarget p k) := .same rfl rfl rfl

theorem State.addEntry_quiet (mk : SlotIx → Entry) : Quiet s (s.addEntry mk) := by
  unfold State.addEntry
  split
  · split
    · exact .same rfl rfl rfl
    · exact .refl s
  · exact .refl s

theorem State.judgeAll_quiet : Quiet s s.judgeAll := by
  unfold State.judgeAll
  apply Quiet.foldl
  intro t i
  exact .same rfl rfl rfl

/-! ## Grants -/

theorem State.grantEntry_quiet (e : Entry) (g : GrantKind) (b : Bool) : Quiet s (s.grantEntry e g b) :=
  (s.modEntry_quiet _ _).emit _

theorem State.tryGrant_quiet {k : StationIx} {p : Plan} {m : CycleModel} {c : Course} {e : Entry} {t : State}
    (h : s.tryGrant k p m c e = some t) : Quiet s t := by
  unfold State.tryGrant at h
  dsimp only at h
  split at h
  · cases h; exact s.grantEntry_quiet _ _ _
  · cases h
  · split at h
    · cases h
    · simp only [Option.map_eq_some_iff] at h
      obtain ⟨r, -, rfl⟩ := h
      exact (((s.modSt_quiet _ _).trans (State.placeUrgent_quiet _ _ _)).trans (State.setLockout_quiet _ _ _)).trans
        (State.grantEntry_quiet _ _ _ _)

theorem State.grantFirst_quiet (k : StationIx) (p : Plan) (m : CycleModel) (c : Course) (l : List Entry) :
    Quiet s (s.grantFirst k p m c l) := by
  induction l with
  | nil => exact .refl s
  | cons e es ih =>
    unfold State.grantFirst
    cases h : s.tryGrant k p m c e with
    | none => exact ih
    | some t => exact s.tryGrant_quiet h

theorem State.evaluateTransit_quiet (k : StationIx) : Quiet s (s.evaluateTransit k) := by
  unfold State.evaluateTransit
  dsimp only
  split
  · split
    · split
      · exact s.grantFirst_quiet _ _ _ _ _
      · exact .refl s
    · exact .refl s
  · exact .refl s

theorem State.withdrawGrant_quiet (i : SlotIx) : Quiet s (s.withdrawGrant i) := by
  unfold State.withdrawGrant
  split
  · split
    · exact (((s.modEntry_quiet _ _).trans (State.setLockout_quiet _ _ _)).emit _).trans (State.evaluateTransit_quiet _ _)
    · exact .refl s
  · exact .refl s

theorem State.grantDelivered_quiet (i : SlotIx) : Quiet s (s.grantDelivered i) := s.modEntry_quiet _ _

theorem State.foldLost_quiet (f : Option Fold) : Quiet s (s.foldLost f) := by
  cases f
  · exact .refl s
  · exact s.withdrawGrant_quiet _

theorem State.foldDelivered_quiet (f : Option Fold) : Quiet s (s.foldDelivered f) := by
  cases f
  · exact .refl s
  · exact s.grantDelivered_quiet _

theorem State.foldFirst_quiet (k : StationIx) (p : Plan) (z : Tick) (ivs : List Nat) (l : List Entry) :
    Quiet s (s.foldFirst k p z ivs l).1 := by
  induction l with
  | nil => exact .refl s
  | cons e es ih =>
    unfold State.foldFirst
    dsimp only
    split
    · exact s.grantEntry_quiet _ _ _
    · exact ih
    · split
      · exact .refl s
      · exact (s.setLockout_quiet _ _).trans (State.grantEntry_quiet _ _ _ _)

theorem State.offerFold_quiet (k : StationIx) (p : Plan) (z : Tick) (ivs : List Nat) : Quiet s (s.offerFold k p z ivs).1 := by
  unfold State.offerFold
  split
  · exact s.foldFirst_quiet _ _ _ _ _
  · exact .refl s

theorem State.refold_quiet (k : StationIx) (p : Plan) (z : Tick) (ivs : List Nat) (f : Fold) :
    Quiet s (s.refold k p z ivs f).1 := by
  unfold State.refold
  dsimp only
  split
  · exact .refl s
  · split
    · exact s.withdrawGrant_quiet _
    · split
      · exact s.modEntry_quiet _ _
      · exact (s.modEntry_quiet _ _).trans (State.setLockout_quiet _ _ _)

/-! ## Holds -/

theorem State.withdrawOrder_quiet (k : StationIx) : Quiet s (s.withdrawOrder k) := by
  unfold State.withdrawOrder
  split
  · exact (s.modSt_quiet _ _).trans (State.foldLost_quiet _ _)
  · exact .refl s

theorem State.clearRevise_quiet (k : StationIx) : Quiet s (s.clearRevise k) :=
  (s.modSt_quiet _ _).trans (State.dropUrgent_quiet _ _)

theorem State.withdrawRevise_quiet (k : StationIx) : Quiet s (s.withdrawRevise k) := by
  unfold State.withdrawRevise
  split
  · exact (s.clearRevise_quiet _).trans (State.withdrawGrant_quiet _ _)
  · exact .refl s

theorem State.setCoord_quiet (k : StationIx) (c : Coord) (x : StateCause) : Quiet s (s.setCoord k c x) := by
  unfold State.setCoord
  split
  · exact .refl s
  · exact (s.modSt_quiet _ _).emit _

theorem State.enterFree_quiet (k : StationIx) (x : StateCause) : Quiet s (s.enterFree k x) :=
  (((s.setCoord_quiet _ _ _).trans (State.modSt_quiet _ _ _)).trans (State.withdrawOrder_quiet _ _)).trans
    (State.withdrawRevise_quiet _ _)

theorem State.leaveFree_quiet (k : StationIx) (x : StateCause) : Quiet s (s.leaveFree k x) := by
  unfold State.leaveFree
  dsimp only
  split
  · exact (s.modSt_quiet _ _).trans (State.setCoord_quiet _ _ _ _)
  · exact .refl s

theorem State.holdChanged_quiet (k : StationIx) : Quiet s (s.holdChanged k) := by
  unfold State.holdChanged
  dsimp only
  split
  · split
    · split
      · exact (((s.setCoord_quiet _ _ _).trans (State.modSt_quiet _ _ _)).trans (State.withdrawOrder_quiet _ _)).trans
          (State.withdrawRevise_quiet _ _)
      · exact .refl s
    · split
      · exact (s.modSt_quiet _ _).trans (State.setCoord_quiet _ _ _ _)
      · exact .refl s
  · exact .refl s

theorem State.rehold_quiet (k : StationIx) : Quiet s (s.rehold k) := by
  unfold State.rehold
  dsimp only
  split
  · exact .refl s
  · exact (s.modSt_quiet _ _).trans (State.holdChanged_quiet _ _)

theorem State.reholdAll_quiet : Quiet s s.reholdAll := s.eachStation_quiet fun s k => s.rehold_quiet k

/-! ## Requests -/

theorem State.letGo_quiet (e : Entry) : Quiet s (s.letGo e) := by
  unfold State.letGo
  dsimp only
  split
  · refine Quiet.trans ?_ (State.modSt_quiet _ _ _)
    split
    · exact s.clearRevise_quiet _
    · exact .refl s
  · exact .refl s

theorem State.leave_quiet (e : Entry) (o : ReqOutcome) : Quiet s (s.leave e o) := by
  have h1 : ∀ t : State, Quiet t (if e.posted then t.dropUrgent (·.isPreempt e.slot) else t) := by
    intro t
    split
    · exact t.dropUrgent_quiet _
    · exact .refl t
  exact (((s.emit_quiet _).trans (State.letGo_quiet _ _)).trans (h1 _)).trans (State.removeEntry_quiet _ _)

theorem State.routeEnded_quiet (k : StationIx) : Quiet s (s.routeEnded k) :=
  (s.modSt_quiet _ _).trans (State.rehold_quiet _ _)

theorem State.endEntry_quiet (e : Entry) (o : ReqOutcome) : Quiet s (s.endEntry e o) := by
  unfold State.endEntry
  dsimp only
  split
  · exact (s.leave_quiet _ _).trans (State.routeEnded_quiet _ _)
  · exact s.leave_quiet _ _

theorem State.supersede_quiet (k : StationIx) : Quiet s (s.supersede k) := by
  unfold State.supersede
  split
  · exact s.endEntry_quiet _ _
  · exact .refl s

theorem State.post_quiet (e : Entry) : Quiet s (s.post e) := (s.placeUrgent_quiet _ _).trans (State.modEntry_quiet _ _ _)
theorem State.unpost_quiet (e : Entry) : Quiet s (s.unpost e) := (s.dropUrgent_quiet _).trans (State.modEntry_quiet _ _ _)

theorem State.activateEmergency_quiet (e : Entry) : Quiet s (s.activateEmergency e) :=
  (s.supersede_quiet _).trans (State.modEntry_quiet _ _ _)

theorem State.takeUp?_quiet {k : StationIx} {t : State} (h : s.takeUp? k = some t) : Quiet s t := by
  unfold State.takeUp? at h
  split at h
  · split at h
    · cases h
    · split at h
      · cases h; exact s.activateEmergency_quiet _
      · split at h
        · cases h; exact s.post_quiet _
        · cases h
  · cases h

theorem State.takeUp_quiet (k : StationIx) : Quiet s (s.takeUp k) := by
  unfold State.takeUp
  cases h : s.takeUp? k with
  | none => exact .refl s
  | some t => exact s.takeUp?_quiet h

theorem State.resume_quiet (k : StationIx) (a b : Bool) : Quiet s (s.resume k a b) := by
  unfold State.resume
  split
  · split
    · rename_i t ht
      exact s.takeUp?_quiet ht
    · exact s.evaluateTransit_quiet _
  · split
    · exact s.takeUp_quiet _
    · exact .refl s

theorem State.leaveSlot_quiet (i : SlotIx) (o : ReqOutcome) : Quiet s (s.leaveSlot i o) := by
  unfold State.leaveSlot
  split
  · exact s.leave_quiet _ _
  · exact .refl s

theorem State.depart_quiet (i : SlotIx) (o : ReqOutcome) : Quiet s (s.depart i o) := by
  unfold State.depart
  split
  · exact (s.endEntry_quiet _ _).trans (State.resume_quiet _ _ _ _)
  · exact .refl s

theorem State.departAll_quiet (p : Entry → Bool) (o : ReqOutcome) : Quiet s (s.departAll p o) :=
  ((Quiet.foldl (fun s i => s.leaveSlot_quiet i o) _ s).trans (State.eachStation_quiet _ fun s k => by
    split
    · exact s.routeEnded_quiet k
    · exact .refl s)).trans (State.eachStation_quiet _ fun s k => s.resume_quiet k _ _)

theorem State.displace_quiet (n : Nat) : Quiet s (s.displace n) := .foldl (fun s i => s.depart_quiet i _) _ s

/-! ## The corridor -/

theorem State.reject_quiet (g : Nat) : Quiet s (s.reject g) := by
  unfold State.reject
  split
  · exact .refl s
  · exact (s.emit_quiet _).trans (.same rfl rfl rfl)

theorem State.planEvaluation_quiet : Quiet s s.planEvaluation := by
  unfold State.planEvaluation
  dsimp only
  repeat' split
  all_goals first
    | exact .refl s
    | exact s.clearRejection_quiet
    | exact s.reject_quiet _
    | exact (s.stage_quiet _).trans (State.clearRejection_quiet _)

theorem State.enterRunning_quiet (r : Reason) : Quiet s (s.enterRunning r) := by
  unfold State.enterRunning
  dsimp only
  split
  · exact .refl s
  · refine .trans ?_ (State.eachStation_quiet _ fun s k => s.leaveFree_quiet k _)
    refine .trans ?_ (State.takeWeight_quiet _ _)
    refine .trans ?_ (State.emptyRing_quiet _)
    refine .trans ?_ (State.modAll_quiet _ _)
    refine .emit ?_ _
    refine .emit ?_ _
    exact .same rfl rfl rfl

theorem State.enterIdle_quiet : Quiet s s.enterIdle := by
  have h : ∀ t : State, Quiet t (if t.mayRun then t.enterRunning .restart else t) := by
    intro t
    split
    · exact t.enterRunning_quiet _
    · exact .refl t
  unfold State.enterIdle
  dsimp only
  refine .trans ?_ (h _)
  refine .trans ?_ (State.planEvaluation_quiet _)
  refine .emit ?_ _
  refine .trans ?_ (State.emptyRing_quiet _)
  refine .trans ?_ (State.modAll_quiet _ _)
  exact .same rfl rfl rfl

theorem State.settle_quiet : Quiet s s.settle := by
  unfold State.settle
  split
  · exact s.enterIdle_quiet
  · exact .refl s

theorem State.placeRelease_quiet (k : StationIx) : Quiet s (s.placeRelease k) := s.modSt_quiet _ _

theorem State.releaseStation_quiet (k : StationIx) : Quiet s (s.releaseStation k) := by
  unfold State.releaseStation
  split
  · exact .refl s
  · exact (s.withdrawOrder_quiet _).trans (State.placeRelease_quiet _ _)

theorem State.enterStopping_quiet (r : Reason) : Quiet s (s.enterStopping r) := by
  unfold State.enterStopping
  dsimp only
  refine .trans ?_ (State.settle_quiet _)
  refine .trans ?_ (State.departAll_quiet _ _ _)
  refine .trans ?_ (State.eachStation_quiet _ fun s k => s.releaseStation_quiet k)
  refine .trans ?_ (State.stage_quiet _ _)
  refine .emit ?_ _
  exact .same rfl rfl rfl

theorem State.evaluate_quiet (r : Reason) : Quiet s (s.evaluate r) := by
  have h : ∀ t : State, Quiet t (match t.ps.corridor with
      | .idle => if t.mayRun then t.enterRunning r else t
      | .running => if t.mayRun then t else t.enterStopping r
      | .stopping => t) := by
    intro t
    cases t.ps.corridor <;> dsimp only
    · split
      · exact t.enterRunning_quiet _
      · exact .refl t
    · split
      · exact .refl t
      · exact t.enterStopping_quiet _
    · exact .refl t
  exact s.planEvaluation_quiet.trans (h _)

theorem State.takeOver_quiet (g : Nat) : Quiet s (s.takeOver g) := by
  have h : ∀ t : State, Quiet t (match t.activePlan with
      | some p => t.takeWeight p
      | none => t) := by
    intro t
    split
    · exact t.takeWeight_quiet _
    · exact .refl t
  unfold State.takeOver
  dsimp only
  refine .trans ?_ (h _)
  refine .trans ?_ (State.emptyRing_quiet _)
  refine .trans ?_ (State.modAll_quiet _ _)
  refine .emit ?_ _
  exact .same rfl rfl rfl

theorem State.loseLink_quiet (k : StationIx) (c : LossCause) : Quiet s (s.loseLink k c) := by
  have h1 : ∀ t : State, Quiet t (match t.postedAt k with
      | some e => (t.unpost e).takeUp k
      | none => t) := by
    intro t
    split
    · exact (t.unpost_quiet _).trans (State.takeUp_quiet _ _)
    · exact .refl t
  have h2 : ∀ t : State, Quiet t (if t.activePlan.any (·.tidalAt k) then t.emptyRing else t) := by
    intro t
    split
    · exact t.emptyRing_quiet
    · exact .refl t
  unfold State.loseLink
  dsimp only
  refine .trans ?_ (h2 _)
  refine .trans ?_ (State.modSt_quiet _ _ _)
  refine .trans ?_ (State.settle_quiet _)
  refine .trans ?_ (State.dropUrgent_quiet _ _)
  refine .trans ?_ (State.modSt_quiet _ _ _)
  refine .trans ?_ (h1 _)
  refine .trans ?_ (State.modSt_quiet _ _ _)
  refine .trans ?_ (State.enterFree_quiet _ _ _)
  exact .emit (State.modSt_quiet _ _ _) _

theorem State.discardExchange_quiet (p : StationIx → Bool) : Quiet s (s.discardExchange p) := .same rfl rfl rfl

theorem State.resetLink_quiet (k : StationIx) (c : LossCause) : Quiet s (s.resetLink k c) := by
  have h : ∀ t : State, Quiet t (if (t.st k).link = .online then t.loseLink k c else t) := by
    intro t
    split
    · exact t.loseLink_quiet _ _
    · exact .refl t
  exact ((h s).trans (State.modSt_quiet _ _ _)).trans (State.discardExchange_quiet _ _)

/-! ## The tracker -/

theorem State.tidalEvaluation_quiet : Quiet s s.tidalEvaluation := by
  unfold State.tidalEvaluation
  dsimp only
  repeat' split
  · exact .refl s
  · refine .emit ?_ _
    exact .same rfl rfl rfl
  · exact .refl s

theorem State.tidalZero_quiet : Quiet s s.tidalZero := by
  unfold State.tidalZero
  dsimp only
  split
  · refine .trans ?_ (State.tidalEvaluation_quiet _)
    exact .same rfl rfl rfl
  · exact .same rfl rfl rfl

theorem State.handOn_quiet (k : StationIx) : Quiet s (s.handOn k) := by
  have h : ∀ t : State, Quiet t (if t.activePlan.any (·.tidalAt k) then t.tidalZero else t) := by
    intro t
    split
    · exact t.tidalZero_quiet
    · exact .refl t
  exact (((s.modSt_quiet _ _).trans (h _)).trans (State.modSt_quiet _ _ _)).trans (State.evaluateTransit_quiet _ _)

theorem State.takeZero_quiet (k : StationIx) (m : CycleModel) (n : Byte) (t : Tick) : Quiet s (s.takeZero k m n t) := by
  unfold State.takeZero
  dsimp only
  split
  · exact s.modSt_quiet _ _
  · exact (s.modSt_quiet _ _).trans (State.handOn_quiet _ _)

theorem State.rebuildOrder_quiet (k : StationIx) (o : WaitingOrder) (b : OrderBody) (p : Plan) (z : Tick) :
    Quiet s (s.rebuildOrder k o b p z) := by
  unfold State.rebuildOrder
  dsimp only
  refine Quiet.trans ?_ (State.modSt_quiet _ _ _)
  split
  · exact (s.modSt_quiet _ _).trans (State.offerFold_quiet _ _ _ _ _)
  · exact (s.modSt_quiet _ _).trans (State.refold_quiet _ _ _ _ _ _)

theorem State.orderAfterResync_quiet (k : StationIx) : Quiet s (s.orderAfterResync k) := by
  unfold State.orderAfterResync
  dsimp only
  repeat' split
  all_goals first
    | exact .refl s
    | exact ((s.modSt_quiet _ _).emit _).trans (State.foldLost_quiet _ _)
    | exact s.modSt_quiet _ _
    | exact s.rebuildOrder_quiet _ _ _ _ _

theorem State.reviseAfterResync_quiet (k : StationIx) : Quiet s (s.reviseAfterResync k) := by
  unfold State.reviseAfterResync
  dsimp only
  repeat' split
  all_goals first
    | exact .refl s
    | exact s.withdrawRevise_quiet _
    | exact s.modSt_quiet _ _

theorem State.createModel_quiet (k : StationIx) (t : Tick) (n : Byte) (c : Nat) : Quiet s (s.createModel k t n c) :=
  .same rfl rfl rfl

theorem State.markResync_quiet (k : StationIx) (t : Tick) : Quiet s (s.markResync k t) := by
  unfold State.markResync
  split
  · exact .same rfl rfl rfl
  · exact .refl s

theorem State.resync_quiet (k : StationIx) (m : CycleModel) (t : Tick) (n : Byte) (c : Nat) (w : Bool) :
    Quiet s (s.resync k m t n c w) := by
  unfold State.resync
  dsimp only
  refine Quiet.trans ?_ (State.reviseAfterResync_quiet _ _)
  refine Quiet.trans ?_ (State.orderAfterResync_quiet _ _)
  refine Quiet.trans ?_ (State.markResync_quiet _ _ _)
  refine Quiet.trans ?_ (State.modSt_quiet _ _ _)
  have h : Quiet s ((if 0 < numberStep n m.number then s.takeZero k m n t
      else if numberStep n m.number < 0 then s.modModel k fun m => { m with number := n, next := none } else s)) := by
    repeat' split
    · exact s.takeZero_quiet _ _ _ _
    · exact s.modModel_quiet _ _
    · exact .refl s
  split
  · exact (h.trans (State.modModel_quiet _ _ _)).emit _
  · exact h.trans (State.modModel_quiet _ _ _)

theorem State.cyclePart_quiet (k : StationIx) (t : Tick) (n : Byte) (c : Nat) (w : Bool) : Quiet s (s.cyclePart k t n c w) := by
  unfold State.cyclePart
  dsimp only
  repeat' split
  all_goals first
    | exact .refl s
    | exact s.createModel_quiet _ _ _ _
    | exact s.resync_quiet _ _ _ _ _ _

/-! ## The cycle's events and the slot -/

theorem State.project_quiet (k : StationIx) (p : Plan) (d : Nat) (tr : Transition) : Quiet s (s.project k p d tr) :=
  (s.modSt_quiet _ _).trans (State.setCoord_quiet _ _ _ _)

theorem State.buildOrder_quiet (k : StationIx) (g : Nat) (p : Plan) (n : Byte) (z : Tick) : Quiet s (s.buildOrder k g p n z) := by
  unfold State.buildOrder
  dsimp only
  exact (((s.modSt_quiet _ _).trans (State.moveTarget_quiet _ _ _)).trans ((State.project_quiet _ _ _ _ _).trans
    (State.offerFold_quiet _ _ _ _ _))).trans (State.modSt_quiet _ _ _)

theorem State.raiseOrderPoint_quiet (k : StationIx) (n : Byte) (z : Tick) : Quiet s (s.raiseOrderPoint k n z) := by
  unfold State.raiseOrderPoint
  repeat' split
  all_goals first
    | exact .refl s
    | exact s.buildOrder_quiet _ _ _ _ _
    | exact s.modSt_quiet _ _

theorem State.dropOrder_quiet (k : StationIx) (o : WaitingOrder) : Quiet s (s.dropOrder k o) := by
  unfold State.dropOrder
  dsimp only
  split
  · exact ((s.modSt_quiet _ _).emit _).trans (State.foldLost_quiet _ _)
  · exact (((s.modSt_quiet _ _).emit _).trans (State.enterFree_quiet _ _ _)).trans (State.settle_quiet _)

theorem State.comeDue_quiet (e : Entry) : Quiet s (s.comeDue e) := by
  unfold State.comeDue
  split
  · exact s.post_quiet _
  · exact (s.modEntry_quiet _ _).trans (State.takeUp_quiet _ _)

theorem State.beginExchange_quiet (k : StationIx) (f : SentFrame) : Quiet s (s.beginExchange k f) := .same rfl rfl rfl

theorem State.startSlot_quiet : Quiet s s.startSlot := by
  unfold State.startSlot
  repeat' split
  all_goals first
    | exact .refl s
    | exact .same rfl rfl rfl

/-! ## The end of an exchange -/

theorem State.clearOrder_quiet (k : StationIx) (w : Bool) : Quiet s (s.clearOrder k w) := by
  unfold State.clearOrder
  split
  · exact s.modSt_quiet _ _
  · exact .refl s

theorem State.deliverOrder_quiet (k : StationIx) (o : WaitingOrder) (b : OrderBody) : Quiet s (s.deliverOrder k o b) :=
  ((s.clearOrder_quiet _ _).trans (State.modModel_quiet _ _ _)).trans (State.foldDelivered_quiet _ _)

theorem State.deliverRelease_quiet (k : StationIx) (o : WaitingOrder) : Quiet s (s.deliverRelease k o) := by
  unfold State.deliverRelease
  dsimp only
  split
  · exact (((s.clearOrder_quiet _ _).trans (State.modModel_quiet _ _ _)).trans (State.enterFree_quiet _ _ _)).trans
      (State.settle_quiet _)
  · exact (s.clearOrder_quiet _ _).trans (State.modModel_quiet _ _ _)

theorem State.retimeOrder_quiet (k : StationIx) : Quiet s (s.retimeOrder k) := by
  unfold State.retimeOrder
  repeat' split
  all_goals first
    | exact .refl s
    | exact s.modSt_quiet _ _

theorem State.deliverRevise_quiet (k : StationIx) (r : WaitingRevise) (f : UrgentFrame) : Quiet s (s.deliverRevise k r f) := by
  have h : ∀ t : State, Quiet t (if (t.st k).model.any (·.number = r.number) then
      ((t.modModel k (·.revised r.course)).retimeOrder k).grantDelivered r.slot else t.withdrawGrant r.slot) := by
    intro t
    split
    · exact ((t.modModel_quiet _ _).trans (State.retimeOrder_quiet _ _)).trans (State.grantDelivered_quiet _ _)
    · exact t.withdrawGrant_quiet _
  unfold State.deliverRevise
  refine .trans ?_ (h _)
  split
  · exact s.clearRevise_quiet _
  · exact .refl s

theorem State.deliverPreempt_quiet (i : SlotIx) (f : UrgentFrame) (t : Tick) : Quiet s (s.deliverPreempt i f t) := by
  unfold State.deliverPreempt
  dsimp only
  repeat' split
  all_goals first
    | exact .refl s
    | exact ((((s.dropUrgent_quiet _).trans (State.supersede_quiet _ _)).trans (State.modEntry_quiet _ _ _)).trans
        (State.modSt_quiet _ _ _)).trans (State.rehold_quiet _ _)

theorem State.deliver_quiet (x : Exchange) : Quiet s (s.deliver x) := by
  unfold State.deliver
  repeat' split
  all_goals first
    | exact .refl s
    | exact s.deliverOrder_quiet _ _ _
    | exact s.deliverRelease_quiet _ _
    | exact s.deliverRevise_quiet _ _ _
    | exact s.deliverPreempt_quiet _ _ _

theorem State.exchangeFailed_quiet (k : StationIx) (c : FailureCause) : Quiet s (s.exchangeFailed k c) := by
  unfold State.exchangeFailed
  dsimp only
  split
  · exact (s.modSt_quiet _ _).trans (State.loseLink_quiet _ _ _)
  · exact (s.modSt_quiet _ _).trans (State.modSt_quiet _ _ _)

theorem State.linkSuccess_quiet (k : StationIx) : Quiet s (s.linkSuccess k) := by
  unfold State.linkSuccess
  dsimp only
  split
  · exact (s.modSt_quiet _ _).emit _
  · exact s.modSt_quiet _ _

theorem State.takeFlags_quiet (k : StationIx) (r : Status) : Quiet s (s.takeFlags k r) :=
  (s.modSt_quiet _ _).trans (State.rehold_quiet _ _)

theorem State.linkReturn_quiet (k : StationIx) (b : Bool) : Quiet s (s.linkReturn k b) := by
  unfold State.linkReturn
  split
  · exact (s.leaveFree_quiet _ _).trans (State.takeUp_quiet _ _)
  · exact .refl s

theorem State.takeMeasures_quiet (k : StationIx) (r : Status) : Quiet s (s.takeMeasures k r) := by
  have h : ∀ t : State, Quiet t (t.takeCounts k r) := by
    intro t
    unfold State.takeCounts
    split
    · exact .same rfl rfl rfl
    · exact .refl t
  exact (s.modSt_quiet _ _).trans (h _)

theorem State.transitNotice_quiet (k : StationIx) (t : Tick) (n : Notice) : Quiet s (s.transitNotice k t n) := by
  unfold State.transitNotice
  repeat' split
  all_goals first
    | exact .refl s
    | exact s.emit_quiet _
    | exact (s.addEntry_quiet _).trans (State.evaluateTransit_quiet _ _)

theorem State.enterEmergency_quiet (k : StationIx) (t : Tick) (n : Notice) : Quiet s (s.enterEmergency k t n) := by
  unfold State.enterEmergency
  dsimp only
  split
  · exact .refl s
  · split
    · exact s.addEntry_quiet _
    · split
      · exact ((s.addEntry_quiet _).trans (State.unpost_quiet _ _)).trans (State.activateEmergency_quiet _ _)
      · exact (s.addEntry_quiet _).trans (State.activateEmergency_quiet _ _)

theorem State.emergencyNotice_quiet (k : StationIx) (t : Tick) (n : Notice) : Quiet s (s.emergencyNotice k t n) := by
  unfold State.emergencyNotice
  repeat' split
  all_goals first
    | exact s.enterEmergency_quiet _ _ _
    | exact s.emit_quiet _
    | exact (s.displace_quiet _).trans (State.enterEmergency_quiet _ _ _ _)

theorem State.takeNotice_quiet (k : StationIx) (t : Tick) (n : Notice) : Quiet s (s.takeNotice k t n) := by
  unfold State.takeNotice
  repeat' split
  all_goals first
    | exact .refl s
    | exact s.transitNotice_quiet _ _ _
    | exact s.emergencyNotice_quiet _ _ _

theorem State.checkOut_quiet (k : StationIx) (tag : Word16) : Quiet s (s.checkOut k tag) := by
  unfold State.checkOut
  split
  · exact s.depart_quiet _ _
  · exact .refl s

theorem State.observePreempt_quiet (k : StationIx) (b : Bool) : Quiet s (s.observePreempt k b) := by
  unfold State.observePreempt
  repeat' split
  all_goals first
    | exact .refl s
    | exact s.modEntry_quiet _ _
    | exact s.depart_quiet _ _

theorem State.takePriority_quiet (k : StationIx) (t : Tick) (r : Status) : Quiet s (s.takePriority k t r) := by
  unfold State.takePriority
  dsimp only
  exact ((Quiet.foldl (fun s n => s.takeNotice_quiet k t n) _ s).trans
    (Quiet.foldl (fun s tag => s.checkOut_quiet k tag) _ _)).trans (State.observePreempt_quiet _ _ _)

theorem State.exchangeSucceeded_quiet (x : Exchange) (r : Status) (a b : Bool) : Quiet s (s.exchangeSucceeded x r a b) := by
  have h1 : ∀ (t : State) (back : Bool), Quiet t (if a then (t.linkReturn x.station back).takeFlags x.station r
      else (t.takeFlags x.station r).linkReturn x.station back) := by
    intro t back
    split
    · exact (t.linkReturn_quiet _ _).trans (State.takeFlags_quiet _ _ _)
    · exact (t.takeFlags_quiet _ _).trans (State.linkReturn_quiet _ _ _)
  have h2 : ∀ t : State, Quiet t (if b then (t.takeMeasures x.station r).cyclePart x.station x.slotTick r.number r.time
          ((s.deliver x).st x.station).synced
      else (t.cyclePart x.station x.slotTick r.number r.time ((s.deliver x).st x.station).synced).takeMeasures x.station r) := by
    intro t
    split
    · exact (t.takeMeasures_quiet _ _).trans (State.cyclePart_quiet _ _ _ _ _ _)
    · exact (t.cyclePart_quiet _ _ _ _ _).trans (State.takeMeasures_quiet _ _ _)
  exact ((((s.deliver_quiet x).trans (State.linkSuccess_quiet _ _)).trans (h1 _ _)).trans (h2 _)).trans
    (State.takePriority_quiet _ _ _ _)

theorem State.takeResult_quiet (x : Exchange) (h : List Byte) (a b : Bool) : Quiet s (s.takeResult x h a b) := by
  unfold State.takeResult
  repeat' split
  all_goals first
    | exact .refl _
    | exact State.exchangeFailed_quiet _ _ _
    | exact State.exchangeSucceeded_quiet _ _ _ _ _

theorem State.clearExchange_quiet : Quiet s s.clearExchange := .same rfl rfl rfl

theorem State.endExchange_quiet (x : Exchange) (h : List Byte) (a b : Bool) : Quiet s (s.endExchange x h a b) :=
  (s.takeResult_quiet x h a b).trans (State.clearExchange_quiet _)

/-! ## The requests' own work -/

theorem State.defineCorridor_quiet (n : Nat) : Quiet s (s.defineCorridor n) := by
  have h1 : Quiet s s.reportRedefined := by
    refine s.eachStation_quiet fun t k => ?_
    split
    · exact t.emit_quiet _
    · exact .refl t
  have h2 : ∀ t : State, Quiet t t.reportCancelled := fun t => .foldl (fun t e => t.emit_quiet _) _ t
  have h3 : ∀ t : State, Quiet t t.discardStations := fun t => .same rfl rfl rfl
  have h4 : ∀ t : State, Quiet t { t with count := some n } := fun t => .same rfl rfl rfl
  exact (((h1.trans (h2 _)).trans (h3 _)).trans (h4 _)).trans (State.judgeAll_quiet _)

theorem State.loadStation_quiet (k : StationIx) (c : StationConfig) : Quiet s (s.loadStation k c) := by
  have h1 : ∀ (t : State) (q : Bool), Quiet t (if q then t.resetLink k .readdressed else t) := by
    intro t q
    cases q
    · exact .refl t
    · exact t.resetLink_quiet _ _
  have h2 : ∀ (t : State) (q : Bool), Quiet t (if q then t.modSt k (·.restructure) else t) := by
    intro t q
    cases q
    · exact .refl t
    · exact t.modSt_quiet _ _
  unfold State.loadStation
  dsimp only
  refine .trans ?_ (State.judgeAll_quiet _)
  refine .trans ?_ (State.rehold_quiet _ _)
  refine .trans ?_ (h2 _ _)
  refine .trans ?_ (h1 _ _)
  exact s.modSt_quiet _ _

theorem State.holdStation_quiet (k : StationIx) (b : Bool) : Quiet s (s.holdStation k b) :=
  (s.modSt_quiet _ _).trans (State.rehold_quiet _ _)

theorem State.setIncident_quiet (p : Polarity) (g : Nat) : Quiet s (s.setIncident p g) := by
  unfold State.setIncident
  dsimp only
  refine .trans ?_ (State.reholdAll_quiet _)
  refine .trans ?_ (State.eachStation_quiet _ fun t k => t.modSt_quiet _ _)
  exact .same rfl rfl rfl

theorem State.addRoute_quiet (r : RouteFields) (l : List StationIx) : Quiet s (s.addRoute r l).2 := by
  induction l generalizing s with
  | nil => exact .refl s
  | cons k ks ih =>
    unfold State.addRoute
    split
    · exact ih s
    · exact (s.addEntry_quiet _).trans (ih _)

theorem State.clearRoute_quiet (r : RouteFields) : Quiet s (s.clearRoute r).2 :=
  (s.displace_quiet _).trans (State.addRoute_quiet _ _ _)

theorem State.restore_quiet (i : StoredItems) : Quiet s (s.restore i) := by
  unfold State.restore
  dsimp only
  refine .trans ?_ (State.eachStation_quiet _ fun t k => t.modSt_quiet _ _)
  exact .same rfl rfl rfl

theorem State.handOver_quiet (l : Bool) : Quiet s (s.handOver l) := by
  have h : ∀ t : State, Quiet t { t with ps := { t.ps with enable := t.ps.autostart }, hl := { t.hl with level := l } } :=
    fun t => .same rfl rfl rfl
  unfold State.handOver
  dsimp only
  refine .trans ?_ (State.evaluate_quiet _ _)
  refine .trans ?_ (State.reholdAll_quiet _)
  exact s.judgeAll_quiet.trans (h _)

/-- A reset leaves the pending commands alone, and writes to an empty event queue and an idle host link. -/
theorem State.afterReset_quiet (i : Image) (tb : TimeBase) (l : Bool) :
    Quiet { s with eq := State.reset.eq, hli := State.reset.hli } (s.afterReset i tb l) := by
  have h : ∀ t r : State, Quiet { t with eq := r.eq, hli := r.hli }
      { r with pending := t.pending, tb, cs := { image := i, saving := none } } := fun t r => .same rfl rfl rfl
  exact ((h s State.reset).trans (State.restore_quiet _ _)).trans (State.handOver_quiet _ _)

end Sys2Proof.Machine
end

