-- ==== Sys2Proof/Laws/Host.lean ====
section
/-! SUPPORT. What the host link's shared operations do: a frame that is taken at once, the reply that is placed, and a frame that
waits. -/

namespace Sys2Proof.Machine

/-- A frame being sent has its content: no notice stands at the head of the transmit queue without its count (R153). -/
abbrev State.begun (s : State) : Prop := s.hli.transmit.head? ≠ some (.notice none)

theorem State.beginHead_of_begun {s : State} (h : s.begun) : s.beginHead = s := by
  unfold State.beginHead
  split
  · next rest heq => exact absurd (by simp [heq]) h
  · rfl

theorem State.beginHead_begun (s : State) : s.beginHead.begun := by
  unfold State.beginHead
  split
  · simp [State.begun]
  · next h =>
    intro hh
    match hx : s.hli.transmit with
    | [] => simp [hx] at hh
    | x :: xs => simp [hx] at hh; exact h xs (by rw [hx, hh])

theorem State.transmit_begun (s : State) (f : TxFrame) : (s.transmit f).begun := State.beginHead_begun _

/-- A frame with its content joins the end of a transmit queue whose head is begun (R147). -/
theorem State.transmit_joins {s : State} (h : s.begun) {f : TxFrame} (hf : f ≠ .notice none ∨ s.hli.transmit ≠ []) :
    s.transmit f = { s with hli := { s.hli with transmit := s.hli.transmit ++ [f] } } := by
  refine State.beginHead_of_begun ?_
  match hx : s.hli.transmit with
  | [] => simpa [State.begun, hx] using hf
  | x :: xs => simpa [State.begun, hx] using h

/-- A written event leaves the head of the transmit queue begun. -/
theorem State.emit_begun {s : State} (h : s.begun) (b : EventBody) : (s.emit b).begun := by
  unfold State.emit State.noticeReport
  split
  · dsimp only
    split
    · split
      · exact State.transmit_begun _ _
      · exact h
    · exact h
  · exact h

/-- What only writes events leaves the head of the transmit queue begun. -/
theorem Quiet.begun {s t : State} (h : Quiet s t) (hb : s.begun) : t.begun := by
  induction h with
  | same _ _ hh => simpa [State.begun, hh] using hb
  | emit _ b ih => exact State.emit_begun ih b
  | host _ _ _ hh ih => simpa [State.begun, hh] using ih

/-- The reply of a taken frame stands last, and the overrun flag is clear (R148). -/
theorem State.reply_eq {s : State} (h : s.begun) (f : HostFrame) (r : Result) : s.reply f r = s.answered f.kind f.echo r :=
  State.transmit_joins (s := { s with hli := { s.hli with overrun := false } }) h (.inl (by simp))

/-- A whole frame that arrives when it can be taken at once is served, and its reply placed (R146). -/
theorem State.hostFrame_takes {s : State} (h : s.takesAtOnce) (kind echo : Byte) {p : List Byte} (hp : payloadFits p = true) :
    s.hostFrame kind echo p = s.heard.takeFrame ⟨kind, echo, p⟩ := by
  obtain ⟨h1, h2, h3, _⟩ := h
  simp [State.hostFrame, State.offer, State.nothingWaits, State.heard, hp, h1, h2, h3]

/-- What a request row answers when its frame is taken at once: the state its owner leaves, with the reply. -/
theorem State.hostFrame_answers {s : State} (h : s.takesAtOnce) (kind echo : Byte) {p : List Byte} (hp : payloadFits p = true)
    (hb : (s.heard.serve ⟨kind, echo, p⟩).2.begun) :
    s.hostFrame kind echo p
      = (s.heard.serve ⟨kind, echo, p⟩).2.answered kind echo (s.heard.serve ⟨kind, echo, p⟩).1 := by
  rw [State.hostFrame_takes h kind echo hp, State.takeFrame]
  exact State.reply_eq hb _ _

/-- A whole frame that cannot be taken at once waits, or is lost as an overrun (R146). -/
theorem State.hostFrame_waits {s : State} (kind echo : Byte) {p : List Byte} (hp : payloadFits p = true)
    (hi : s.hli.rx ≠ .ignoring) (h : s.hli.received ≠ [] ∨ 2 ≤ s.hli.transmit.length) :
    s.hostFrame kind echo p = if s.hli.received.length < Config.receiveLimit then
        { s with hli := { s.hli with rx := .hunting, received := s.hli.received ++ [⟨kind, echo, p⟩] } }
      else { s with hli := { s.hli with rx := .hunting, overrun := true } } := by
  have : (s.hli.received.isEmpty && decide (s.hli.transmit.length ≤ 1)) = false := by
    rcases h with h | h
    · simp [h]
    · simp; intro; omega
  simp [State.hostFrame, State.offer, State.nothingWaits, hp, hi, this]

end Sys2Proof.Machine
end

