-- ==== Sys2Proof/Laws/PerInstr.lean ====
section
/-! SUPPORT. Statements made once for each command: what its frame on the host line is, where it is one. -/

namespace Sys2Proof.Laws.Framing

/-- When a command stands for a frame of the host and can be sent, the payload fits a frame, and the kind is a request kind exactly when
the row is not BAD_KIND (R145, R149, Table 10-3). -/
def Statement (i : Instr) : Prop :=
  ∀ f : Machine.HostFrame, i.frame = some f → i.wellFormed = true →
    payloadFits f.payload = true ∧ (isRequestKind f.kind = true ↔ ∀ k e p, i ≠ .badKind k e p)

theorem powerOnReset (incident : Bool) : Statement (.powerOnReset incident) := by
  intro f h; cases h

theorem tick : Statement .tick := by
  intro f h; cases h

theorem minuteBoundary : Statement .minuteBoundary := by
  intro f h; cases h

theorem masterBoundary : Statement .masterBoundary := by
  intro f h; cases h

theorem incidentChange (level : Bool) : Statement (.incidentChange level) := by
  intro f h; cases h

theorem localZero (k : StationIx) : Statement (.localZero k) := by
  intro f h; cases h

theorem orderPoint (k : StationIx) : Statement (.orderPoint k) := by
  intro f h; cases h

theorem orderDeadlinePassed (k : StationIx) : Statement (.orderDeadlinePassed k) := by
  intro f h; cases h

theorem reviseLatestTickPassed (k : StationIx) : Statement (.reviseLatestTickPassed k) := by
  intro f h; cases h

theorem transitExpiry (slot : SlotIx) : Statement (.transitExpiry slot) := by
  intro f h; cases h

theorem emergencyExpiry (slot : SlotIx) : Statement (.emergencyExpiry slot) := by
  intro f h; cases h

theorem routeDue (slot : SlotIx) : Statement (.routeDue slot) := by
  intro f h; cases h

theorem routeTooLate (slot : SlotIx) : Statement (.routeTooLate slot) := by
  intro f h; cases h

theorem routeRefused (slot : SlotIx) : Statement (.routeRefused slot) := by
  intro f h; cases h

theorem slotStart : Statement .slotStart := by
  intro f h; cases h

theorem exchangeEnd (heard : List Byte) (returnFirst queuesFirst : Bool) : Statement (.exchangeEnd heard returnFirst queuesFirst) := by
  intro f h; cases h

theorem saveComplete (passes : Bool) : Statement (.saveComplete passes) := by
  intro f h; cases h

theorem hostFrameReceived (rest : List Byte) : Statement (.hostFrameReceived rest) := by
  intro f h; cases h

theorem hostFrameAbandoned : Statement .hostFrameAbandoned := by
  intro f h; cases h

theorem hostFrameSent : Statement .hostFrameSent := by
  intro f h; cases h

theorem badKind (kind echo : Byte) (payload : List Byte) : Statement (.badKind kind echo payload) := by
  intro f h hw; cases h; simp_all [Instr.wellFormed]

theorem defineCorridor (echo : Byte) (payload : List Byte) : Statement (.defineCorridor echo payload) := by
  intro f h hw; cases h; exact ⟨hw, by simp [isRequestKind]⟩

theorem loadStation (echo : Byte) (payload : List Byte) : Statement (.loadStation echo payload) := by
  intro f h hw; cases h; exact ⟨hw, by simp [isRequestKind]⟩

theorem loadPlan (echo : Byte) (payload : List Byte) : Statement (.loadPlan echo payload) := by
  intro f h hw; cases h; exact ⟨hw, by simp [isRequestKind]⟩

theorem queryPlan (echo : Byte) (payload : List Byte) : Statement (.queryPlan echo payload) := by
  intro f h hw; cases h; exact ⟨hw, by simp [isRequestKind]⟩

theorem addSchedule (echo : Byte) (payload : List Byte) : Statement (.addSchedule echo payload) := by
  intro f h hw; cases h; exact ⟨hw, by simp [isRequestKind]⟩

theorem deleteSchedule (echo : Byte) (payload : List Byte) : Statement (.deleteSchedule echo payload) := by
  intro f h hw; cases h; exact ⟨hw, by simp [isRequestKind]⟩

theorem setClock (echo : Byte) (payload : List Byte) : Statement (.setClock echo payload) := by
  intro f h hw; cases h; exact ⟨hw, by simp [isRequestKind]⟩

theorem start (echo : Byte) (payload : List Byte) : Statement (.start echo payload) := by
  intro f h hw; cases h; exact ⟨hw, by simp [isRequestKind]⟩

theorem stop (echo : Byte) (payload : List Byte) : Statement (.stop echo payload) := by
  intro f h hw; cases h; exact ⟨hw, by simp [isRequestKind]⟩

theorem selectPlan (echo : Byte) (payload : List Byte) : Statement (.selectPlan echo payload) := by
  intro f h hw; cases h; exact ⟨hw, by simp [isRequestKind]⟩

theorem releasePlan (echo : Byte) (payload : List Byte) : Statement (.releasePlan echo payload) := by
  intro f h hw; cases h; exact ⟨hw, by simp [isRequestKind]⟩

theorem holdStation (echo : Byte) (payload : List Byte) : Statement (.holdStation echo payload) := by
  intro f h hw; cases h; exact ⟨hw, by simp [isRequestKind]⟩

theorem setPriorityMask (echo : Byte) (payload : List Byte) : Statement (.setPriorityMask echo payload) := by
  intro f h hw; cases h; exact ⟨hw, by simp [isRequestKind]⟩

theorem setIncident (echo : Byte) (payload : List Byte) : Statement (.setIncident echo payload) := by
  intro f h hw; cases h; exact ⟨hw, by simp [isRequestKind]⟩

theorem setAutostart (echo : Byte) (payload : List Byte) : Statement (.setAutostart echo payload) := by
  intro f h hw; cases h; exact ⟨hw, by simp [isRequestKind]⟩

theorem routeClear (echo : Byte) (payload : List Byte) : Statement (.routeClear echo payload) := by
  intro f h hw; cases h; exact ⟨hw, by simp [isRequestKind]⟩

theorem cancelRequest (echo : Byte) (payload : List Byte) : Statement (.cancelRequest echo payload) := by
  intro f h hw; cases h; exact ⟨hw, by simp [isRequestKind]⟩

theorem queryCorridor (echo : Byte) (payload : List Byte) : Statement (.queryCorridor echo payload) := by
  intro f h hw; cases h; exact ⟨hw, by simp [isRequestKind]⟩

theorem queryStation (echo : Byte) (payload : List Byte) : Statement (.queryStation echo payload) := by
  intro f h hw; cases h; exact ⟨hw, by simp [isRequestKind]⟩

theorem queryRequests (echo : Byte) (payload : List Byte) : Statement (.queryRequests echo payload) := by
  intro f h hw; cases h; exact ⟨hw, by simp [isRequestKind]⟩

theorem readEvents (echo : Byte) (payload : List Byte) : Statement (.readEvents echo payload) := by
  intro f h hw; cases h; exact ⟨hw, by simp [isRequestKind]⟩

theorem setNotice (echo : Byte) (payload : List Byte) : Statement (.setNotice echo payload) := by
  intro f h hw; cases h; exact ⟨hw, by simp [isRequestKind]⟩

theorem save (echo : Byte) (payload : List Byte) : Statement (.save echo payload) := by
  intro f h hw; cases h; exact ⟨hw, by simp [isRequestKind]⟩

theorem reset (echo : Byte) (payload : List Byte) : Statement (.reset echo payload) := by
  intro f h hw; cases h; exact ⟨hw, by simp [isRequestKind]⟩

theorem waitingFrameRefused : Statement .waitingFrameRefused := by
  intro f h; cases h

theorem resetCarriedOut (incident : Bool) : Statement (.resetCarriedOut incident) := by
  intro f h; cases h

theorem hostFrameBegun (length : Byte) : Statement (.hostFrameBegun length) := by
  intro f h; cases h

end Sys2Proof.Laws.Framing
end

