-- ==== Sys2Proof/Laws/Table.lean ====
section
/-! SUPPORT. What the request table's operations do: slots stay distinct and the table within its size (R114). -/

namespace Sys2Proof.Machine

/-- The slots in use, in table order. -/
abbrev State.slots (s : State) : List SlotIx := s.table.map (·.slot)

theorem State.entry_mem {s : State} {i : SlotIx} {e : Entry} (h : s.entry i = some e) : e ∈ s.table ∧ e.slot = i :=
  ⟨List.mem_of_find?_eq_some h, by simpa using List.find?_some h⟩

theorem State.entry_none {s : State} {i : SlotIx} : s.entry i = none ↔ ∀ e ∈ s.table, e.slot ≠ i := by
  simp [State.entry, List.find?_eq_none]

/-- A change of an entry that keeps its slot keeps the slots in use. -/
theorem State.modEntry_slots (s : State) (i : SlotIx) {f : Entry → Entry} (hf : ∀ e, (f e).slot = e.slot) :
    (s.modEntry i f).slots = s.slots := by
  simp only [State.slots, State.modEntry, List.map_map]
  refine List.map_congr_left fun e _ => ?_
  simp only [Function.comp]
  split
  · exact hf e
  · rfl

theorem State.removeEntry_slots (s : State) (i : SlotIx) : (s.removeEntry i).slots = s.slots.filter (· ≠ i) := by
  simp [State.slots, State.removeEntry, List.filter_map, Function.comp_def]

/-- A free slot is no entry's. -/
theorem State.freeSlot_free {s : State} {i : SlotIx} (h : s.freeSlot = some i) : i ∉ s.slots := by
  have := List.find?_some h
  simpa [State.slots] using this

/-- A new entry joins the end with the free slot it takes, when the table has room, and otherwise nothing changes (R114). -/
theorem State.addEntry_cases (s : State) (mk : SlotIx → Entry) :
    (∃ i, s.freeSlot = some i ∧ s.table.length < Config.tableSize ∧ s.addEntry mk = { s with table := s.table ++ [mk i] })
      ∨ s.addEntry mk = s := by
  unfold State.addEntry
  split
  · split
    · next i h hl => exact .inl ⟨i, h, hl, rfl⟩
    · exact .inr rfl
  · exact .inr rfl

/-- Distinct slots and the table's size are kept by a new entry that takes the slot it is given. -/
theorem State.addEntry_slots {s : State} {mk : SlotIx → Entry} (hm : ∀ i, (mk i).slot = i) (hn : s.slots.Nodup)
    (hl : s.table.length ≤ Config.tableSize) :
    (s.addEntry mk).slots.Nodup ∧ (s.addEntry mk).table.length ≤ Config.tableSize := by
  obtain ⟨i, hi, h, e⟩ | e := s.addEntry_cases mk <;> rw [e]
  · refine ⟨?_, by simpa using h⟩
    have := State.freeSlot_free hi
    simp only [State.slots, List.map_append, List.map_cons, List.map_nil, hm]
    exact List.nodup_append'.mpr ⟨hn, List.nodup_singleton i, by simpa [List.disjoint_singleton] using this⟩
  · exact ⟨hn, hl⟩

theorem State.removeEntry_nodup {s : State} (i : SlotIx) (h : s.slots.Nodup) : (s.removeEntry i).slots.Nodup := by
  rw [State.removeEntry_slots]; exact h.filter _

theorem State.removeEntry_length (s : State) (i : SlotIx) : (s.removeEntry i).table.length ≤ s.table.length :=
  List.length_filter_le _ _

/-- In distinct slots the entry in its own slot is itself. -/
theorem State.entry_of_mem {s : State} (hn : s.slots.Nodup) {e : Entry} (he : e ∈ s.table) : s.entry e.slot = some e := by
  cases h : s.entry e.slot with
  | none => exact absurd rfl (State.entry_none.mp h e he)
  | some e' =>
    obtain ⟨hm, hs⟩ := State.entry_mem h
    exact congrArg some (List.inj_on_of_nodup_map hn hm he hs)

end Sys2Proof.Machine
end

