-- ==== Sys2Proof/Tests/Slice0.lean ====
section
/-! SUPPORT. Tests: what WellFormed refuses, the manual's worked figures, one step of the commands on small states, and for each
obligation with hypotheses a state and operands that meet them. -/

namespace Sys2Proof.Tests

open Sys2Proof.Machine

-- One theorem after another: each waits for the kernel, and would otherwise hold a thread of its own.
set_option Elab.async false

/-! ## WellFormed refuses each ill-formed frame -/

theorem test_wellFormed_empty_payload : (Instr.start 1 []).wellFormed = false := by decide
theorem test_wellFormed_long_payload : (Instr.loadPlan 1 (List.replicate 251 0)).wellFormed = false := by decide +kernel
theorem test_wellFormed_bad_kind_payload : (Instr.badKind 0x19 1 []).wellFormed = false := by decide
theorem test_wellFormed_bad_kind_is_no_request : (Instr.badKind 0x18 1 [0]).wellFormed = false := by decide
theorem test_wellFormed_short_rest : (Instr.hostFrameReceived [1, 2, 3, 4]).wellFormed = false := by decide
theorem test_wellFormed_long_rest : (Instr.hostFrameReceived (List.replicate 255 0)).wellFormed = false := by decide +kernel
theorem test_wellFormed_accepts : (Instr.loadPlan 1 (List.replicate 250 0)).wellFormed = true
    ∧ (Instr.badKind 0x19 1 [0]).wellFormed = true ∧ (Instr.hostFrameReceived (List.replicate 254 0)).wellFormed = true := by
  decide +kernel

/-! ## The manual's figures -/

/-- Section 6.7. -/
theorem test_crc : crc [0x31, 0x32, 0x33, 0x34, 0x35, 0x36, 0x37, 0x38, 0x39] = 0x29B1 := by decide +kernel

/-- Table 1-2. -/
theorem test_travel_times : [travelTime 600 50, travelTime 450 45, travelTime 450 50, travelTime 25 40, travelTime 21 90, travelTime 3000 15]
    = [432, 360, 324, 23, 8, 7200] := by decide

/-- Table 5-2. -/
theorem test_queue_advance : [leastAdvance 120 300 (some 360), leastAdvance 400 300 (some 360), leastAdvance 300 300 (some 270),
    leastAdvance 1200 300 none, leastAdvance 160 300 none] = [120, 300, 270, 300, 160] := by decide

/-- Table 5-4. -/
theorem test_weighted_offsets : [weightedOffset 900 70 738 96, weightedOffset 900 70 510 240, weightedOffset 900 50 100 550,
    weightedOffset 900 50 550 100, weightedOffset 900 50 200 195, weightedOffset 900 50 195 200, weightedOffset 900 0 300 751]
    = [815, 429, 325, 775, 197, 198, 751] := by decide +kernel

/-- Table 2-8's schedule. -/
def schedule : List ScheduleEntry :=
  [⟨390, 0x1F, 1⟩, ⟨390, 0x60, 5⟩, ⟨480, 0x60, 4⟩, ⟨570, 0x1F, 4⟩, ⟨960, 0x1F, 3⟩, ⟨1140, 0x7F, 0⟩]

/-- Table 2-9. -/
theorem test_governing_entries : [(2, 435), (1, 300), (6, 600), (6, 390), (5, 1140)].map
    (fun x => (governingEntry schedule x.1 (600 * x.2)).map (·.plan)) = [some 1, some 0, some 4, some 5, some 0] := by decide +kernel

/-- Plan 1 of the example corridor, at station 1 (section 6.9). -/
def plan1 : Plan := {
  cycle := 900, base := 0, ref := 3, mode := .weighted, weight := 70, tidal := none, shorten := 15, lengthen := 25
  stepLimit := 60, advanceCap := 300, maxExtension := 150, lockout := 2
  items := [⟨false, [500, 400]⟩, ⟨false, [450, 250, 200]⟩, ⟨false, [480, 240, 180]⟩, ⟨false, [400, 200, 150, 150]⟩] }

/-- Table 6-2. -/
theorem test_projected_errors : [projectedError 900 900 670 340 30, projectedError 900 900 895 340 30, projectedError 900 900 220 340 30,
    projectedError 900 900 310 340 30] = [360, 585, 810, 0] := by decide +kernel

/-- Table 6-2, and the shortening of section 6.9. -/
theorem test_transitions : [360, 810, 0, 100].map (fun d => Course.ofIntervals (transition plan1 1 [200, 120, 100] d).intervals)
    = [⟨1125, [675, 925, 1125]⟩, ⟨990, [540, 790, 990]⟩, ⟨900, [450, 700, 900]⟩, ⟨800, [450, 700, 800]⟩] := by decide +kernel

/-- Table 6-3: a half-cycle station. -/
theorem test_half_cycle_transitions :
    [120, 60, 448].map (fun d => (transition { plan1 with items := [⟨true, [210, 130, 110]⟩] } 0 [180, 120, 100] d).intervals)
    = [[322, 130, 110], [180, 120, 100], [210, 130, 110]] := by decide +kernel

/-- Section 7.7.1: EXTEND by 50. -/
theorem test_fold_extend : Course.ofIntervals (foldExtend 50 [450, 250, 200] [200, 120, 100]) = ⟨900, [500, 750, 900]⟩ := by
  decide +kernel

/-! ## A small corridor: two stations, three plans -/

def cfg0 : StationConfig := {
  drop := 11, minimums := [100, 100], headwayIn := 20, headwayOut := 20, honourManual := true, incidentGate := true
  link := some ⟨600, 50, 50⟩ }
def cfg1 : StationConfig := { cfg0 with drop := 12, link := none, incidentGate := false }

def plan : Plan := {
  cycle := 600, base := 0, ref := 0, mode := .weighted, weight := 50, tidal := none, shorten := 15, lengthen := 25
  stepLimit := 60, advanceCap := 300, maxExtension := 100, lockout := 2, items := [⟨false, [300, 300]⟩, ⟨false, [300, 300]⟩] }
def planB : Plan := { plan with base := 10 }
def planC : Plan := { plan with items := [⟨false, [300, 300]⟩] }
def fault : FailItem := { reason := .listLength, station := none, phase := none }

def slots : Vector (Option PlanSlot) 8 :=
  ((State.reset.ps.slots.set 0 (some ⟨plan, .valid⟩)).set 1 (some ⟨planC, .invalid fault⟩)).set 2 (some ⟨planB, .valid⟩)

def unit (c : StationConfig) : Station :=
  { Station.blank with config := some c, minsInForce := c.minimums, link := .online, misses := 0, ackMark := true }

def model : CycleModel := {
  zeroTick := 400, number := 5, basis := .plan ⟨600, [300, 600]⟩, lastZero := 5, mark := none, next := none }

/-- IDLE at tick 1000 with the clock set: plans 1 and 3 valid, plan 2 invalid, both links ONLINE. -/
def idle : State := { State.reset with
  count := some 2
  stations := (State.reset.stations.set 0 (unit cfg0)).set 1 (unit cfg1)
  tb := { State.reset.tb with tick := 1000, time := 1200, clockSet := true }
  ps := { State.reset.ps with slots := slots } }

def both (s : State) (f : Station → Station) : State := (s.modSt 0 f).modSt 1 f

/-- RUNNING under plan 1, both stations FREE. -/
def free : State := { idle with
  ps := { idle.ps with corridor := .running, active := some 1, override := some 1, enable := true } }

/-- RUNNING under plan 1, both stations synchronised and SEEKING, their next zeros at tick 1000. -/
def running : State := both free fun t => { t with coord := .seeking, synced := true, model := some model }

def release (deadline : Tick) : WaitingOrder := { number := 6, body := none, deadline, placed := 950 }

/-- STOPPING, with the RELEASE of both stations outstanding to tick 1000. -/
def stopping : State := both
  { running with ps := { running.ps with corridor := .stopping, enable := false } } fun t => { t with order := some (release 1000) }

def atTick (s : State) (t : Tick) : State := { s with tb := { s.tb with tick := t } }
def saving (s : State) : State := { s with cs := { s.cs with saving := some 999 } }
def withOverride (s : State) (g : Option Nat) : State := { s with ps := { s.ps with override := g } }
def withTable (s : State) (l : List Entry) : State := { s with table := l }
def withRx (s : State) (r : RxState) : State := { s with hli := { s.hli with rx := r } }
def withSend (s : State) (l : List TxFrame) : State := { s with hli := { s.hli with transmit := l } }
def withHeld (s : State) (l : List HostFrame) : State := { s with hli := { s.hli with received := l } }
def withEvents (s : State) (n : Nat) : State := { s with eq := { s.eq with records := List.replicate n ⟨none, .clockSet⟩ } }
def openSlot (s : State) (n : Nat) : State := { s with clc := { s.clc with slotOpen := true, nonRoutine := n } }
def withSchedule (s : State) (l : List ScheduleEntry) : State := { s with ps := { s.ps with schedule := l } }

/-- An entry of station 0, with ETA 700 and, for a route, due tick 900. -/
def entry (slot : SlotIx) (cls : ReqClass) (origin : Origin) (state : ReqState) : Entry := {
  slot, cls, level := if cls = .transit then 2 else 4, origin, station := 0, dir := .inward, tag := 7, arrival := 0, eta := 700
  due := if origin = .route then some 900 else none, masked := false, grant := none, outstanding := false, seen := false
  posted := false, delivered := none, state }

def body : OrderBody := { course := ⟨600, [300, 600]⟩, plan := 1, target := 0, fold := none, takenOver := false }
def order (deadline : Tick) : WaitingOrder := { number := 6, body := some body, deadline, placed := 970 }
def revise (latest : Tick) : WaitingRevise := {
  number := 5, kind := .extend, slot := 3, course := ⟨600, [350, 600]⟩, latest, offset := 290 }

def status (number : Byte) (time : Nat) : Status := {
  number, time, phase := 1, manual := false, preempt := false, queueIn := 3, queueOut := 70, latched := 4, countIn := 0, countOut := 0
  notices := [], checkOuts := [] }
def heard (r : Status) : List Byte := 0x11 :: corridorWire 11 0x10 r.bytes

/-- An exchange with station 0 is in progress. -/
def asking (s : State) (f : SentFrame) (discarded : Bool := false) : State :=
  { s with clc := { s.clc with exchange := some { station := 0, frame := f, slotTick := s.now, bytes := [], discarded } } }

/-- The state that a command leaves, and `s` where it would leave none. -/
def after (i : Instr) (s : State) : State :=
  match exec i s with
  | .next t => t
  | .fault _ => s
  | .refused _ => s

/-- What reading a reply gives, as a value that can be compared. -/
def reads (drop n : Nat) (l : List Byte) (r : Status) : Bool :=
  match readReply drop n l with
  | .ok x => x = r
  | .error _ => false

theorem reads_ok {drop n : Nat} {l : List Byte} {r : Status} (h : reads drop n l r = true) : readReply drop n l = .ok r := by
  unfold reads at h
  split at h
  · next x hx => rw [hx, of_decide_eq_true h]
  · cases h

/-- Why reading a reply fails, as a value that can be compared. -/
def fails (drop n : Nat) (l : List Byte) (c : FailureCause) : Bool :=
  match readReply drop n l with
  | .ok _ => false
  | .error x => x = c

theorem fails_with {drop n : Nat} {l : List Byte} {c : FailureCause} (h : fails drop n l c = true) :
    readReply drop n l = .error c := by
  unfold fails at h
  split at h
  · cases h
  · next x hx => rw [hx, of_decide_eq_true h]

/-- The exchange of station 0 in progress has the reply `r`. -/
def hears (s : State) (x : Exchange) (r : Status) : Bool :=
  s.clc.exchange = some x && !x.discarded && x.station = 0 && (s.st 0).config = some cfg0 && reads 11 2 (heard r) r

theorem hears_replied {s : State} {x : Exchange} {r : Status} (h : hears s x r = true) : s.replied x cfg0 (heard r) r := by
  simp only [hears, Bool.and_eq_true, decide_eq_true_eq, Bool.not_eq_true'] at h
  obtain ⟨⟨⟨⟨hx, hd⟩, hk⟩, hc⟩, hr⟩ := h
  exact ⟨hx, hd, hk ▸ hc, reads_ok hr⟩

/-! ## Steps -/

/-- R32: the end of the week. -/
theorem test_tick_week : ((after .tick { idle with tb := { idle.tb with time := 863999, day := 7 } }).tb.time,
    (after .tick { idle with tb := { idle.tb with time := 863999, day := 7 } }).tb.day) = (0, 1) := by decide +kernel

/-- R37, R42: START, and then STOP of a corridor whose stations all carry a RELEASE. -/
theorem test_start_then_stop : (after (.stop 2 [0]) (after .hostFrameSent (after (.start 1 [0]) (withOverride idle (some 1))))).ps.corridor
    = .stopping := by decide +kernel

/-- R154: RESET is answered OK, and bytes are then ignored. -/
theorem test_reset_ignores : (after (.start 2 [0]) (after (.reset 1 [0]) idle)).hli.transmit = [.reply 0x98 1 [0]] := by decide +kernel

/-- R149: an unknown kind. -/
theorem test_bad_kind : (after (.badKind 0x40 9 [1]) idle).hli.transmit = [.reply 0xC0 9 [2]] := by decide +kernel

/-- R156: the stamp and the kind of a record (Table 11-2). -/
theorem test_event_bytes : (⟨some 1200, .linkLost 3 .misses⟩ : Event).bytes = [4, 1, 0, 0, 4, 0xB0, 1, 3, 0, 0, 0, 0] := by
  decide +kernel

/-- R85, R74: a handed-on zero ages the queue sample. -/
theorem test_local_zero : ((after (.localZero 0) running).st 0).model.map (fun m => (m.zeroTick, m.number)) = some (1000, 6) := by
  decide +kernel

/-- R105: the dropped order is reported. -/
theorem test_deadline : ((after (.orderDeadlinePassed 0) (running.modSt 0 fun t => { t with order := some (order 1000) })).eq.records.map (·.body))
    = [.orderLate 0 6 .deadline] := by decide +kernel

/-- Table 9-2: the bytes of an order before its check. -/
theorem test_order_wire : ((SentFrame.order (order 1000)).wire 11 true).take 12
    = [0x5C, 11, 0x82, 9, 6, 0, 2, 0x02, 0x58, 0x01, 0x2C, 0x02] := by decide +kernel

/-! ## Witnesses: for each obligation with hypotheses, states and operands that meet them, clause by clause, at the bounds -/

theorem witness_StepRunsTheFrontCommand :
    ({ idle with pending := [.tick, .slotStart] } : State).pending = .tick :: [.slotStart] ∧ idle.pending = [] := ⟨rfl, rfl⟩

/-- RUNNING, with a local zero waiting to be taken. -/
def aboutToZero : State := { running with pending := [.localZero 0] }

theorem witness_StepKeepsTheQueueLaw : aboutToZero.QueueLaw ∧ ∃ t, step aboutToZero = .next t := ⟨by decide +kernel, _, rfl⟩
/-- RUNNING, with a grant's frame outstanding at station 0, and a route entry of station 0 whose time is over. -/
def aboutToEnd : State := {
  withTable running [{ entry 3 .transit .station .active with grant := some .extend, outstanding := true },
    entry 2 .emergency .route .scheduled] with pending := [.routeTooLate 2] }

theorem witness_StepKeepsTheTableLaw : (aboutToEnd.TableLaw ∧ aboutToEnd.EntryLaw) ∧ ∃ t, step aboutToEnd = .next t :=
  ⟨by decide +kernel, _, rfl⟩
theorem witness_StepKeepsTheLinkLaw : aboutToZero.LinkLaw ∧ ∃ t, step aboutToZero = .next t := ⟨by decide +kernel, _, rfl⟩
theorem witness_StepKeepsTheCorridorLaw : aboutToZero.CorridorLaw ∧ ∃ t, step aboutToZero = .next t := ⟨by decide +kernel, _, rfl⟩
theorem witness_StepKeepsTheServiceLaw : aboutToZero.ServiceLaw ∧ ∃ t, step aboutToZero = .next t := ⟨by decide +kernel, _, rfl⟩
set_option synthInstance.maxSize 2000 in
set_option synthInstance.maxHeartbeats 200000 in
theorem witness_StepKeepsTheCountLaw : (aboutToZero.ItemLaw ∧ aboutToZero.CountLaw) ∧ ∃ t, step aboutToZero = .next t :=
  ⟨by decide +kernel, _, rfl⟩

/-- RUNNING, with an order of station 0 waiting. -/
def aboutToTick : State := {
  running.modSt 0 (fun t => { t with order := some (order 1000) }) with pending := [.tick] }

set_option synthInstance.maxSize 2000 in
set_option synthInstance.maxHeartbeats 200000 in
theorem witness_StepKeepsTheOrderLaw : (aboutToTick.ItemLaw ∧ aboutToTick.CorridorLaw ∧ aboutToTick.ServiceLaw
    ∧ aboutToTick.OrderLaw ∧ (aboutToTick.st 0).order ≠ none) ∧ ∃ t, step aboutToTick = .next t :=
  ⟨by decide +kernel, _, rfl⟩

theorem witness_PowerOnWithoutAGoodImageStartsEmpty :
    ((saving idle).busy = true)
      ∧ (State.reset.busy = false ∧ State.reset.cs.image.passes = false) := by decide +kernel

/-- IDLE, with the empty items stored in a good image. -/
def stored : State := { idle with cs := { idle.cs with image := .written .empty true } }

/-- After an accepted RESET the transmit queue has been sent empty. -/
def emptied (s : State) : State := { s with hli := { s.hli with rx := .ignoring, emptied := true } }

theorem witness_ResetsLoadAGoodImage :
    (stored.busy = false ∧ stored.cs.image.passes = true)
      ∧ (∀ s ∈ [emptied stored, withSend (emptied stored) [.notice (some 1)]], s.hli.emptied = true ∧ s.slotOver = true)
      ∧ ((withRx stored .ignoring).hli.emptied = false)
      ∧ ((openSlot (emptied stored) 0).slotOver = false) := by decide +kernel

theorem witness_SaveCompleteWritesTheWorkingValues :
    ((saving idle).cs.saving = some 999 ∧ 1 ≤ tickDiff (saving idle).now 999)
      ∧ (let s := atTick (saving idle) 1029;
      s.cs.saving = some 999 ∧ 1 ≤ tickDiff s.now 999 ∧ tickDiff s.now 999 ≤ 30)
      ∧ (tickDiff (atTick (saving idle) 999).now 999 < 1)
      ∧ (30 < tickDiff (atTick (saving idle) 1030).now 999)
      ∧ (idle.cs.saving = none) := by decide +kernel

theorem witness_NoStoredItemChangesDuringASave :
    (saving running).busy = true ∧ ∃ t, exec (.localZero 0) (saving running) = .next t ∧ t.busy = true :=
  ⟨rfl, _, rfl, by decide +kernel⟩

theorem witness_TickAdvancesTheCounts :
    (({ idle with tb := { idle.tb with time := 863999 } } : State).tb.time + 1 = 864000)
      ∧ (idle.tb.time + 1 ≠ 864000)
      ∧ (idle.ps.corridor = .idle)
      ∧ (running.ps.corridor ≠ .idle ∧ running.activePlan = some plan)
      ∧ (plan.cycle ≤ ({ running with tb := { running.tb with m := 599 } } : State).tb.m + 1)
      ∧ (({ running with tb := { running.tb with m := 598 } } : State).tb.m + 1 < plan.cycle) := by decide +kernel

/-- RUNNING at a raised minute boundary, with a plan governing and a rejection mark. -/
def minute (g : Nat) (mark : Option Nat) : State := { running with
  tb := { running.tb with minuteDue := true }, ps := { running.ps with override := some g, rejection := mark } }

theorem witness_MinuteBoundaryEvaluatesThePlan :
    (∀ x ∈ [(minute 1 none, 1), (minute 3 none, 3), (minute 2 (some 2), 2), (minute 8 none, 8), (minute 2 none, 2)],
        x.1.tb.minuteDue = true ∧ x.1.ps.corridor = .running ∧ x.1.ps.enable = true ∧ x.1.tb.clockSet = true
          ∧ x.1.geometryValid = true ∧ x.1.governing = x.2 ∧ x.2 ≠ 0)
      ∧ (minute 1 none).ps.active = some 1
      ∧ ((minute 3 none).ps.active ≠ some 3 ∧ (minute 3 none).planValid 3 = true)
      ∧ ((minute 2 (some 2)).ps.active ≠ some 2 ∧ (minute 2 (some 2)).planValid 2 = false
        ∧ (minute 2 (some 2)).ps.rejection = some 2)
      ∧ ((minute 8 none).ps.active ≠ some 8 ∧ (minute 8 none).slot 8 = none ∧ (minute 8 none).ps.rejection ≠ some 8)
      ∧ ((minute 2 none).ps.active ≠ some 2 ∧ (minute 2 none).slot 2 = some ⟨planC, .invalid fault⟩
        ∧ (minute 2 none).ps.rejection ≠ some 2)
      ∧ running.tb.minuteDue = false := by decide +kernel

/-- RUNNING at a raised master boundary. -/
def boundary (g : Option Nat) : State := { running with
  tb := { running.tb with masterDue := true }, ps := { running.ps with staged := g } }

theorem witness_MasterBoundaryTakesTheStagedPlanOver :
    ((boundary (some 3)).tb.masterDue = true ∧ (boundary (some 3)).ps.staged = some 3
        ∧ (boundary (some 3)).slot 3 = some ⟨planB, .valid⟩)
      ∧ ((boundary none).tb.masterDue = true ∧ (boundary none).ps.staged = none)
      ∧ (running.tb.masterDue = false) := by decide +kernel

theorem witness_IncidentChangeRecomputesEveryHold :
    (true ≠ running.hl.level)
      ∧ (false = running.hl.level) := by decide +kernel

/-- RUNNING, with station 0's last zero number ahead of its cycle number. -/
def zeroRepeated : State := running.modSt 0 fun t => { t with model := some { model with lastZero := 6 } }

/-- RUNNING under a TIDAL plan of station 0, its zero due, with the Measurement Unit as given. -/
def tidal (accIn weight : Nat) (primed : Bool) (totals : Nat) : State := { running with
  ps := { running.ps with slots := slots.set 0 (some ⟨{ plan with mode := .tidal, tidal := some 0 }, .valid⟩) }
  mu := { weight, accIn, accOut := 0, primed, ring := List.replicate totals (5, 0) } }

theorem witness_LocalZeroAdvancesTheModel :
    (∀ s ∈ [running, stopping, tidal 5 85 false 0, tidal 5 85 true 2, tidal 4 85 true 3, tidal 5 86 true 3, tidal 5 85 true 3],
        (s.st 0).model = some model ∧ model.basis.course = some ⟨600, [300, 600]⟩ ∧ (600 : Int) ≤ tickDiff s.now model.zeroTick
          ∧ s.clc.resynced ≠ some 0 ∧ model.number + 1 ≠ model.lastZero)
      ∧ ((zeroRepeated.st 0).model = some { model with lastZero := 6 } ∧ model.number + 1 = 6)
      ∧ stopping.ps.corridor ≠ .running
      ∧ (∀ p ∈ running.activePlan, ¬(p.mode = .tidal ∧ p.tidal = some 0))
      ∧ (∀ s ∈ [tidal 5 85 false 0, tidal 5 85 true 3], ∃ p ∈ s.activePlan, p.mode = .tidal ∧ p.tidal = some 0)
      ∧ ([((2 : Nat) + 1, 15), (4, 19), (4, 20)].map fun x => (decide (4 ≤ x.1), decide (20 ≤ x.2))) = [(false, false), (true, false), (true, true)]
      ∧ ((200 * 20 + 20) / (2 * 20) : Int) - 86 = 14 ∧ ((200 * 20 + 20) / (2 * 20) : Int) - 85 = 15
      ∧ tickDiff (atTick running 999).now model.zeroTick < 600
      ∧ ({ running with clc := { running.clc with resynced := some 0 } } : State).clc.resynced = some 0
      ∧ ∀ m ∈ (idle.st 0).model, m.basis = .none := by decide +kernel

/-- RUNNING, with station 0 not synchronised. -/
def unsynced : State := running.modSt 0 fun t => { t with synced := false }

/-- A PENDING TRANSIT entry of station 0 whose ETA lies `pos` ticks after the zero of tick 1000. -/
def arriving (slot : SlotIx) (level pos : Nat) : Entry :=
  { entry slot .transit .station .pending with level, eta := 1000 + BitVec.ofNat 32 pos }

/-- The entry is a candidate for the cycle of 570 ticks that begins at tick 1000, and it does not wait for the lockout (R118, R119). -/
def earns (s : State) (e : Entry) : Bool :=
  e.station = 0 && e.cls = .transit && e.state = .pending && !e.masked && tickDiff e.eta 1000 < 570
    && (tickDiff e.eta 1000 < 300 || (s.st 0).lockout = 0)

/-- Station 0's second phase has no room in a cycle of 570 ticks. -/
def roomless : State := running.modSt 0 fun t => { t with minsInForce := [100, 270] }
def locked : State := running.modSt 0 fun t => { t with lockout := 1 }

theorem witness_OrderPointBuildsTheOrder :
    (∀ x ∈ [(atTick running 970, true), (atTick running 994, true), (atTick running 995, false), (atTick unsynced 994, true)],
        (x.1.st 0).model = some model ∧ model.basis.course = some ⟨600, [300, 600]⟩ ∧ (x.1.st 0).coordinated = true
          ∧ (600 : Int) - 30 ≤ tickDiff x.1.now model.zeroTick ∧ model.mark ≠ some (model.number + 1)
          ∧ (if x.2 then 5 < tickDiff (tickAdd model.zeroTick 600) x.1.now else tickDiff (tickAdd model.zeroTick 600) x.1.now ≤ 5))
      ∧ ((atTick unsynced 994).st 0).synced = false
      ∧ (let s := atTick running 970;
      s.ps.corridor = .running ∧ (s.st 0).synced = true ∧ s.ps.active = some 1 ∧ s.slot 1 = some ⟨plan, .valid⟩
        ∧ ∀ mins ∈ [[100, 100], [100, 270]], projectedError 600 600 s.tb.m 0 30 = 30 ∧ (transition plan 0 mins 30).intervals = [300, 270])
      ∧ (∃ y ∈ (withTable running [{ arriving 1 2 0 with state := .active }]).table, y.station = 0 ∧ y.state = .active)
      ∧ (∀ x ∈ [(running, []), (running, [arriving 1 2 570]), (locked, [arriving 1 2 300])], ∀ y ∈ x.2, earns x.1 y = false)
      ∧ (∀ x ∈ [(running, [], arriving 1 2 299, []), (locked, [arriving 2 3 300], arriving 1 2 299, []),
            (running, [arriving 2 1 300], arriving 1 2 300, [arriving 3 2 299]), (running, [], arriving 1 2 399, [arriving 2 2 399]),
            (running, [arriving 2 3 570], arriving 1 2 400, []), (running, [], arriving 1 2 569, []), (roomless, [], arriving 1 2 300, [])],
        let s := withTable x.1 (x.2.1 ++ x.2.2.1 :: x.2.2.2)
        s.TableLaw ∧ (∀ y ∈ s.table, ¬(y.station = 0 ∧ y.state = .active)) ∧ earns s x.2.2.1 = true
          ∧ (∀ y ∈ s.table, earns s y = true → y.level ≤ x.2.2.1.level) ∧ ∀ y ∈ x.2.1, earns s y = true → y.level < x.2.2.1.level)
      ∧ min 100 (roomSum [270] [100]) = 100 ∧ min 100 (roomSum [270] [270]) = 0
      ∧ ([399, 400, 569].map fun pos => (decide (pos < 300 + 100), decide (max (pos - 20) (300 + 100) < 570)))
        = [(true, true), (false, true), (false, true)]
      ∧ 570 ≤ max (300 - 20) (300 + 270) := by decide +kernel

theorem witness_EveryBuiltOrderIsLawful :
    let s := atTick running 994
    (s.st 0).model = some model ∧ model.basis.course = some ⟨600, [300, 600]⟩ ∧ (s.st 0).coordinated = true ∧ (s.st 0).synced = true
      ∧ s.ps.corridor = .running ∧ s.ps.active = some 1 ∧ s.slot 1 = some ⟨plan, .valid⟩ ∧ (s.st 0).config = some cfg0
      ∧ judgeItem plan 0 cfg0.minimums = none ∧ (s.st 0).enterMins.minsInForce = cfg0.minimums ∧ 2 ≤ cfg0.minimums.length
      ∧ (∀ y ∈ cfg0.minimums, 1 ≤ y) ∧ (600 : Int) - 30 ≤ tickDiff s.now model.zeroTick ∧ model.mark ≠ some (model.number + 1)
      ∧ 5 < tickDiff (tickAdd model.zeroTick 600) s.now := by decide +kernel

theorem witness_CorrectionAmountAndLength :
    (plan.fits ∧ (0 : StationIx).val < plan.items.length ∧ judgeItem plan 0 [100, 100] = none ∧ ∀ y ∈ [100, 100], 50 ≤ y)
      ∧ (3 < plan.localCycle 0 ∧ withinTolerance (plan.localCycle 0) 3 = false)
      ∧ (597 < plan.localCycle 0 ∧ withinTolerance (plan.localCycle 0) 597 = false)
      ∧ (let d := 3;
      min (600 * 15 / 100) (600 - 200) = 90 ∧ 600 * 25 / 100 = 150 ∧ (d + 90 - 1) / 90 < (600 - d + 150 - 1) / 150)
      ∧ (let d := 270;
      (600 - d + 150 - 1) / 150 ≤ (d + 90 - 1) / 90 ∧ withinTolerance (plan.localCycle 0) d = false)
      ∧ min (600 * 0 / 100) (600 - 200) = 0
      ∧ (0 < 600 ∧ plan.localCycle 0 ≤ 598 + 2 ∧ withinTolerance (plan.localCycle 0) 598 = true) := by decide +kernel

theorem witness_ReductionTakesFromTheHighestPhase :
    ([200, 150].length = [100, 100].length ∧ 150 ≤ roomSum [200, 150] [100, 100])
      ∧ (1 ≤ [200, 150].length ∧ 50 ≤ roomSum [150] [100] ∧ 300 ≤ [200, 150].sum ∧ [200, 150].sum ≤ 300 + roomSum [150] [100]) := by decide +kernel

/-- RUNNING at tick 1000, with station 0's order due at a tick. -/
def ordered (deadline : Tick) : State := running.modSt 0 fun t => { t with order := some (order deadline) }

def granted : Entry := { entry 3 .transit .station .active with grant := some .extend, outstanding := true }

/-- A REVISE of station 0 waits to a tick, for the grant of the entry in slot 3. -/
def revising (s : State) (latest : Tick) : State :=
  withTable (s.modSt 0 fun t => { t with revise := some (revise latest) }) [granted]

/-- The order of station 0 is due at a tick, with a fold for the entry in slot 3. -/
def folded (s : State) (deadline : Tick) : State :=
  withTable (s.modSt 0 fun t => { t with order := some { order deadline with
    body := some { body with fold := some { slot := 3, kind := .extend, amount := 50 } } } }) [granted]

theorem witness_DeadlineAndLatestTickEndTheWaiting :
    ((∀ s ∈ [folded running 1000, folded stopping 1000, withTable (folded running 1000) [{ granted with outstanding := false }],
          withTable (folded running 1000) []],
        ((s.st 0).order.bind (·.body)).bind (·.fold) = some { slot := 3, kind := .extend, amount := 50 }
          ∧ reached s.now 1000 = true ∧ s.slotOver = true)
      ∧ ((folded running 1000).entry 3 = some granted ∧ granted.outstanding = true ∧ granted.station = 0
        ∧ (folded stopping 1000).ps.corridor ≠ .running)
      ∧ (∀ s ∈ [withTable (folded running 1000) [{ granted with outstanding := false }], withTable (folded running 1000) []],
        ∀ e ∈ s.entry 3, e.outstanding = false)
      ∧ (let s := openSlot (ordered 1000) 0;
      (s.st 0).order = some (order 1000) ∧ reached s.now (order 1000).deadline = true ∧ s.slotOver = false)
      ∧ (let s := ordered 1000;
      (s.st 0).order = some (order 1000) ∧ reached s.now (order 1000).deadline = true ∧ s.slotOver = true
        ∧ (order 1000).body = some body ∧ body.fold = none)
      ∧ (∀ s ∈ [stopping, stopping.modSt 1 fun t => { t with order := none }],
        (s.st 0).order = some (release 1000) ∧ reached s.now (release 1000).deadline = true ∧ s.slotOver = true
          ∧ (release 1000).body = none ∧ s.ps.corridor = .stopping)
      ∧ (∃ j : StationIx, j ≠ 0 ∧ stopping.releaseOut j = true)
      ∧ (∀ j : StationIx, j ≠ 0 → (stopping.modSt 1 fun t => { t with order := none }).releaseOut j = false)
      ∧ (((ordered 1001).st 0).order = some (order 1001) ∧ reached (ordered 1001).now (order 1001).deadline = false)
      ∧ (running.st 0).order = none)
      ∧ ((∀ s ∈ [revising running 1000, revising stopping 1000],
        (s.st 0).revise = some (revise 1000) ∧ reached s.now 1000 = true ∧ s.slotOver = true ∧ s.entry 3 = some granted
          ∧ granted.outstanding = true ∧ granted.station = 0)
      ∧ (revising stopping 1000).ps.corridor ≠ .running
      ∧ (∀ x ∈ [((300 : Int), (690 : Tick)), (400, 699)],
        let s := withTable (revising (atTick running x.2) x.2) [{ granted with eta := 400 + BitVec.ofInt 32 x.1 }];
        s.TableLaw ∧ (∀ y ∈ s.table, y.station = 0 → y.slot = 3) ∧ (s.st 0).model = some model ∧ s.activePlan = some plan
          ∧ model.basis.course = some ⟨600, [300, 600]⟩ ∧ (⟨600, [300, 600]⟩ : Course).intervals.sum = 600
          ∧ 10 ≤ (⟨600, [300, 600]⟩ : Course).firstEnd ∧ tickDiff (400 + BitVec.ofInt 32 x.1) model.zeroTick = x.1
          ∧ min plan.maxExtension (roomSum (⟨600, [300, 600]⟩ : Course).intervals.tail [100]) = 100
          ∧ (if x.1 = 300 then (300 : Int) - 10 = tickDiff s.now model.zeroTick
            else 300 + 100 ≤ x.1 ∧ max (x.1 - 20).toNat (300 + 100) < 600 ∧ (300 : Int) - 1 = tickDiff s.now model.zeroTick))
      ∧ (({ revising running 1000 with clc := { running.clc with slotOpen := true } } : State).slotOver = false)
      ∧ (((revising running 1001).st 0).revise = some (revise 1001) ∧ reached (revising running 1001).now 1001 = false)
      ∧ (running.st 0).revise = none) := by
  refine ⟨⟨?_, ?_, ?_, ?_, ?_⟩, ?_⟩ <;> decide +kernel

def transitEntry : Entry := entry 2 .transit .station .pending
def emergencyEntry : Entry := entry 2 .emergency .station .active
def lateRoute : Entry := entry 2 .emergency .route .scheduled
def refusedRoute : Entry := { entry 2 .emergency .route .active with delivered := some 980 }

theorem witness_RequestsEndWhenTheirTimeIsOver :
    (let s := withTable running [transitEntry];
      s.TableLaw ∧ s.entry 2 = some transitEntry ∧ transitEntry.cls = .transit ∧ reached s.now (tickAdd transitEntry.eta 300) = true)
      ∧ (let s := withTable running [emergencyEntry];
      s.TableLaw ∧ s.entry 2 = some emergencyEntry ∧ emergencyEntry.cls = .emergency ∧ emergencyEntry.origin = .station
        ∧ emergencyEntry.seen = false ∧ reached s.now (tickAdd emergencyEntry.eta 300) = true)
      ∧ (let s := withTable running [lateRoute];
      s.TableLaw ∧ s.entry 2 = some lateRoute ∧ lateRoute.origin = .route ∧ lateRoute.state ≠ .active ∧ lateRoute.due = some 900
        ∧ reached s.now (tickAdd 900 100) = true ∧ s.slotOver = true)
      ∧ (let s := withTable running [refusedRoute];
      s.TableLaw ∧ s.entry 2 = some refusedRoute ∧ refusedRoute.origin = .route ∧ refusedRoute.state = .active
        ∧ refusedRoute.seen = false ∧ refusedRoute.delivered = some 980 ∧ reached s.now (tickAdd 980 20) = true)
      ∧ running.entry 2 = none := by decide +kernel

def dueRoute (due : Tick) : Entry := { entry 2 .emergency .route .scheduled with due := some due }

/-- RUNNING with the link of station 0 LOST, a route entry of the station due, and another entry there. -/
def dueWithoutLink (other : Entry) : State :=
  withTable (running.modSt 0 fun t => { t with link := .lost, misses := 3, coord := .free, synced := false }) [dueRoute 1000, other]
def waitingEmergency (origin : Origin) : Entry := { entry 5 .emergency origin .pending with level := 7 }

theorem witness_RouteDuePostsThePreempt :
    (∀ s ∈ [withTable running [dueRoute 1000], withTable running [dueRoute 1000, { emergencyEntry with slot := 5 }],
          withTable running [dueRoute 1000, { dueRoute 900 with slot := 5, posted := true }],
          dueWithoutLink (waitingEmergency .station), dueWithoutLink (waitingEmergency .route)],
        s.TableLaw ∧ s.entry 2 = some (dueRoute 1000) ∧ (dueRoute 1000).origin = .route ∧ (dueRoute 1000).state = .scheduled
          ∧ (dueRoute 1000).posted = false ∧ (dueRoute 1000).due = some 1000 ∧ reached s.now 1000 = true)
      ∧ (let s := withTable running [dueRoute 1000];
      s.activeEmergency 0 = none ∧ s.postedAt 0 = none ∧ (s.st 0).link = .online)
      ∧ (withTable running [dueRoute 1000, { emergencyEntry with slot := 5 }]).activeEmergency 0 ≠ none
      ∧ (withTable running [dueRoute 1000, { dueRoute 900 with slot := 5, posted := true }]).postedAt 0 ≠ none
      ∧ (∀ o ∈ [Origin.station, .route], let s := dueWithoutLink (waitingEmergency o);
      s.LinkLaw ∧ s.activeEmergency 0 = none ∧ s.postedAt 0 = none ∧ (s.st 0).link = .lost)
      ∧ (∀ y ∈ (dueWithoutLink (waitingEmergency .route)).table, y.station = 0 → y.cls = .emergency → y.state = .pending → y.origin ≠ .station)
      ∧ (let s := withTable running [dueRoute 1001];
      s.entry 2 = some (dueRoute 1001) ∧ (dueRoute 1001).due = some 1001 ∧ reached s.now 1001 = false) := by decide +kernel

/-- A PREEMPT of station 0 waits in URGENT since tick 999. -/
def preempt : UrgentFrame := { station := 0, kind := .preempt 2 .inward 4 7, placed := 999 }
def urging : State := { openSlot running 2 with clc := { (openSlot running 2).clc with urgent := [preempt] } }
def polling : State := { openSlot running 3 with clc := { (openSlot running 3).clc with pollPtr := 15 } }

/-- The REVISE of station 0 waits in URGENT, behind a PREEMPT placed in this tick, and may still go at tick 1000. -/
def urgingRevise : State := { openSlot (revising running 1000) 0 with
  clc := { (openSlot running 0).clc with
    urgent := [{ preempt with placed := 1000 }, { station := 0, kind := .revise, placed := 999 }] } }

theorem witness_SlotStartBeginsTheChosenExchange :
    (∀ s ∈ [urging, urgingRevise, openSlot (ordered 1000) 2, polling, openSlot running 0],
        s.clc.slotOpen = true ∧ s.clc.exchange = none ∧ s.anyLoaded = true)
      ∧ (urging.clc.nonRoutine < 3 ∧ urging.clc.urgent = [] ++ preempt :: [] ∧ preempt.placed ≠ urging.now)
      ∧ (urgingRevise.clc.urgent
          = [{ preempt with placed := 1000 }] ++ ({ station := 0, kind := .revise, placed := 999 } : UrgentFrame) :: []
        ∧ (∀ g ∈ [{ preempt with placed := 1000 }], urgingRevise.barred g) ∧ (999 : Tick) ≠ urgingRevise.now
        ∧ (urgingRevise.st 0).revise = some (revise 1000) ∧ 0 ≤ tickDiff (revise 1000).latest urgingRevise.now)
      ∧ ((openSlot (ordered 1000) 2).clc.urgent = [] ∧ (openSlot (ordered 1000) 2).offers 0 (order 1000))
      ∧ (∀ (j : StationIx) (y : WaitingOrder), (openSlot (ordered 1000) 2).offers j y →
        tickDiff y.deadline (openSlot (ordered 1000) 2).now < 2147483648
          ∧ (tickDiff (order 1000).deadline (openSlot (ordered 1000) 2).now < tickDiff y.deadline (openSlot (ordered 1000) 2).now
            ∨ tickDiff (order 1000).deadline (openSlot (ordered 1000) 2).now = tickDiff y.deadline (openSlot (ordered 1000) 2).now
              ∧ (0 : StationIx) ≤ j))
      ∧ (¬polling.clc.nonRoutine < 3 ∧ polling.clc.pollPtr < 16)
      ∧ ((openSlot running 0).clc.urgent = [] ∧ (openSlot running 0).clc.pollPtr < 16)
      ∧ (∀ (j : StationIx) (y : WaitingOrder), ¬(openSlot running 0).offers j y)
      ∧ (let s := openSlot State.reset 0;
      s.clc.slotOpen = true ∧ s.clc.exchange = none ∧ s.anyLoaded = false)
      ∧ running.clc.slotOpen = false :=
  ⟨by decide +kernel, by decide +kernel, by decide +kernel, by decide +kernel,
    fun j y h => (by decide +kernel : ∀ j : StationIx, ∀ y ∈ ((openSlot (ordered 1000) 2).st j).order,
      tickDiff y.deadline (openSlot (ordered 1000) 2).now < 2147483648
        ∧ (tickDiff (order 1000).deadline (openSlot (ordered 1000) 2).now < tickDiff y.deadline (openSlot (ordered 1000) 2).now
          ∨ tickDiff (order 1000).deadline (openSlot (ordered 1000) 2).now = tickDiff y.deadline (openSlot (ordered 1000) 2).now
            ∧ (0 : StationIx) ≤ j)) j y h.1,
    by decide +kernel, by decide +kernel,
    fun j y h => (by decide +kernel : ∀ j : StationIx, ∀ y ∈ ((openSlot running 0).st j).order, False) j y h.1,
    by decide +kernel, by decide +kernel⟩

/-- The POLL of station 0 in the slot of tick 1000. -/
def pollOf0 : Exchange := { station := 0, frame := .poll, slotTick := 1000, bytes := [], discarded := false }

theorem witness_FailedExchangesLoseTheLink :
    (∀ s ∈ [asking running .poll, asking (running.modSt 0 fun t => { t with misses := 2 }) .poll],
        s.clc.exchange = some pollOf0 ∧ pollOf0.discarded = false ∧ (s.st 0).config = some cfg0)
      ∧ (∀ x ∈ [([0x5B], FailureCause.noReply), (corridorWire 12 0x10 [], .address), (corridorWire 11 0x11 [], .kind)],
        readReply cfg0.drop cfg0.phases x.1 = .error x.2)
      ∧ ((asking running .poll).st 0).misses ≠ 2
      ∧ ((asking (running.modSt 0 fun t => { t with misses := 2 }) .poll).st 0).misses = 2
      ∧ (asking running .poll true).clc.exchange = some { pollOf0 with discarded := true }
      ∧ running.clc.exchange = none :=
  ⟨by decide +kernel, fun x hx => fails_with ((by decide +kernel : ∀ x ∈ [([0x5B], FailureCause.noReply),
      (corridorWire 12 0x10 [], .address), (corridorWire 11 0x11 [], .kind)], fails cfg0.drop cfg0.phases x.1 x.2 = true) x hx),
    by decide +kernel⟩

theorem witness_SuccessfulExchangeTakesTheReply :
    (∀ s ∈ [asking running .poll, asking (tidal 65535 85 true 0) .poll, asking (running.modSt 0 fun t => { t with sampleNo := some 4 }) .poll],
        s.clc.exchange = some pollOf0 ∧ pollOf0.discarded = false ∧ (s.st 0).config = some cfg0)
      ∧ readReply cfg0.drop cfg0.phases (heard (status 5 600)) = .ok (status 5 600)
      ∧ ((asking running .poll).st 0).sampleNo ≠ some (status 5 600).latched
      ∧ ((asking (running.modSt 0 fun t => { t with sampleNo := some 4 }) .poll).st 0).sampleNo = some (status 5 600).latched
      ∧ (∀ s ∈ [running, tidal 65535 85 true 0], ∀ m ∈ (s.st 0).model, circDiff 256 (((status 5 600).number.toNat : Int) - m.number.toNat) ≤ 0)
      ∧ (∃ p ∈ (tidal 65535 85 true 0).activePlan, p.mode = .tidal ∧ p.tidal = some 0)
      ∧ ¬∃ p ∈ running.activePlan, p.mode = .tidal ∧ p.tidal = some 0 :=
  ⟨by decide +kernel, reads_ok (by decide +kernel), by refine ⟨?_, ?_, ?_⟩ <;> decide +kernel⟩

/-- RUNNING, with station 0 LOST. -/
def lost : State := free.modSt 0 fun t => { t with link := .lost, misses := 3 }

theorem witness_ReturningLinkCreatesTheModel :
    (let s := asking lost .poll;
      s.clc.exchange = some pollOf0 ∧ pollOf0.frame = .poll ∧ pollOf0.discarded = false ∧ (s.st 0).config = some cfg0
        ∧ s.ps.corridor = .running ∧ s.activePlan = some plan ∧ (s.st 0).link = .lost ∧ (s.st 0).coord = .free
        ∧ (s.st 0).model = none ∧ (s.st 0).order = none ∧ (s.st 0).revise = none
        ∧ (s.table.all fun e => !(e.station = 0)) = true ∧ (status 9 30).notices = [] ∧ (status 9 30).checkOuts = [])
      ∧ readReply cfg0.drop cfg0.phases (heard (status 9 30)) = .ok (status 9 30) :=
  ⟨by decide +kernel, reads_ok (by decide +kernel)⟩

/-- The REVISE of station 0 has been sent in the slot of tick 1000, with an order waiting behind it. -/
def urgentRevise : UrgentFrame := { station := 0, kind := .revise, placed := 999 }
def revised (s : State) (v : WaitingRevise) : State :=
  let s := (revising s 1000).modSt 0 fun t => { t with revise := some v, order := some (order 1000) }
  asking { s with clc := { s.clc with urgent := [urgentRevise] } } (.revise v urgentRevise)

/-- STOPPING, with the RELEASE of station 0 outstanding alone. -/
def lastRelease : State := stopping.modSt 1 fun t => { t with order := none, coord := .free, synced := false }

/-- The PREEMPT of a route over station 0 has been sent, with a TRANSIT entry ACTIVE there. -/
def postedRoute : Entry := { entry 2 .emergency .route .scheduled with posted := true }
def preempted : State :=
  let s := withTable running [granted, postedRoute]
  asking { s with clc := { s.clc with urgent := [preempt] } } (.preempt 2 preempt)

theorem witness_DeliveredFramesTakeEffect :
    ((let s := asking (atTick (ordered 990) 975) (.order (order 990));
      s.clc.exchange = some { pollOf0 with frame := .order (order 990), slotTick := 975 } ∧ (s.st 0).config = some cfg0
        ∧ (s.st 0).order = some (order 990) ∧ (order 990).body = some body ∧ (s.st 0).model = some model
        ∧ (order 990).number = model.number + 1 ∧ (status 5 578).number = model.number ∧ model.basis ≠ .none
        ∧ (model.timeDifference 975 578).natAbs = 3 ∧ (s.st 0).link = .online ∧ (s.st 0).coord ≠ .held
        ∧ ((s.st 0).coord = .seeking → (s.st 0).synced = true))
      ∧ readReply cfg0.drop cfg0.phases (heard (status 5 578)) = .ok (status 5 578))
      ∧ (∀ x ∈ [(revised running (revise 1000), revise 1000), (revised stopping { revise 1000 with number := 6 }, { revise 1000 with number := 6 })],
        hears x.1 { pollOf0 with frame := .revise x.2 urgentRevise } (status 5 603) = true ∧ x.1.steady 0 (status 5 603)
          ∧ x.1.activeEmergency 0 = none ∧ (x.1.st 0).revise = some x.2 ∧ urgentRevise ∈ x.1.clc.urgent
          ∧ x.1.entry x.2.slot = some granted ∧ granted.outstanding = true ∧ granted.station = 0 ∧ (x.1.st 0).model = some model)
      ∧ ((revise 1000).number = model.number ∧ (status 5 603).number = model.number
        ∧ (({ model with basis := .order (revise 1000).course } : CycleModel).timeDifference 1000 603).natAbs = 3
        ∧ ((revised running (revise 1000)).st 0).synced = true)
      ∧ ((6 : Byte) ≠ model.number ∧ (revised stopping { revise 1000 with number := 6 }).agrees 0 1000 model (status 5 603)
        ∧ (revised stopping { revise 1000 with number := 6 }).ps.corridor ≠ .running)
      ∧ (∀ s ∈ [stopping, lastRelease], let t := asking s (.order (release 1000))
        hears t { pollOf0 with frame := .order (release 1000) } (status 5 600) = true ∧ (release 1000).body = none
          ∧ (t.st 0).order = some (release 1000) ∧ t.ps.corridor = .stopping ∧ (t.st 0).coord ≠ .free ∧ (t.st 0).link = .online
          ∧ t.CorridorLaw ∧ t.ps.enable = false)
      ∧ (stopping.releaseOut 1 = true ∧ ∀ j : StationIx, j ≠ 0 → lastRelease.releaseOut j = false)
      ∧ (hears preempted { pollOf0 with frame := .preempt 2 preempt } (status 5 600) = true ∧ (preempted.st 0).link = .online
        ∧ preempted.TableLaw ∧ preempted.EntryLaw ∧ preempted.entry 2 = some postedRoute ∧ postedRoute.origin = .route ∧ preempt ∈ preempted.clc.urgent
        ∧ preempt.isPreempt 2 = true ∧ (preempted.st 0).hold = preempted.anySource 0 ∧ preempted.ps.corridor = .running
        ∧ (preempted.st 0).coordinated = true ∧ (preempted.st 0).hold = false) :=
  ⟨⟨by decide +kernel, reads_ok (by decide +kernel)⟩, by refine ⟨?_, ?_, ?_, ?_, ?_, ?_⟩ <;> decide +kernel⟩

/-- The order of station 0 has a fold for an entry that arrives `pos` ticks after the zero of tick 1005. -/
def refolding (pos : Nat) (mins : List Nat) (takenOver : Bool) : State :=
  withTable (running.modSt 0 fun t => { t with minsInForce := mins, order := some { order 990 with
    body := some { body with fold := some { slot := 3, kind := .extend, amount := 50 }, takenOver } } })
    [{ granted with eta := 1005 + BitVec.ofNat 32 pos }]

/-- What a fold taken again meets: not inside the cycle, and then before E1, with room to extend, or with time for EARLY. -/
def refoldCase (pos : Int) (intervals mins : List Nat) : List Bool :=
  let e1 := intervals.headD 0
  let x := min plan.maxExtension (roomSum intervals.tail mins.tail)
  [decide ((intervals.sum : Int) ≤ pos), decide (pos < e1), decide (1 ≤ x ∧ pos < e1 + x),
    decide (max (pos - 20).toNat (e1 + mins.tail.sum) < intervals.sum)]

theorem witness_ResynchronisationMovesTheModelAndItsOrders_fold :
    (∀ x ∈ [(refolding 300 [100, 100] false, status 6 0), (refolding 300 [100, 100] false, status 5 596),
          (refolding 300 [100, 100] true, status 5 595), (refolding 595 [100, 100] false, status 5 595),
          (refolding 300 [100, 100] false, status 5 595)],
        let s := asking x.1 .poll
        hears s pollOf0 x.2 = true ∧ s.steady 0 x.2 ∧ (s.st 0).coordinated = true ∧ (s.st 0).synced = true ∧ (s.st 0).model = some model
          ∧ s.TableLaw ∧ (∀ e ∈ s.table, e.station = 0 → e.cls = .transit ∧ e.state = .active)
          ∧ (circDiff 256 ((x.2.number.toNat : Int) - model.number.toNat) ≠ 0 ∨ 3 < (model.timeDifference 1000 x.2.time).natAbs)
          ∧ (s.st 0).revise = none ∧ s.eq.records.length + 2 < 32
          ∧ (((s.st 0).order.bind (·.body)).bind (·.fold)).bind (fun f => s.entry f.slot) = s.table.head?
          ∧ ∀ e ∈ s.table, e.station = 0 ∧ e.outstanding = true)
      ∧ (order 990).number ≠ 6 + 1 ∧ tickDiff (tickAdd (tickAdd 1000 (-596)) 595) 1000 = -1
      ∧ (transition plan 0 [100, 100] (projectedError 600 600 running.tb.m 0 5)).intervals = [300, 295]
      ∧ [595, 299, 300, 399, 400, 594].map (refoldCase · [300, 295] [100, 100])
        = [[true, false, false, true], [false, true, true, true], [false, false, true, true], [false, false, true, true],
          [false, false, false, true], [false, false, false, true]]
      ∧ refoldCase 300 (transition plan 0 [100, 300] 5).intervals [100, 300] = [false, false, false, false] := by
  refine ⟨?_, ?_, ?_, ?_, ?_⟩ <;> decide +kernel

/-- Station 0 is not synchronised, with a model of a basis. -/
def unsyncedWith (coord : Coord) (basis : Basis) : State :=
  running.modSt 0 fun t => { t with coord, synced := false, model := some { model with basis } }

theorem witness_ResynchronisationMovesTheModelAndItsOrders_unsynchronised :
    (∀ x ∈ [(unsyncedWith .seeking model.basis, status 5 600), (unsyncedWith .free model.basis, status 6 0),
          (unsyncedWith .free model.basis, status 5 604), (unsyncedWith .free .none, status 5 600)],
        let s := asking x.1 .poll
        hears s pollOf0 x.2 = true ∧ s.steady 0 x.2 ∧ (s.st 0).synced = false ∧ (s.st 0).order.bind (·.body) = none
          ∧ (s.st 0).revise = none ∧ s.activeEmergency 0 = none
          ∧ (∀ m ∈ (s.st 0).model, circDiff 256 ((x.2.number.toNat : Int) - m.number.toNat) ≠ 0
            ∨ 3 < (m.timeDifference 1000 x.2.time).natAbs ∨ (s.st 0).coord = .seeking ∨ m.basis = .none ∧ s.activePlan ≠ none)
          ∧ ∀ p ∈ s.activePlan, ¬(p.mode = .tidal ∧ p.tidal = some 0)) := by decide +kernel

/-- A waiting order of station 0 whose fold names slot 3, which holds the entry of a delivered grant. -/
def foldStands : State :=
  withTable (refolding 300 [100, 100] false) ((refolding 300 [100, 100] false).table.map fun e => { e with outstanding := false })

/-- No grant is withdrawn: of no order, of an order without a fold, and of a fold whose grant's frame is not outstanding. -/
theorem witness_ResynchronisationMovesTheModelAndItsOrders_untouched :
    ∀ x ∈ [(running, false), (ordered 990, false), (foldStands, true)],
      let waiting := (x.1.st 0).order.bind (·.body)
      (x.1.st 0).revise = none ∧ (waiting.bind (·.fold)).isSome = x.2
        ∧ (((waiting.bind (·.fold)).bind fun f => x.1.entry f.slot).map (·.outstanding)) = (if x.2 then some false else none)
        ∧ x.1.TableLaw ∧ hears (asking x.1 .poll) pollOf0 (status 5 595) = true ∧ (asking x.1 .poll).steady 0 (status 5 595)
        ∧ (x.1.st 0).synced = true ∧ (x.1.st 0).coordinated = true ∧ (x.1.st 0).model = some model
        ∧ ∀ e ∈ x.1.table, e.station = 0 → e.cls = .transit ∧ e.state = .active := by decide +kernel

theorem witness_ResynchronisationMovesTheModelAndItsOrders :
    (∀ x ∈ [(running, status 6 0), (ordered 990, status 6 0), (ordered 990, status 5 596), (ordered 990, status 5 595),
          (revising running 1000, status 5 290), (revising running 1000, status 5 291), (withTable (revising running 1000) [], status 5 291)],
        let s := asking x.1 .poll
        hears s pollOf0 x.2 = true ∧ s.steady 0 x.2 ∧ (s.st 0).coordinated = true ∧ (s.st 0).synced = true ∧ (s.st 0).model = some model
          ∧ model.basis.course = some ⟨600, [300, 600]⟩ ∧ s.TableLaw ∧ (∀ e ∈ s.table, e.station = 0 → e.cls = .transit ∧ e.state = .active)
          ∧ (circDiff 256 ((x.2.number.toNat : Int) - model.number.toNat) ≠ 0 ∨ 3 < (model.timeDifference 1000 x.2.time).natAbs)
          ∧ ∀ p ∈ s.activePlan, ¬(p.mode = .tidal ∧ p.tidal = some 0))
      ∧ ((running.st 0).order = none ∧ (running.st 0).revise = none)
      ∧ (((ordered 990).st 0).order = some (order 990) ∧ (order 990).body = some body ∧ body.fold = none ∧ body.takenOver = false
        ∧ running.slot 1 = some ⟨plan, .valid⟩ ∧ (order 990).number ≠ 6 + 1 ∧ (order 990).number = 5 + 1)
      ∧ tickDiff (tickAdd (tickAdd 1000 (-596)) 595) 1000 = -1 ∧ tickDiff (tickAdd (tickAdd 1000 (-595)) 595) 1000 = 0
      ∧ ((revise 1000).number = 5 ∧ tickDiff (tickAdd (tickAdd 1000 (-290)) (revise 1000).offset) 1000 = 0
        ∧ tickDiff (tickAdd (tickAdd 1000 (-291)) (revise 1000).offset) 1000 = -1)
      ∧ ((revising running 1000).entry 3 = some granted ∧ granted.outstanding = true ∧ (withTable (revising running 1000) []).entry 3 = none
        ∧ running.eq.records.length + 2 ≤ 32) := by decide +kernel

/-- The POLL of station 0 in the slot of local time `l` of a cycle of course `c`. -/
def midCycle (s : State) (l : Nat) (c : Course) : State :=
  asking (atTick (s.modSt 0 fun t => { t with model := some { model with basis := .plan c } }) (400 + BitVec.ofNat 32 l)) .poll
def wide : Course := ⟨600, [300, 600]⟩
def tight : Course := ⟨400, [300, 400]⟩
def notice (cls eta : Nat) : Notice := { cls, level := 0, dir := 1, tag := 7, eta }
def pollAt (l : Nat) : Exchange := { pollOf0 with slotTick := 400 + BitVec.ofNat 32 l }
def noticing (l : Nat) (n : Notice) : Status := { status 5 l with notices := [n] }

/-- `n` entries of station 1 fill the table. -/
def crowded (s : State) (n : Nat) (cls : ReqClass) : State :=
  withTable s ((allSlots.take n).map fun i => { entry i cls .station .pending with station := 1 })

/-- The table is full, with one PENDING TRANSIT entry, the last but one, in slot 22. -/
def displacing (s : State) (last : Entry) : State :=
  withTable s ((crowded s 22 .emergency).table ++ [{ transitEntry with slot := 22 }, { last with slot := 23 }])

theorem witness_TransitNoticesAreEnteredAndEvaluated :
    (∀ x ∈ [(running, 290, wide, 0), (running, 290, wide, 1), (running, 291, wide, 1), (running, 299, wide, 11), (running, 300, wide, 10),
          (running, 290, wide, 31), (running, 290, tight, 1), (free, 290, wide, 1), (stopping, 290, wide, 1), (unsynced.modSt 0 fun t => { t with coord := .inStep }, 290, wide, 1),
          (crowded running 24 .emergency, 290, wide, 1), (running.modSt 0 fun t => { t with lockout := 1 }, 290, wide, 1)],
        let s := midCycle x.1 x.2.1 x.2.2.1
        let r := noticing x.2.1 (notice 0 x.2.2.2)
        hears s (pollAt x.2.1) r = true ∧ s.steady 0 r ∧ s.agrees 0 (400 + BitVec.ofNat 32 x.2.1) { model with basis := .plan x.2.2.1 } r
          ∧ s.TableLaw ∧ s.activeEmergency 0 = none ∧ ∀ y ∈ s.table, ¬(y.station = 0 ∧ y.cls = .transit ∧ y.state = .pending))
      ∧ ((free.st 0).coordinated = false ∧ stopping.ps.corridor ≠ .running ∧ 24 ≤ (crowded running 24 .emergency).table.length)
      ∧ (running.ps.corridor = .running ∧ (running.st 0).coordinated = true ∧ (running.st 0).synced = true ∧ running.table = []
        ∧ (running.st 0).maskOut = true ∧ running.activePlan = some plan ∧ (running.st 0).revise = none ∧ (running.st 0).lockout = 0)
      ∧ (wide.intervals.sum = wide.length ∧ tight.intervals.sum = tight.length ∧ 10 ≤ wide.firstEnd
        ∧ min 100 (roomSum wide.intervals.tail [100]) = 100 ∧ min 100 (roomSum tight.intervals.tail [100]) = 0)
      ∧ ([290, 300, 299 + 110, 300 + 100, 600].map fun pos => (decide (pos < 300), decide (pos < 300 + 100), decide (600 ≤ pos)))
        = [(true, true, false), (false, true, false), (false, false, false), (false, false, false), (false, false, true)] := by decide +kernel

/-- A route over both stations of the corridor. -/
def route : RouteFields := { dir := .outward, first := 1, last := 0, speed := 15, delay := 6000, level := 7, tag := 65535 }

set_option synthInstance.maxSize 2000 in
set_option synthInstance.maxHeartbeats 200000 in
theorem witness_EmergenciesAndCheckOutsReachTheTable :
    (∀ x ∈ [(running, noticing 300 (notice 1 1)), (withTable running [{ granted with outstanding := false }], noticing 300 (notice 1 1)),
          (crowded running 24 .emergency, noticing 300 (notice 1 1)), (displacing running transitEntry, noticing 300 (notice 1 1)),
          (withTable running [{ granted with outstanding := false }, postedRoute], noticing 300 (notice 1 1)),
          (displacing running postedRoute, noticing 300 (notice 1 1)),
          (running, { status 5 300 with checkOuts := [7] }), (withTable running [transitEntry, granted], { status 5 300 with checkOuts := [7] }),
          (withTable running [transitEntry], { status 5 300 with checkOuts := [7] }),
          (withTable running [emergencyEntry], status 5 300), (withTable running [{ emergencyEntry with seen := true }], status 5 300)],
        let s := midCycle x.1 300 wide
        hears s (pollAt 300) x.2 = true ∧ s.steady 0 x.2 ∧ s.agrees 0 700 { model with basis := .plan wide } x.2 ∧ s.TableLaw
          ∧ s.EntryLaw)
      ∧ (let s := midCycle (displacing (running.modSt 0 fun t => { t with preemptFlag := true, hold := true, coord := .held, synced := false })
          emergencyEntry) 300 wide
        let r : Status := { noticing 300 (notice 1 1) with preempt := true }
        hears s (pollAt 300) r = true ∧ s.steady 0 r ∧ s.agrees 0 700 { model with basis := .plan wide } r ∧ s.TableLaw ∧ s.EntryLaw
          ∧ s.activeEmergency 0 = some { emergencyEntry with slot := 23 })
      ∧ (let s := displacing running transitEntry
        24 ≤ s.table.length ∧ (∀ z ∈ s.table.take 22, ¬(z.cls = .transit ∧ z.state = .pending))
          ∧ s.table[22]? = some { transitEntry with slot := 22 } ∧ transitEntry.cls = .transit ∧ transitEntry.state = .pending
          ∧ s.activeEmergency 0 = none ∧ s.activeTransit 0 = none)
      ∧ ((withTable running [{ granted with outstanding := false }, postedRoute]).postedAt 0 = some postedRoute
        ∧ (displacing running postedRoute).postedAt 0 = some { postedRoute with slot := 23 }
        ∧ (displacing running postedRoute).activeTransit 0 = none)
      ∧ (let s := midCycle (withTable ((running.modSt 0 fun t => { t with preemptFlag := true, hold := true, coord := .held, synced := false }))
          [emergencyEntry]) 300 wide
        let r : Status := { status 5 300 with preempt := true }
        hears s (pollAt 300) r = true ∧ s.steady 0 r ∧ s.agrees 0 700 { model with basis := .plan wide } r ∧ s.TableLaw ∧ s.EntryLaw
          ∧ s.activeEmergency 0 = some emergencyEntry)
      ∧ (running.activeEmergency 0 = none ∧ running.activeTransit 0 = none
        ∧ (withTable running [{ granted with outstanding := false }]).activeTransit 0 = some { granted with outstanding := false })
      ∧ (24 ≤ (crowded running 24 .emergency).table.length ∧ (crowded running 24 .emergency).activeEmergency 0 = none)
      ∧ ((withTable running [transitEntry, granted]).table = [transitEntry, granted] ∧ granted.state = .active ∧ granted.tag = 7
        ∧ transitEntry.tag = 7 ∧ transitEntry.state ≠ .active)
      ∧ ((withTable running [emergencyEntry]).activeEmergency 0 = some emergencyEntry ∧ emergencyEntry.seen = false)
      ∧ (∀ s ∈ [crowded running 23 .emergency, crowded running 23 .transit, displacing running transitEntry, displacing running emergencyEntry],
        s.takesAtOnce ∧ s.TableLaw ∧ s.EntryLaw ∧ s.ps.corridor = .running ∧ s.count = some 2
          ∧ 24 < s.table.length + route.stations.length)
      ∧ (route.first < 2 ∧ route.last ≤ route.first ∧ 15 ≤ route.speed ∧ route.speed ≤ 90 ∧ route.delay ≤ 6000 ∧ route.level ≤ 7)
      ∧ ([crowded running 23 .emergency, crowded running 23 .transit, displacing running transitEntry, displacing running emergencyEntry].map
          fun s => ((s.table.filter fun e => e.cls = .transit && e.state = .pending).length, s.table.length + route.stations.length - 24))
        = [(0, 1), (23, 1), (2, 2), (1, 2)] := by
  refine ⟨?_, ?_, ?_, ?_, ?_, ?_, ?_, ?_, ?_⟩ <;> decide +kernel

theorem witness_RepliesAreReadBackOrFailTheirFirstCheck :
    ((255 < 256 ∧ (status 5 65535).fits ∧ 1 ≤ (status 5 65535).phase ∧ (status 5 65535).phase ≤ 2 ∧ (0x5C : Byte) ∉ [(0x5B : Byte)]))
      ∧ (((0x5C : Byte) ∉ ([] : List Byte))
      ∧ (255 < 256 ∧ (List.replicate 64 (0 : Byte)).length ≤ 64)
      ∧ (64 < rd8 [11, 0x10, 65] 2)
      ∧ ([(11 : Byte), 0x10].length < rd8 [11, 0x10] 2 + 5)
      ∧ (rd8 [11, 0x10, 0, 0, 0] 2 ≤ 64 ∧ rd8 [11, 0x10, 0, 0, 0] 2 + 5 ≤ [(11 : Byte), 0x10, 0, 0, 0].length
        ∧ rd16 [11, 0x10, 0, 0, 0] (0 + 3) ≠ (crc ([11, 0x10, 0, 0, 0].take (0 + 3))).toNat)) := by decide +kernel

theorem witness_HostFramesAreGathered :
    (idle.hli.rx = .hunting)
      ∧ (1 ≤ (1 : Byte).toNat ∧ (250 : Byte).toNat ≤ 250)
      ∧ ((0 : Byte).toNat = 0 ∧ 250 < (251 : Byte).toNat)
      ∧ (1 ≤ [(0 : Byte)].length ∧ [(0 : Byte)].length ≤ 250 ∧ (withRx idle (.gathering 1)).hli.rx = .gathering [(0 : Byte)].length)
      ∧ ([(0 : Byte), 0, 0, 0, 0].length = 1 + 4 ∧ rd16 [0, 0, 0, 0, 0] (1 + 2) ≠ (crc (be8 1 ++ [0, 0, 0, 0, 0].take (1 + 2))).toNat)
      ∧ ([(0 : Byte)].length ≠ 1 + 4 ∧ (withRx idle .ignoring).hli.rx = .ignoring) := by decide +kernel

def sent : TxFrame := .reply 0x92 1 [0]
def query : HostFrame := { kind := 0x12, echo := 1, payload := [0] }

theorem witness_SentFramesLetTheNextBegin :
    (idle.hli.transmit = [])
      ∧ ((withSend idle [sent, .notice none]).hli.transmit = sent :: .notice none :: [] ∧ (withSend idle [sent, .notice none]).hli.received = [])
      ∧ ((withSend idle [sent, .notice none, sent]).hli.transmit = sent :: .notice none :: [sent])
      ∧ ((withSend idle [sent, sent]).hli.transmit = sent :: sent :: [] ∧ sent ≠ .notice none)
      ∧ (let s := withHeld (withSend idle [sent]) [query];
      s.hli.transmit = [sent] ∧ s.hli.received = query :: [] ∧ s.hli.rx ≠ .ignoring ∧ (withRx s .ignoring).hli.rx = .ignoring)
      ∧ (∀ s ∈ [withSend idle [sent], withRx (withSend idle [sent]) .ignoring], s.hli.transmit = [sent] ∧ s.hli.received = [])
      ∧ (∀ g ∈ [sent, .notice none], (withHeld (withSend idle [sent, g]) [query]).hli.transmit = [sent, g]
        ∧ (withHeld (withSend idle [sent, g]) [query]).hli.received = query :: []
        ∧ (withRx (withHeld (withSend idle [sent, g]) [query]) .ignoring).hli.rx = .ignoring)
      ∧ (let s := withRx (withHeld idle [query]) .ignoring;
      s.hli.received = query :: [] ∧ s.hli.transmit.length ≤ 1 ∧ s.hli.transmit.head? ≠ some (.notice none)) := by decide +kernel

theorem witness_FramesWaitAreLostOrAreRefused :
    (((Instr.queryCorridor 1 [0]).frame = some query ∧ (Instr.queryCorridor 1 [0]).wellFormed = true)
      ∧ ((withRx idle .ignoring).hli.rx = .ignoring)
      ∧ (let s := withHeld idle [query, query, query];
      s.hli.rx ≠ .ignoring ∧ s.hli.received ≠ [] ∧ s.hli.received.length < 4)
      ∧ (2 ≤ (withSend idle [sent, sent]).hli.transmit.length)
      ∧ (4 ≤ (withHeld idle [query, query, query, query]).hli.received.length))
      ∧ ((idle.takesAtOnce ∧ isRequestKind 0 = false ∧ isRequestKind 0x19 = false ∧ payloadFits [0] = true)
      ∧ ((Instr.queryCorridor 1 [0, 0]).frame = some { query with payload := [0, 0] } ∧ isRequestKind 0x12 = true
        ∧ (Instr.queryCorridor 1 [0, 0]).wellFormed = true ∧ fixedLength (0x12 : Byte).toNat = some 1 ∧ [(0 : Byte), 0].length ≠ 1)) := by decide +kernel

def armed (s : State) : State := { s with hli := { s.hli with notice := true, armed := true } }

theorem witness_EventsJoinTheQueueOrOverflow :
    ((withEvents idle 31).eq.records.length < 32 ∧ (withEvents idle 31).eq.records ≠ [])
      ∧ (let s := armed (withSend idle [sent]);
      s.eq.records = [] ∧ s.hli.notice = true ∧ s.hli.armed = true ∧ s.hli.transmit ≠ [] ∧ s.hli.transmit.head? ≠ some (.notice none))
      ∧ ((armed idle).eq.records = [] ∧ (armed idle).hli.armed = true ∧ (armed idle).hli.notice = true ∧ (armed idle).hli.transmit = [])
      ∧ (32 ≤ (withEvents idle 32).eq.records.length) := by decide +kernel

theorem witness_DefineCorridorStartsAfresh :
    ((saving idle).takesAtOnce ∧ (saving idle).busy = true)
      ∧ (idle.busy = false ∧ (1 : Byte).toNat < 2 ∧ 16 < (17 : Byte).toNat)
      ∧ (running.takesAtOnce ∧ running.busy = false ∧ 2 ≤ (2 : Byte).toNat ∧ running.ps.corridor ≠ .idle)
      ∧ (idle.takesAtOnce ∧ (16 : Byte).toNat ≤ 16 ∧ idle.ps.corridor = .idle)
      ∧ (payloadFits [4, 4] = true ∧ [(4 : Byte), 4].length ≠ 1) := by decide +kernel

/-- IDLE, with station 1 not loaded. -/
def unloaded : State := idle.modSt 1 fun t => { t with config := none }

theorem witness_LoadStationStoresTheConfiguration :
    (idle.takesAtOnce ∧ idle.busy = false ∧ idle.count = some 2 ∧ (1 : StationIx).val < 2 ∧ cfg1.fits
        ∧ (cfg1.link.isSome = true ↔ (1 : StationIx).val + 1 < 2) ∧ cfg0.fits ∧ (cfg0.link.isSome = true ↔ (0 : StationIx).val + 1 < 2)
        ∧ idle.ps.corridor = .idle)
      ∧ (∀ (j : StationIx) (c' : StationConfig), j ≠ 1 → (idle.st j).config = some c' → c'.drop ≠ cfg1.drop)
      ∧ (∀ c0, (idle.st 1).config = some c0 → c0.drop = cfg1.drop)
      ∧ (∀ c0, (unloaded.st 1).config = some c0 → c0.drop ≠ cfg1.drop)
      ∧ running.ps.corridor ≠ .idle ∧ (running.st 1).config = some cfg1 ∧ cfg1.phases = { cfg1 with minimums := [110, 100] }.phases
      ∧ running.spoiledPlan 1 [110, 100] = none
      ∧ ((idle.st 1).config = some cfg1 ∧ { cfg1 with minimums := [100, 100, 100] }.fits
        ∧ cfg1.phases ≠ { cfg1 with minimums := [100, 100, 100] }.phases) :=
  ⟨by decide +kernel,
    fun j c' hj hc =>
      (by decide +kernel : ∀ j : StationIx, j ≠ 1 → ∀ c' ∈ (idle.st j).config, c'.drop ≠ cfg1.drop) j hj c' hc,
    fun c0 h => (by decide +kernel : ∀ c0 ∈ (idle.st 1).config, c0.drop = cfg1.drop) c0 h,
    fun c0 h => (by decide +kernel : ∀ c0 ∈ (unloaded.st 1).config, c0.drop ≠ cfg1.drop) c0 h,
    by refine ⟨?_, ?_, ?_, ?_, ?_⟩ <;> decide +kernel⟩

theorem witness_LoadPlanStoresTheRecord :
    (running.takesAtOnce ∧ running.busy = false ∧ 1 ≤ 8 ∧ 8 ≤ 8 ∧ plan.fits)
      ∧ (running.ps.active ≠ some 8 ∧ running.ps.staged ≠ some 8)
      ∧ (running.ps.active = some 1) := by decide +kernel

/-- LOAD_STATION of station 1 with a payload byte changed. -/
def loaded (i : Nat) (b : Byte) : List Byte := (cfg1.payload 1).set i b

/-- The fields out of range of a LOAD_STATION of station 1 with two phases. -/
def wrongField (p : List Byte) (f : Nat) : Bool :=
  let outside (low high x : Nat) : Bool := x < low || high < x
  (f = 2 && outside 1 31 (rd8 p 1)) || ((List.range 2).any fun i => f = 4 + i && outside 50 600 (rd16 p (3 + 2 * i)))
    || (f = 10 && outside 15 40 (rd8 p 7)) || (f = 11 && outside 15 40 (rd8 p 8)) || (f = 12 && 1 < rd8 p 9) || (f = 13 && 1 < rd8 p 10)

theorem witness_LoadStationRefusalsRunInOrder :
    (idle.takesAtOnce ∧ idle.cs.saving = none ∧ (saving idle).cs.saving ≠ none ∧ [(0 : Byte), 1].length < 3 ∧ 3 ≤ [(0 : Byte), 1, 2].length
        ∧ State.reset.takesAtOnce ∧ State.reset.count = none ∧ idle.count = some 2 ∧ 2 ≤ rd8 (loaded 0 2) 0
        ∧ (1 : StationIx).val = rd8 (cfg1.payload 1) 0)
      ∧ (rd8 (loaded 2 1) 2 < 2 ∧ 6 < rd8 (loaded 2 7) 2 ∧ rd8 (cfg1.payload 1) 2 = 2)
      ∧ (cfg1.payload 1).length = 7 + 2 * 2 ∧ (cfg1.payload 1 ++ [0]).length ≠ 7 + 2 * 2
      ∧ (∀ x ∈ [(loaded 1 0, 2), (loaded 1 32, 2), (loaded 4 49, 4), (loaded 5 3, 5), (loaded 7 14, 10), (loaded 8 41, 11), (loaded 9 2, 12), (loaded 10 2, 13)],
        x.1.length = 11 ∧ wrongField x.1 x.2 = true ∧ ∀ g < x.2, wrongField x.1 g = false)
      ∧ (∀ f < 14, wrongField (cfg1.payload 1) f = false)
      ∧ (running.ps.corridor ≠ .idle ∧ (running.st 1).config = some cfg1 ∧ cfg1.drop ≠ rd8 (loaded 1 13) 1
        ∧ cfg1.drop = rd8 (cfg1.payload 1) 1)
      ∧ ((0 : StationIx) ≠ 1 ∧ (idle.st 0).config.any (·.drop = rd8 (loaded 1 11) 1) = true ∧ ∀ i : StationIx, ¬i < 0)
      ∧ (let s := { boundary (some 3) with tb := running.tb }
        let u (m : List Nat) := s.modSt 1 fun t => { t with config := t.config.map fun c => { c with minimums := m } }
        s.takesAtOnce ∧ s.ps.active = some 1 ∧ s.ps.staged = some 3 ∧ s.slot 1 = some ⟨plan, .valid⟩
          ∧ (u [301, 100]).judge plan ≠ .valid) := by decide +kernel

/-- LOAD_PLAN of slot 8 with a payload byte changed. -/
def planned (i : Nat) (b : Byte) : List Byte := (be8 8 ++ plan.bytes).set i b

theorem witness_LoadPlanRefusalsRunInOrder :
    (idle.takesAtOnce ∧ idle.cs.saving = none ∧ (saving idle).cs.saving ≠ none ∧ rd8 (planned 0 8) 6 = 2 ∧ 15 < 8 + 8
        ∧ 8 + 8 ≤ (planned 0 8).length ∧ rd8 (planned 6 3) 6 = 3)
      ∧ (rd8 (planned 0 0) 0 < 1 ∧ 8 < rd8 (planned 0 9) 0 ∧ 3 < rd8 (planned 6 4) 6 ∧ rd8 (planned 15 0) 15 < 1 ∧ 16 < rd8 (planned 15 17) 15)
      ∧ (let p := planned 15 3;
      rd8 p 15 = 3 ∧ [rd8 p 17, rd8 p 23] = [2, 2] ∧ p.length ≤ 16 + (6 + 6) + 1)
      ∧ (let p := planned 17 1;
      rd8 p 15 = 2 ∧ [rd8 p 17, rd8 p 21] = [1, 44] ∧ rd8 p 17 < 2)
      ∧ (let p := planned 17 2;
      rd8 p 15 = 2 ∧ [rd8 p 17, rd8 p 23] = [2, 2] ∧ p.length = 16 + (6 + 6) ∧ (p ++ [0]).length ≠ 16 + (6 + 6))
      ∧ (rd16 (planned 1 0) 1 < 400 ∧ rd16 (planned 2 0x59) 1 % 10 ≠ 0 ∧ rd16 (planned 1 0) 1 = 88
        ∧ rd16 (planned 3 0x02) 3 = 512 ∧ (rd16 ((planned 3 0x02).set 4 0x58) 3 = 600) ∧ 15 < rd8 (planned 5 16) 5 ∧ rd8 (planned 7 1) 7 % 5 ≠ 0
        ∧ 1 < rd8 (planned 16 2) 16 ∧ rd16 ((planned 18 0).set 19 49) 18 < 50)
      ∧ (running.ps.active = some (rd8 (planned 0 1) 0)) := by decide +kernel

/-- Plan 1 with an item of station 1. -/
def withItem (splits : List Nat) : Plan := { plan with items := [⟨false, [300, 300]⟩, ⟨false, splits⟩] }

theorem witness_TheVerdictFollowsTheChecks :
    (State.reset.count = none ∧ unloaded.count = some 2 ∧ (unloaded.st 1).config = none)
      ∧ (idle.count = some 2 ∧ ∀ k : StationIx, k.val < 2 → (idle.st k).config ≠ none)
      ∧ (2 ≤ ({ plan with ref := 2 } : Plan).ref ∧ plan.ref < 2 ∧ ({ plan with tidal := some 2 } : Plan).tidal = some 2 ∧ plan.tidal = none)
      ∧ (planC.items.length ≠ 2 ∧ plan.items.length = 2)
      ∧ ((idle.st 0).config = some cfg0 ∧ [300, 300].length = cfg0.minimums.length ∧ [300, 300].sum = 600 ∧ ∀ x ∈ [300, 300].zip cfg0.minimums, x.2 ≤ x.1)
      ∧ (∀ l ∈ [[300, 200, 100], [300, 299], [501, 99]], (withItem l).items[(1 : StationIx).val]? = some ⟨false, l⟩)
      ∧ ((idle.st 1).config = some cfg1 ∧ [300, 200, 100].length ≠ cfg1.minimums.length ∧ [300, 299].length = cfg1.minimums.length
        ∧ [300, 299].sum ≠ 600 ∧ [501, 99].sum = 600 ∧ 99 < 100) := by decide +kernel

theorem witness_ScheduleEntriesAreAddedAndDeleted :
    ((idle.takesAtOnce ∧ idle.busy = false ∧ (saving idle).busy = true)
      ∧ (1439 < 1440 ∧ 127 < 128 ∧ 8 < 9 ∧ 1439 ≤ 1439)
      ∧ (let s := withSchedule idle schedule;
      s.ps.schedule = [] ++ (⟨390, 0x1F, 1⟩ : ScheduleEntry) :: schedule.tail ∧ (⟨390, 0x1F, 1⟩ : ScheduleEntry).start = 390
        ∧ (0x1F : BitVec 7) &&& BitVec.ofNat 7 1 ≠ 0)
      ∧ (let s := withSchedule idle (List.replicate 24 ⟨1, 1, 0⟩);
      24 ≤ s.ps.schedule.length ∧ ∀ y ∈ s.ps.schedule, ¬(y.start = 1439 ∧ y.days &&& BitVec.ofNat 7 127 ≠ 0))
      ∧ (let s := withSchedule idle schedule;
      s.ps.schedule.length < 24 ∧ (∀ y ∈ s.ps.schedule, ¬(y.start = 1439 ∧ y.days &&& BitVec.ofNat 7 127 ≠ 0))
        ∧ s.ps.schedule.Pairwise (fun x y => x.before y = true))
      ∧ (payloadFits [0] = true ∧ [(0 : Byte)].length ≠ 4))
      ∧ ((idle.takesAtOnce ∧ idle.busy = false ∧ (saving idle).busy = true)
      ∧ ((withSchedule idle schedule).ps.schedule = schedule.take 5 ++ (⟨1140, 0x7F, 0⟩ : ScheduleEntry) :: []
        ∧ (∀ y ∈ schedule.take 5, ¬(y.start = 1140 ∧ y.days = BitVec.ofNat 7 127)))
      ∧ (∀ y ∈ (withSchedule idle schedule).ps.schedule, ¬(y.start = 1439 ∧ y.days = BitVec.ofNat 7 127))
      ∧ ((withSchedule idle [⟨0, 1, 3⟩]).ps.schedule = [] ++ (⟨0, 1, 3⟩ : ScheduleEntry) :: [])) := by decide +kernel

theorem witness_SetClockKeepsTheWave :
    (running.takesAtOnce ∧ (0 : Byte).toNat < 1 ∧ 7 < (8 : Byte).toNat)
      ∧ (1 ≤ (7 : Byte).toNat ∧ (7 : Byte).toNat ≤ 7 ∧ 864000 ≤ 864000)
      ∧ (863999 < 864000 ∧ running.ps.corridor = .running
        ∧ (after (.setClock 1 (7 :: be32 863999)) running).ps.corridor = .running)
      ∧ (stopping.takesAtOnce ∧ stopping.ps.corridor = .stopping) := by decide +kernel

/-- IDLE, with the clock not set. -/
def unset : State := { idle with tb := { idle.tb with clockSet := false } }

theorem witness_StartEntersRunning :
    (let s := withOverride idle (some 1);
      s.takesAtOnce ∧ s.ps.corridor = .idle ∧ s.tb.clockSet = true ∧ s.geometryValid = true ∧ s.governing = 1
        ∧ s.slot 1 = some ⟨plan, .valid⟩)
      ∧ (unset.takesAtOnce ∧ unset.ps.corridor = .idle ∧ unset.tb.clockSet = false ∧ unset.ps.override = none) := by decide +kernel

theorem witness_StopReleasesTheStations :
    (running.takesAtOnce ∧ running.ps.corridor = .running ∧ ∃ k : StationIx, (running.st k).coord ≠ .free)
      ∧ (free.takesAtOnce ∧ free.ps.corridor = .running ∧ (∀ k : StationIx, (free.st k).coord = .free) ∧ ∀ k : StationIx, (free.st k).order = none)
      ∧ (∀ s ∈ [running, free], s.planValid s.governing = true ∧ s.eq.records.length + s.table.length + 3 ≤ 32) := by decide +kernel

/-- A week in which plan `g` governs always. -/
def weekly (s : State) (g : Nat) : State := withOverride (withSchedule s [⟨0, 0x7F, g⟩]) (some 1)
def ready : State := { weekly idle 3 with ps := { (weekly idle 3).ps with enable := true } }

/-- SELECT_PLAN of 0 and of a valid plan, in IDLE with the may-run terms failing and holding, and while RUNNING: the active plan, and 0
with stations in coordination and with none. -/
theorem witness_OverridesAreSelectedAndReleased_accepted :
    (∀ s ∈ [idle, unset, ready, running, free], s.takesAtOnce ∧ s.planValid (1 : Byte).toNat = true ∧ (1 : Byte).toNat ≤ 8)
      ∧ (0 : Byte).toNat = 0
      ∧ (unset.ps.corridor = .idle ∧ unset.tb.clockSet = false)
      ∧ (ready.ps.corridor = .idle ∧ ready.ps.enable = true ∧ ready.tb.clockSet = true ∧ ready.geometryValid = true
        ∧ ready.slot 1 = some ⟨plan, .valid⟩)
      ∧ (running.ps.corridor = .running ∧ running.ps.enable = true ∧ running.tb.clockSet = true ∧ running.geometryValid = true
        ∧ running.ps.active = some 1)
      ∧ (running.eq.records.length < 32 ∧ ∃ k : StationIx, (running.st k).coord ≠ .free)
      ∧ (free.ps.corridor = .running ∧ free.eq.records.length + free.table.length + 2 ≤ 32
        ∧ ∀ k : StationIx, (free.st k).coord = .free ∧ (free.st k).order = none) := by decide +kernel

theorem witness_OverridesAreSelectedAndReleased :
    ((running.takesAtOnce ∧ 8 < (9 : Byte).toNat)
      ∧ (running.slot (8 : Byte).toNat = none)
      ∧ (running.slot (2 : Byte).toNat = some ⟨planC, .invalid fault⟩)
      ∧ (running.planValid (3 : Byte).toNat = true ∧ running.ps.corridor = .running ∧ running.ps.enable = true ∧ running.tb.clockSet = true
        ∧ running.geometryValid = true ∧ running.ps.active ≠ some 3)
      ∧ (stopping.takesAtOnce ∧ stopping.ps.corridor = .stopping ∧ stopping.planValid (1 : Byte).toNat = true ∧ (0 : Byte).toNat = 0))
      ∧ ((idle.takesAtOnce ∧ idle.ps.override = none)
      ∧ ((weekly stopping 3).ps.override ≠ none ∧ (weekly stopping 3).ps.corridor = .stopping)
      ∧ (ready.takesAtOnce ∧ ready.ps.corridor = .idle ∧ ready.ps.enable = true ∧ ready.tb.clockSet = true ∧ ready.geometryValid = true
        ∧ ready.planValid ready.schedulePlan = true ∧ ready.schedulePlan ≠ 0)
      ∧ ((weekly running 0).ps.corridor = .running ∧ (weekly running 0).schedulePlan = 0)
      ∧ ((weekly running 1).ps.corridor = .running ∧ (weekly running 1).ps.enable = true ∧ (weekly running 1).tb.clockSet = true
        ∧ (weekly running 1).geometryValid = true ∧ (weekly running 1).schedulePlan ≠ 0
        ∧ (weekly running 1).ps.active = some (weekly running 1).schedulePlan)
      ∧ ((weekly running 3).ps.active ≠ some (weekly running 3).schedulePlan ∧ (weekly running 3).planValid (weekly running 3).schedulePlan = true)) := by decide +kernel

/-- RUNNING, with station 0 HELD by the host. -/
def held : State := running.modSt 0 fun t => { t with coord := .held, synced := false, hostHold := true, hold := true }

theorem witness_HoldStationSetsTheHostHold :
    (running.takesAtOnce ∧ running.count.any ((2 : Byte).toNat < ·) = false)
      ∧ ((1 : Byte).toNat = (1 : StationIx).val ∧ running.count.any ((1 : Byte).toNat < ·) = true ∧ 1 < (2 : Byte).toNat)
      ∧ (running.ps.corridor = .running ∧ (running.st 0).link = .online ∧ (running.st 0).coordinated = true ∧ (running.st 0).hold = false
        ∧ ((after (.holdStation 1 [0, 1]) running).st 0).hold = true)
      ∧ (held.takesAtOnce ∧ (held.st 0).coord = .held ∧ (held.st 0).hold = true ∧ ((after (.holdStation 1 [0, 0]) held).st 0).hold = false) := by decide +kernel

theorem witness_MasksPolarityAndGatesAreSet :
    ((idle.takesAtOnce ∧ (saving idle).busy = true ∧ State.reset.busy = false ∧ State.reset.count = none)
      ∧ (idle.busy = false ∧ idle.count = some 2 ∧ 2 ≤ (2 : Byte).toNat)
      ∧ ((1 : Byte).toNat = (1 : StationIx).val ∧ (1 : Byte).toNat < 2 ∧ 1 < (2 : Byte).toNat ∧ (1 : Byte).toNat ≤ 1 ∧ (0 : Byte).toNat ≤ 1))
      ∧ ((idle.takesAtOnce ∧ 65535 < 65536 ∧ (saving idle).busy = true ∧ 1 < (2 : Byte).toNat)
      ∧ (State.reset.takesAtOnce ∧ State.reset.busy = false ∧ (1 : Byte).toNat ≤ 1 ∧ State.reset.count = none)
      ∧ (idle.count = some 2 ∧ ∃ k : StationIx, (4 : Nat).testBit k.val = true ∧ (2 ≤ k.val ∨ (idle.st k).config = none))
      ∧ (∀ k : StationIx, (3 : Nat).testBit k.val = true → k.val < 2 ∧ (idle.st k).config ≠ none)) := by decide +kernel

theorem witness_AutostartSaveAndResetAnswerOrAreBusy :
    (idle.takesAtOnce ∧ idle.busy = false ∧ 1 < (2 : Byte).toNat ∧ (1 : Byte).toNat ≤ 1)
      ∧ ((saving idle).takesAtOnce ∧ (saving idle).busy = true ∧ (Instr.save 1 [0]).frame = some ⟨0x17, 1, [0]⟩
        ∧ (Instr.save 1 [0]).wellFormed = true ∧ (0x17 : Byte).toNat ∈ [0x01, 0x02, 0x03, 0x05, 0x06, 0x0D, 0x0E, 0x0F, 0x17, 0x18])
      ∧ (∀ n, fixedLength (0x17 : Byte).toNat = some n → [(0 : Byte)].length = n)
      ∧ (Instr.loadStation 1 [0, 1, 2]).frame = some ⟨0x02, 1, [0, 1, 2]⟩ ∧ 3 ≤ [(0 : Byte), 1, 2].length
      ∧ ∀ n, fixedLength (0x02 : Byte).toNat ≠ some n :=
  ⟨by decide +kernel, by decide +kernel, fun n h => by cases h; rfl, by decide +kernel, by decide +kernel, fun n h => by cases h⟩

/-- A field number is wrong in a ROUTE_CLEAR of a corridor of `n` stations (R126). -/
def wrongRoute (n : Nat) (p : List Byte) (f : Nat) : Bool :=
  match f with
  | 1 => 1 < rd8 p 0
  | 2 => n ≤ rd8 p 1
  | 3 => n ≤ rd8 p 2 || (rd8 p 0 = 0 && rd8 p 2 < rd8 p 1) || (rd8 p 0 = 1 && rd8 p 1 < rd8 p 2)
  | 4 => rd8 p 3 < 15 || 90 < rd8 p 3
  | 5 => 6000 < rd16 p 4
  | 6 => rd8 p 6 < 4 || 7 < rd8 p 6
  | _ => false

/-- ROUTE_CLEAR payloads at the bounds: direction 2, first 2, last 2, last behind first, speed 14 and 91, delay 6001, level 3 and 8. -/
def wrongRoutes : List (List Byte) := [[2, 2, 2, 14, 0x17, 0x71, 3, 0, 7], [0, 2, 2, 14, 0x17, 0x71, 3, 0, 7],
  [0, 1, 2, 14, 0x17, 0x71, 3, 0, 7], [0, 1, 0, 14, 0x17, 0x71, 3, 0, 7], [1, 1, 0, 14, 0x17, 0x71, 3, 0, 7],
  [1, 1, 0, 91, 0x17, 0x71, 3, 0, 7], [1, 1, 0, 90, 0x17, 0x71, 3, 0, 7], [1, 1, 0, 90, 0x17, 0x70, 3, 0, 7],
  [1, 1, 0, 90, 0x17, 0x70, 8, 0, 7]]

theorem witness_RouteClearMakesAnEntryPerStation :
    (running.takesAtOnce ∧ running.TableLaw ∧ running.ps.corridor = .running ∧ running.count = some 2 ∧ 2 ≤ 16 ∧ route.first < 2
        ∧ route.last ≤ route.first ∧ 15 ≤ route.speed ∧ route.delay ≤ 6000 ∧ route.level ≤ 7
        ∧ running.table.length + route.stations.length ≤ 24)
      ∧ (idle.takesAtOnce ∧ (List.replicate 9 (0 : Byte)).length = 9 ∧ idle.ps.corridor ≠ .running)
      ∧ (∀ f : Fin 7, 1 ≤ f.val → ∃ p ∈ wrongRoutes, wrongRoute 2 p f = true ∧ ∀ g : Fin 7, g < f → wrongRoute 2 p g = false)
      ∧ ∀ p ∈ wrongRoutes, p.length = 9 := by decide +kernel

theorem witness_CancelRequestEndsEveryTaggedEntry :
    (running.takesAtOnce ∧ running.TableLaw ∧ ∀ e ∈ running.table, e.tag ≠ 7)
      ∧ (let s := withTable running [transitEntry, { lateRoute with slot := 0, tag := 8 }];
      s.takesAtOnce ∧ s.TableLaw ∧ (∃ e ∈ s.table, e.tag = 7) ∧ s.eq.records.length + (s.table.filter (·.tag = 7)).length ≤ 32) := by decide +kernel

theorem witness_QueriesChangeNothing :
    (idle.takesAtOnce ∧ idle.count.any ((2 : Byte).toNat < ·) = false ∧ idle.count.any ((1 : Byte).toNat < ·) = true
        ∧ (1 : Byte).toNat = (1 : StationIx).val)
      ∧ ((0 : Byte).toNat < 1 ∧ 3 < (4 : Byte).toNat ∧ 1 ≤ (1 : Byte).toNat ∧ (3 : Byte).toNat ≤ 3)
      ∧ ((2 : Byte).toNat ≠ 0xFF ∧ (255 : Byte).toNat = 0xFF ∧ 24 ≤ (24 : Byte).toNat ∧ (23 : Byte).toNat < 24)
      ∧ (8 < (9 : Byte).toNat ∧ idle.slot (8 : Byte).toNat = none ∧ idle.slot (1 : Byte).toNat = some ⟨plan, .valid⟩) := by decide +kernel

theorem witness_EventsAreReadAndNoticesSet :
    (((withEvents idle 32).takesAtOnce)
      ∧ (idle.takesAtOnce ∧ idle.eq.records = []))
      ∧ ((idle.takesAtOnce ∧ 1 < (2 : Byte).toNat ∧ (0 : Byte).toNat = 0 ∧ (1 : Byte).toNat = 1 ∧ idle.eq.records = [])
      ∧ ((withEvents idle 1).takesAtOnce ∧ (withEvents idle 1).eq.records ≠ [])) := by decide +kernel

/-- Plan 1 with the half-cycle flag at station 0. -/
def halved : Plan := { plan with items := [⟨true, [150, 150]⟩, ⟨false, [300, 300]⟩] }

theorem witness_ChainsFollowTheLinks :
    (planB.base < planB.cycle ∧ plan.ref ≤ 0)
      ∧ (0 < ({ plan with ref := 1 } : Plan).ref)
      ∧ (plan.fits ∧ plan.items[(0 : StationIx).val]? = some ⟨false, [300, 300]⟩)
      ∧ (halved.fits ∧ halved.items[(0 : StationIx).val]? = some ⟨true, [150, 150]⟩)
      ∧ (weightedOffset 600 50 299 299 < 600 / 2 ∧ 600 / 2 ≤ weightedOffset 600 50 300 300)
      ∧ (0 < 600 ∧ 599 < 600)
      ∧ ([((60 : Int), (0 : Int)), (61, 0), (0, 61)].map fun x => circDiff 600 (x.1 - x.2)) = [60, 61, -61] := by
  refine ⟨?_, ?_, ?_, ?_, ?_, ?_, ?_⟩ <;> decide +kernel

theorem witness_AdvancesAndWeightingAreAsTheRulesSay :
    (idle.count = some 2 ∧ (0 : StationIx).val < 2 ∧ (1 : StationIx).val < 2 ∧ (idle.st 0).config = some cfg0
        ∧ (idle.st 1).config = some cfg1 ∧ plan.fits)
      ∧ (0 < 600 ∧ 599 < 600 ∧ 100 ≤ 100 ∧ 0 ≤ 100) := by decide +kernel

theorem witness_TheGoverningEntryBeganLast :
    (1 ≤ 7 ∧ 7 ≤ 7 ∧ 863999 < 864000 ∧ (∀ e ∈ schedule, e.start ≤ 1439 ∧ e.days ≠ 0) ∧ schedule ≠ [])
      ∧ unset.tb.clockSet = false
      ∧ ((withSchedule idle schedule).tb.clockSet = true ∧ governingEntry schedule 1 1200 = some ⟨1140, 0x7F, 0⟩)
      ∧ (idle.tb.clockSet = true ∧ governingEntry idle.ps.schedule 1 1200 = none) := by decide +kernel

/-! ## Steps of the exchanges, the requests and a save -/

/-- R122: a REVISE withdrawn when its latest tick is over leaves its entry PENDING until the next order point. -/
theorem test_withdrawn_revise :
    let s := withTable (revising (atTick running 690) 690) [{ granted with eta := 700 }]
    let t := after (.reviseLatestTickPassed 0) s
    (t.table.map (·.state), (t.st 0).revise, t.clc.urgent, t.eq.records.map (·.body))
      = ([.pending], none, [], [.grantWithdrawn 0 7 3]) := by decide +kernel

/-- R97: a zero that is due because a resynchronisation moved the model falls at the following tick. -/
theorem test_zero_after_resync :
    let s := after (.exchangeEnd (heard (status 5 604)) true true) (asking running .poll)
    (((after (.localZero 0) s).st 0).model.map (·.number), ((after (.localZero 0) (after .tick s)).st 0).model.map (·.number))
      = (some 5, some 6) := by decide +kernel

/-- R98: the flag that counts is the one before the reply, also when the reply's own flags hold the station. -/
theorem test_drift_of_a_station_held_in_the_reply :
    (after (.exchangeEnd (heard { status 5 604 with manual := true }) true true) (asking running .poll)).eq.records.map (·.body)
      = [.stationState 0 .held .hold, .drift 0 4 0] := by decide +kernel

/-- R130: a PENDING emergency, taken up when a posted route entry ends, supersedes no entry that ends with it. -/
theorem test_cancel_before_take_up :
    let s := withTable running [{ entry 0 .emergency .route .scheduled with posted := true },
      { entry 1 .emergency .station .pending with tag := 8 }, { granted with slot := 2 }]
    (after (.cancelRequest 1 [0, 7]) s).eq.records.map (·.body)
      = [.requestEnd 0 .cancelled none 7, .requestEnd 0 .cancelled (some .extend) 7] := by decide +kernel

/-- R138: frames of one event join URGENT in ascending station index. -/
theorem test_urgent_ascends :
    let busyAt (i : SlotIx) (k : StationIx) : Entry := { entry i .emergency .station .active with station := k }
    let waits (i : SlotIx) (k : StationIx) : Entry := { entry i .emergency .route .pending with station := k, tag := 8 }
    let s := withTable running [busyAt 0 1, busyAt 1 0, waits 2 0, waits 3 1]
    (after (.cancelRequest 1 [0, 7]) s).clc.urgent.map (·.station) = [0, 1] := by decide +kernel

/-- R51, R98: the reply to the last RELEASE, which restarts the corridor, is the station's synchronising reply, and writes no DRIFT. -/
theorem test_no_drift_after_a_restart :
    let s := asking { lastRelease with ps := { lastRelease.ps with enable := true } } (.order (release 1000))
    let t := after (.exchangeEnd (heard (status 5 604)) true true) s
    ((t.st 0).synced, (t.st 0).model.map (·.zeroTick), t.eq.records.map (·.body))
      = (true, some 396, [.stationState 0 .free .released, .corridorState .idle .stopped, .corridorState .running .restart, .planTaken 1 0,
        .stationState 0 .seeking .run, .stationState 1 .seeking .run]) := by decide +kernel

/-- R52: the STATION_STATE records of one CANCEL_REQUEST stand in ascending station index, behind its REQUEST_END records. -/
theorem test_cancel_reports_in_station_order :
    let s := both (withTable running [{ refusedRoute with station := 1 }, { refusedRoute with slot := 3 }])
      fun t => { t with coord := .held, synced := false, hold := true, routeActive := true }
    (after (.cancelRequest 1 [0, 7]) s).eq.records.map (·.body)
      = [.requestEnd 1 .cancelled none 7, .requestEnd 0 .cancelled none 7, .stationState 0 .seeking .unhold,
        .stationState 1 .seeking .unhold] := by decide +kernel

/-- R154: once the transmit queue has been sent empty, the RESET is carried out, whatever notice is placed in the same tick. -/
theorem test_reset_after_the_queue_is_empty :
    let s := after .hostFrameSent (armed (withRx (withSend idle [sent]) .ignoring))
    let t := s.emit .clockSet
    (t.hli.transmit, (after (.resetCarriedOut false) t).count, (after (.resetCarriedOut false) (openSlot t 0)).count)
      = ([.notice (some 1)], none, some 2) := by decide +kernel

/-- R159: a write ends within 30 ticks. -/
theorem test_save_limit :
    ((after (.saveComplete true) (atTick (saving idle) 1029)).busy, (after (.saveComplete true) (atTick (saving idle) 1030)).busy)
      = (false, true) := by decide +kernel

end Sys2Proof.Tests
end

section
-- One proof at a time: elaborated in parallel, each proof that waits for an earlier one holds a thread and its stack.
set_option Elab.async false

namespace Sys2Proof.Machine

/-! ## The state after reset -/

@[simp] theorem State.reset_st (k : StationIx) : State.reset.st k = .blank := by
  simp [State.st, State.reset]

@[simp] theorem State.reset_planSlot (g : Fin 8) : State.reset.ps.slots[g.val] = none := by
  simp [State.reset]

/-- The empty stored items lie in their ranges (R160). -/
theorem StoredItems.empty_fits : itemsFit StoredItems.empty.count (fun k => StoredItems.empty.configs[k])
    (fun g => StoredItems.empty.plans[g]) StoredItems.empty.schedule := by
  simp [itemsFit, StoredItems.empty, Config.scheduleSize]

end Sys2Proof.Machine

open Sys2Proof Sys2Proof.Machine

/-- Settles O3: every record, slot and queue of the reset state is blank, and each law holds of blanks. -/
theorem resetStateKeepsTheLaws : Obligations.ResetStateKeepsTheLaws := by
  unfold Obligations.ResetStateKeepsTheLaws
  refine ⟨?queue, ?table, ?entry, ?link, ?corridor, ?service, ?item, ?count, ?order⟩
  case queue => simp [State.QueueLaw, State.reset]
  case table => simp [State.TableLaw, State.reset]
  case entry => simp [State.EntryLaw, State.reset]
  case link => intro k _; simp [Station.blank]
  case corridor =>
    refine ⟨by simp [State.reset], by simp [State.reset], fun _ => ⟨rfl, by simp [Station.blank]⟩, ?_, by simp [Station.blank]⟩
    intro h; cases h
  case service =>
    refine ⟨by simp, fun _ => ⟨rfl, rfl⟩, ?_, ?_⟩ <;> (intro g h; cases h)
  case item => exact ⟨⟨by simp [State.reset], by simp [Station.blank], by simp, by decide, by simp [State.reset]⟩, fun _ => StoredItems.empty_fits⟩
  case count =>
    simp [State.CountLaw, Station.CountLaw, State.activePlan, Station.blank]
    simp [State.reset, Config.dayTicks]
  case order => intro k; simp [Station.blank]
end

section
/-! SUPPORT. What the step lemmas of the ranges and of the waiting orders speak of: the parts of the state that those laws read, and
the relations "nothing these laws read has changed but as they allow" (`Follow`) and "the laws still hold" (`Keeps`). -/

-- One proof at a time: elaborated in parallel, each proof that waits for an earlier one holds a thread and its stack.
set_option Elab.async false

namespace Sys2Proof.Machine

/-! ## The stored items -/

/-- The stored items and the image stand in `t` as in `s` (section 11.2). -/
structure SameItems (s t : State) : Prop where
  count : t.count = s.count := by simp
  config : ∀ k : StationIx, (t.st k).config = (s.st k).config := by simp
  plan : ∀ g : Fin 8, (t.ps.slots[g]).map (·.plan) = (s.ps.slots[g]).map (·.plan) := by simp
  schedule : t.ps.schedule = s.ps.schedule := by simp
  image : t.cs.image = s.cs.image := by simp

theorem SameItems.trans {s t u : State} (h : SameItems s t) (h' : SameItems t u) : SameItems s u where
  count := h'.count.trans h.count
  config k := (h'.config k).trans (h.config k)
  plan g := (h'.plan g).trans (h.plan g)
  schedule := h'.schedule.trans h.schedule
  image := h'.image.trans h.image

theorem SameItems.symm {s t : State} (h : SameItems s t) : SameItems t s where
  count := h.count.symm
  config k := (h.config k).symm
  plan g := (h.plan g).symm
  schedule := h.schedule.symm
  image := h.image.symm

theorem SameItems.itemLaw {s t : State} (h : SameItems s t) (hs : s.ItemLaw) : t.ItemLaw := by
  unfold State.ItemLaw
  rw [funext h.config, funext h.plan, h.count, h.schedule, h.image]
  exact hs

/-- What a slot number names is one of the eight slots (R13). -/
theorem State.slot_mem {s : State} {p : Nat} {x : PlanSlot} (h : s.slot p = some x) :
    ∃ g : Fin 8, g.val + 1 = p ∧ s.ps.slots[g] = some x := by
  unfold State.slot at h
  split at h
  · cases h
  · next hp =>
    rw [Option.join_eq_some_iff, Vector.getElem?_eq_some_iff] at h
    obtain ⟨hlt, hx⟩ := h
    exact ⟨⟨p - 1, hlt⟩, by simp; omega, hx⟩

theorem State.slot_succ (s : State) (g : Fin 8) : s.slot (g.val + 1) = s.ps.slots[g] := by
  simp [State.slot]

/-- The plan record that a slot number names follows the eight slots' records. -/
theorem SameItems.slotPlan {s t : State} (h : SameItems s t) (p : Nat) : (t.slot p).map (·.plan) = (s.slot p).map (·.plan) := by
  by_cases hp : p = 0
  · simp [State.slot, hp]
  · by_cases hlt : p - 1 < 8
    · have := h.plan ⟨p - 1, hlt⟩
      rw [← State.slot_succ, ← State.slot_succ] at this
      rwa [show p - 1 + 1 = p by omega] at this
    · simp [State.slot, hp, hlt]

/-- A stored plan record lies in its ranges (R14). -/
theorem State.ItemLaw.slot_fits {s : State} (h : s.ItemLaw) {p : Nat} {x : PlanSlot} (hx : s.slot p = some x) : x.plan.fits := by
  obtain ⟨⟨-, -, hplan, -⟩, -⟩ := h
  obtain ⟨g, -, hg⟩ := State.slot_mem hx
  exact hplan g x.plan (by simp at hg; simp [hg])

/-- The active plan is the record of the slot it names (R20). -/
theorem State.activePlan_eq_some {s : State} {p : Plan} :
    s.activePlan = some p ↔ ∃ g x, s.ps.active = some g ∧ s.slot g = some x ∧ x.plan = p := by
  simp [State.activePlan, Option.bind_eq_some_iff]

theorem State.ItemLaw.activePlan_fits {s : State} (h : s.ItemLaw) {p : Plan} (hp : s.activePlan = some p) : p.fits := by
  obtain ⟨g, x, -, hx, rfl⟩ := State.activePlan_eq_some.1 hp
  exact h.slot_fits hx

theorem SameItems.activePlan {s t : State} (h : SameItems s t) (ha : t.ps.active = s.ps.active) : t.activePlan = s.activePlan := by
  simp only [State.activePlan, ha, h.slotPlan]

/-- C is positive (Table 2-1). -/
theorem Plan.fits.cycle_pos {p : Plan} (h : p.fits) : 400 ≤ p.cycle := h.1

theorem Plan.fits.weight_le {p : Plan} (h : p.fits) : p.weight ≤ 100 := by
  obtain ⟨-, -, -, -, -, hw, -⟩ := h; exact hw

theorem Plan.fits.lockout_le {p : Plan} (h : p.fits) : p.lockout ≤ 8 := by
  obtain ⟨-, -, -, -, -, -, -, -, -, -, -, -, -, -, -, -, hl, -⟩ := h; exact hl

theorem Plan.localCycle_le (p : Plan) (k : StationIx) : p.localCycle k ≤ p.cycle := by
  unfold Plan.localCycle; split <;> omega

theorem Plan.fits.localCycle_pos {p : Plan} (h : p.fits) (k : StationIx) : 0 < p.localCycle k := by
  have := h.cycle_pos
  unfold Plan.localCycle; split <;> omega

/-- The longest cycle that lawful corrections give is 2400 and 40 percent of it (R92, Table 2-1). -/
theorem Plan.fits.longest_le {p : Plan} (h : p.fits) (k : StationIx) : p.longest k ≤ 3360 := by
  obtain ⟨-, hC, -, -, -, -, -, -, -, -, -, hl, -⟩ := h
  have hcl := p.localCycle_le k
  have hmul : p.localCycle k * p.lengthen ≤ 2400 * 40 := Nat.mul_le_mul (by omega) hl
  unfold Plan.longest; omega

/-! ## The laws, part by part -/

/-- The tidal measurement lies in its ranges (R76, R77). -/
structure Measurement.InRange (mu : Measurement) : Prop where
  weight : mu.weight ≤ 100
  accIn : mu.accIn ≤ Config.countLimit
  accOut : mu.accOut ≤ Config.countLimit
  ringLength : mu.ring.length ≤ 4
  ring : ∀ x ∈ mu.ring, x.1 ≤ Config.countLimit ∧ x.2 ≤ Config.countLimit

/-- The time of day and the day lie in their ranges (R32). -/
structure TimeBase.InRange (tb : TimeBase) : Prop where
  time : tb.time < Config.dayTicks
  dayLow : 1 ≤ tb.day
  dayHigh : tb.day ≤ 7

/-- m is below the active plan's C, every raw target and T below the Cl of its station, and both absent in IDLE (R35, R60). -/
structure State.TargetLaw (s : State) : Prop where
  master : ∀ p ∈ s.activePlan, s.tb.m < p.cycle
  raw : ∀ p ∈ s.activePlan, ∀ k : StationIx, ∀ x ∈ (s.st k).raw, x < p.localCycle k
  target : ∀ p ∈ s.activePlan, ∀ k : StationIx, ∀ x ∈ (s.st k).target, x < p.localCycle k
  idle : s.ps.corridor = .idle → ∀ k : StationIx, (s.st k).raw = none ∧ (s.st k).target = none

theorem State.countLaw_iff {s : State} : s.CountLaw ↔ s.tb.InRange ∧ s.clc.nonRoutine ≤ Config.nonRoutineLimit
    ∧ s.clc.pollPtr < s.count.getD 16 ∧ s.mu.InRange ∧ (∀ k : StationIx, (s.st k).CountLaw) ∧ s.TargetLaw := by
  constructor
  · rintro ⟨h1, h2, h3, h4, h5, h6, h7, h8, h9, h10, h11, h12, h13⟩
    exact ⟨⟨h1, h2, h3⟩, h4, h5, ⟨h6, h7, h8, h9, h10⟩, h11,
      ⟨fun p hp => (h12 p hp).1, fun p hp k => ((h12 p hp).2 k).1, fun p hp k => ((h12 p hp).2 k).2, h13⟩⟩
  · rintro ⟨⟨h1, h2, h3⟩, h4, h5, ⟨h6, h7, h8, h9, h10⟩, h11, ⟨h12, h13, h14, h15⟩⟩
    exact ⟨h1, h2, h3, h4, h5, h6, h7, h8, h9, h10, h11,
      fun p hp => ⟨h12 p hp, fun k => ⟨h13 p hp k, h14 p hp k⟩⟩, h15⟩

/-- The body of a station's waiting cycle order; a RELEASE has none (Table 7-1). -/
def Station.cycleOrder (t : Station) : Option OrderBody := t.order.bind (·.body)

/-- What the order law says of a station's configuration and minimums (R3). -/
structure Station.LoadedLaw (t : Station) : Prop where
  loaded : t.link = .online ∨ t.coord ≠ .free → t.config ≠ none
  mins : ∀ c ∈ t.config, t.minsInForce.length = c.phases ∧ (∀ y ∈ t.minsInForce, 50 ≤ y ∧ y ≤ 600)
    ∧ (t.minsPending = false → t.minsInForce = c.minimums)

/-- What the order law says of a waiting cycle order of station `k` whose record is `t` (R103, R108). -/
structure State.BodyLaw (s : State) (k : StationIx) (t : Station) (b : OrderBody) : Prop where
  running : s.ps.corridor = .running
  coordinated : t.coordinated = true
  synced : t.synced = true
  lawful : b.course.lawful t.minsInForce 3360
  plan : b.takenOver = false → s.ps.active = some b.plan ∧ ∀ x ∈ s.slot b.plan,
    judgeItem x.plan k t.minsInForce = none ∧ b.course.lawful t.minsInForce (x.plan.longest k)

theorem State.orderLaw_iff {s : State} : s.OrderLaw ↔
    ∀ k : StationIx, (s.st k).LoadedLaw ∧ ∀ b ∈ (s.st k).cycleOrder, s.BodyLaw k (s.st k) b := by
  refine forall_congr' fun k => ?_
  constructor
  · rintro ⟨h1, h2, h3⟩
    refine ⟨⟨h1, h2⟩, fun b hb => ?_⟩
    obtain ⟨o, ho, hb⟩ := Option.bind_eq_some_iff.1 hb
    obtain ⟨h4, h5, h6, h7, h8⟩ := h3 o ho b hb
    exact ⟨h4, h5, h6, h7, h8⟩
  · rintro ⟨⟨h1, h2⟩, h3⟩
    refine ⟨h1, h2, fun o ho b hb => ?_⟩
    obtain ⟨h4, h5, h6, h7, h8⟩ := h3 b (Option.bind_eq_some_iff.2 ⟨o, ho, hb⟩)
    exact ⟨h4, h5, h6, h7, h8⟩

/-! ## Station records -/

/-- From the record `a` to the record `b` of a station: the configuration and the minimums stand, counts stay in range, targets only
become absent, the station is not newly ONLINE or out of FREE unless it was one of them, and a waiting cycle order stands but for its
fold and deadline, beside a station that is coordinated and synchronised still. -/
structure Station.Follows (a b : Station) : Prop where
  config : b.config = a.config
  minsInForce : b.minsInForce = a.minsInForce
  minsPending : b.minsPending = a.minsPending
  counts : a.CountLaw → b.CountLaw
  raw : ∀ x ∈ b.raw, x ∈ a.raw
  target : ∀ x ∈ b.target, x ∈ a.target
  loaded : b.link = .online ∨ b.coord ≠ .free → a.link = .online ∨ a.coord ≠ .free
  order : ∀ y ∈ b.cycleOrder, ∃ x ∈ a.cycleOrder, x.course = y.course ∧ x.plan = y.plan ∧ x.takenOver = y.takenOver
    ∧ (a.coordinated = true → a.synced = true → b.coordinated = true ∧ b.synced = true)

namespace Station.Follows

theorem refl (a : Station) : a.Follows a where
  config := rfl
  minsInForce := rfl
  minsPending := rfl
  counts := id
  raw _ h := h
  target _ h := h
  loaded := id
  order y h := ⟨y, h, rfl, rfl, rfl, .intro⟩

theorem trans {a b c : Station} (h : a.Follows b) (h' : b.Follows c) : a.Follows c where
  config := h'.config.trans h.config
  minsInForce := h'.minsInForce.trans h.minsInForce
  minsPending := h'.minsPending.trans h.minsPending
  counts hc := h'.counts (h.counts hc)
  raw x hx := h.raw x (h'.raw x hx)
  target x hx := h.target x (h'.target x hx)
  loaded hl := h.loaded (h'.loaded hl)
  order z hz := by
    obtain ⟨y, hy, hc', hp', ht', hs'⟩ := h'.order z hz
    obtain ⟨x, hx, hc, hp, ht, hs⟩ := h.order y hy
    exact ⟨x, hx, hc.trans hc', hp.trans hp', ht.trans ht', fun h1 h2 => hs' (hs h1 h2).1 (hs h1 h2).2⟩

/-- A record in which nothing that the laws read has changed but the counts. -/
theorem of_counts {a b : Station} (counts : a.CountLaw → b.CountLaw) (config : b.config = a.config := by rfl)
    (minsInForce : b.minsInForce = a.minsInForce := by rfl) (minsPending : b.minsPending = a.minsPending := by rfl)
    (raw : b.raw = a.raw := by rfl) (target : b.target = a.target := by rfl) (link : b.link = a.link := by rfl)
    (coord : b.coord = a.coord := by rfl) (synced : b.synced = a.synced := by rfl)
    (order : b.order = a.order := by rfl) : a.Follows b where
  config := config
  minsInForce := minsInForce
  minsPending := minsPending
  counts := counts
  raw x h := by simpa [raw] using h
  target x h := by simpa [target] using h
  loaded h := by simpa [link, coord] using h
  order y h := ⟨y, by simpa [Station.cycleOrder, order] using h, rfl, rfl, rfl, fun h1 h2 => by
    rw [synced]; exact ⟨by simpa [Station.coordinated, coord] using h1, h2⟩⟩

/-- A record in which nothing that the laws read has changed. -/
theorem of_same {a b : Station} (config : b.config = a.config := by rfl) (minsInForce : b.minsInForce = a.minsInForce := by rfl)
    (minsPending : b.minsPending = a.minsPending := by rfl) (misses : b.misses = a.misses := by rfl)
    (age : b.age = a.age := by rfl) (queueIn : b.queueIn = a.queueIn := by rfl) (queueOut : b.queueOut = a.queueOut := by rfl)
    (lockout : b.lockout = a.lockout := by rfl) (raw : b.raw = a.raw := by rfl) (target : b.target = a.target := by rfl)
    (link : b.link = a.link := by rfl) (coord : b.coord = a.coord := by rfl) (synced : b.synced = a.synced := by rfl)
    (order : b.order = a.order := by rfl) : a.Follows b :=
  of_counts (fun h => by simpa [Station.CountLaw, misses, age, queueIn, queueOut, lockout] using h)
    config minsInForce minsPending raw target link coord synced order

/-- A record whose waiting cycle order is gone, if it had one, and nothing else that the laws read has changed but that it may have left
the coordinated states or its link. -/
theorem of_cycleOrder_none {a b : Station} (order : b.cycleOrder = none)
    (loaded : b.link = .online ∨ b.coord ≠ .free → a.link = .online ∨ a.coord ≠ .free)
    (config : b.config = a.config := by rfl) (minsInForce : b.minsInForce = a.minsInForce := by rfl)
    (minsPending : b.minsPending = a.minsPending := by rfl) (misses : b.misses = a.misses := by rfl)
    (age : b.age = a.age := by rfl) (queueIn : b.queueIn = a.queueIn := by rfl) (queueOut : b.queueOut = a.queueOut := by rfl)
    (lockout : b.lockout = a.lockout := by rfl) (raw : b.raw = a.raw := by rfl) (target : b.target = a.target := by rfl) :
    a.Follows b where
  config := config
  minsInForce := minsInForce
  minsPending := minsPending
  counts h := by simpa [Station.CountLaw, misses, age, queueIn, queueOut, lockout] using h
  raw x h := by simpa [raw] using h
  target x h := by simpa [target] using h
  loaded := loaded
  order y h := by rw [order] at h; cases h

/-- A record that was not coordinated: a waiting cycle order beside it, which the law excludes, is not spoken of. -/
theorem of_uncoordinated {a b : Station} (ha : a.coordinated = false)
    (loaded : b.link = .online ∨ b.coord ≠ .free → a.link = .online ∨ a.coord ≠ .free)
    (config : b.config = a.config := by rfl) (minsInForce : b.minsInForce = a.minsInForce := by rfl)
    (minsPending : b.minsPending = a.minsPending := by rfl) (misses : b.misses = a.misses := by rfl)
    (age : b.age = a.age := by rfl) (queueIn : b.queueIn = a.queueIn := by rfl) (queueOut : b.queueOut = a.queueOut := by rfl)
    (lockout : b.lockout = a.lockout := by rfl) (raw : b.raw = a.raw := by rfl) (target : b.target = a.target := by rfl)
    (order : b.order = a.order := by rfl) : a.Follows b where
  config := config
  minsInForce := minsInForce
  minsPending := minsPending
  counts h := by simpa [Station.CountLaw, misses, age, queueIn, queueOut, lockout] using h
  raw x h := by simpa [raw] using h
  target x h := by simpa [target] using h
  loaded := loaded
  order y h := ⟨y, by simpa [Station.cycleOrder, order] using h, rfl, rfl, rfl, fun h1 => by rw [ha] at h1; cases h1⟩

theorem coordinated_of_cycleOrder {a b : Station} (h : a.Follows b)
    (ha : a.cycleOrder ≠ none → a.coordinated = true ∧ a.synced = true) (hb : b.cycleOrder ≠ none) :
    b.coordinated = true ∧ b.synced = true := by
  obtain ⟨y, hy⟩ := Option.ne_none_iff_exists'.1 hb
  obtain ⟨x, hx, -, -, -, hs⟩ := h.order y hy
  obtain ⟨h1, h2⟩ := ha (by rw [hx]; simp)
  exact hs h1 h2

theorem cycleOrder_none {a b : Station} (h : a.Follows b) (ha : a.cycleOrder = none) : b.cycleOrder = none := by
  rw [Option.eq_none_iff_forall_ne_some]
  intro y hy
  obtain ⟨x, hx, -⟩ := h.order y hy
  rw [ha] at hx; cases hx

theorem loadedLaw {a b : Station} (h : a.Follows b) (ha : a.LoadedLaw) : b.LoadedLaw where
  loaded hl := by rw [h.config]; exact ha.loaded (h.loaded hl)
  mins c hc := by rw [h.minsInForce, h.minsPending]; exact ha.mins c (h.config ▸ hc)

end Station.Follows

/-! ## States -/

/-- Beside the station records, the parts that the laws of the ranges and of the waiting orders read stand in `t` as in `s`; the
tidal measurement may move within its ranges. -/
structure SameFrame (s t : State) : Prop where
  count : t.count = s.count := by simp
  plan : ∀ g : Fin 8, (t.ps.slots[g]).map (·.plan) = (s.ps.slots[g]).map (·.plan) := by simp
  schedule : t.ps.schedule = s.ps.schedule := by simp
  image : t.cs.image = s.cs.image := by simp
  active : t.ps.active = s.ps.active := by simp
  corridor : t.ps.corridor = s.ps.corridor := by simp
  time : t.tb.time = s.tb.time := by simp
  day : t.tb.day = s.tb.day := by simp
  master : t.tb.m = s.tb.m := by simp
  nonRoutine : t.clc.nonRoutine = s.clc.nonRoutine := by simp
  pollPtr : t.clc.pollPtr = s.clc.pollPtr := by simp
  mu : s.ItemLaw → s.mu.InRange → t.mu.InRange := by intro _ h; simpa using h

/-- From `s` to `t` every station record follows, and nothing else that the laws read has changed. -/
structure Follow (s t : State) : Prop where
  frame : SameFrame s t
  config : ∀ k : StationIx, (t.st k).config = (s.st k).config
  station : s.ItemLaw → ∀ k : StationIx, (s.st k).Follows (t.st k)

/-- From `s` to `t` the stored items stand, and the laws of the ranges and of the waiting orders are kept. -/
structure Keeps (s t : State) : Prop where
  items : SameItems s t
  count : s.ItemLaw → s.CountLaw → t.CountLaw
  order : s.ItemLaw → s.OrderLaw → t.OrderLaw

theorem SameFrame.trans {s t u : State} (hi : s.ItemLaw → t.ItemLaw) (h : SameFrame s t) (h' : SameFrame t u) : SameFrame s u where
  count := h'.count.trans h.count
  plan g := (h'.plan g).trans (h.plan g)
  schedule := h'.schedule.trans h.schedule
  image := h'.image.trans h.image
  active := h'.active.trans h.active
  corridor := h'.corridor.trans h.corridor
  time := h'.time.trans h.time
  day := h'.day.trans h.day
  master := h'.master.trans h.master
  nonRoutine := h'.nonRoutine.trans h.nonRoutine
  pollPtr := h'.pollPtr.trans h.pollPtr
  mu hs hm := h'.mu (hi hs) (h.mu hs hm)

namespace Follow

theorem items {s t : State} (h : Follow s t) : SameItems s t where
  count := h.frame.count
  config := h.config
  plan := h.frame.plan
  schedule := h.frame.schedule
  image := h.frame.image

theorem itemLaw_iff {s t : State} (h : Follow s t) : t.ItemLaw ↔ s.ItemLaw := ⟨h.items.symm.itemLaw, h.items.itemLaw⟩

theorem trans {s t u : State} (h : Follow s t) (h' : Follow t u) : Follow s u where
  frame := h.frame.trans h.items.itemLaw h'.frame
  config k := (h'.config k).trans (h.config k)
  station hs k := (h.station hs k).trans (h'.station (h.items.itemLaw hs) k)

/-- Nothing that the laws read has changed, the station records included. -/
theorem of_stations {s t : State} (frame : SameFrame s t) (stations : t.stations = s.stations := by simp) : Follow s t where
  frame := frame
  config k := by rw [State.st_congr stations]
  station _ k := by rw [State.st_congr stations]; exact .refl _

theorem refl (s : State) : Follow s s := of_stations {}

theorem foldl {α : Type} {f : State → α → State} (hf : ∀ s a, Follow s (f s a)) (l : List α) (s : State) :
    Follow s (l.foldl f s) := by
  induction l generalizing s with
  | nil => exact .refl s
  | cons a l ih => exact (hf s a).trans (ih _)

/-- One station's record follows. -/
theorem modSt {s : State} {k : StationIx} {f : Station → Station} (hc : (f (s.st k)).config = (s.st k).config)
    (h : s.ItemLaw → (s.st k).Follows (f (s.st k))) : Follow s (s.modSt k f) where
  frame := {}
  config j := by
    rw [State.st_modSt]
    split
    · next hj => subst hj; exact hc
    · rfl
  station hs j := by
    by_cases hj : j = k
    · subst hj; simpa using h hs
    · rw [State.st_modSt_ne s hj]; exact .refl _

/-- A station's record follows whatever the stored items. -/
theorem modSt' {s : State} {k : StationIx} {f : Station → Station} (h : (s.st k).Follows (f (s.st k))) : Follow s (s.modSt k f) :=
  modSt h.config fun _ => h

/-- One station's record follows, and the others stand. -/
theorem of_station {s t : State} (k : StationIx) (frame : SameFrame s t) (hne : ∀ j : StationIx, j ≠ k → t.st j = s.st j)
    (hk : (s.st k).Follows (t.st k)) : Follow s t where
  frame := frame
  config j := by
    by_cases hj : j = k
    · subst hj; exact hk.config
    · rw [hne j hj]
  station _ j := by
    by_cases hj : j = k
    · subst hj; exact hk
    · rw [hne j hj]; exact .refl _

end Follow

theorem Follow.targetLaw {s t : State} (h : Follow s t) (hi : s.ItemLaw) (hs : s.TargetLaw) : t.TargetLaw where
  master p hp := by
    rw [h.items.activePlan h.frame.active] at hp
    rw [h.frame.master]; exact hs.master p hp
  raw p hp k x hx := hs.raw p (h.items.activePlan h.frame.active ▸ hp) k x ((h.station hi k).raw x hx)
  target p hp k x hx := hs.target p (h.items.activePlan h.frame.active ▸ hp) k x ((h.station hi k).target x hx)
  idle hidle k := by
    obtain ⟨hr, ht⟩ := hs.idle (h.frame.corridor ▸ hidle) k
    constructor <;> rw [Option.eq_none_iff_forall_ne_some] <;> intro x hx
    · have := (h.station hi k).raw x hx
      rw [hr] at this; cases this
    · have := (h.station hi k).target x hx
      rw [ht] at this; cases this

theorem Follow.countLaw {s t : State} (h : Follow s t) (hi : s.ItemLaw) (hs : s.CountLaw) : t.CountLaw := by
  rw [State.countLaw_iff] at hs ⊢
  obtain ⟨⟨htime, hlow, hhigh⟩, hn, hp, hmu, hst, htgt⟩ := hs
  exact ⟨⟨h.frame.time ▸ htime, h.frame.day ▸ hlow, h.frame.day ▸ hhigh⟩, h.frame.nonRoutine ▸ hn,
    h.frame.pollPtr ▸ h.frame.count ▸ hp, h.frame.mu hi hmu, fun k => (h.station hi k).counts (hst k), h.targetLaw hi htgt⟩

/-- A waiting cycle order that stands but for its fold keeps its law beside a record that follows (R103, R115). -/
theorem Follow.bodyLaw {s t : State} (h : Follow s t) (hi : s.ItemLaw) {k : StationIx}
    (hs : ∀ b ∈ (s.st k).cycleOrder, s.BodyLaw k (s.st k) b) : ∀ b ∈ (t.st k).cycleOrder, t.BodyLaw k (t.st k) b := by
  intro y hy
  have hk := h.station hi k
  obtain ⟨x, hx, hcourse, hplan, htaken, hsync⟩ := hk.order y hy
  obtain ⟨hrun, hcoord, hsynced, hlawful, hactive⟩ := hs x hx
  obtain ⟨hcoord', hsynced'⟩ := hsync hcoord hsynced
  refine ⟨h.frame.corridor.trans hrun, hcoord', hsynced', ?_, fun ht => ?_⟩
  · rw [hk.minsInForce, ← hcourse]; exact hlawful
  · obtain ⟨ha, hj⟩ := hactive (htaken.trans ht)
    refine ⟨by rw [h.frame.active, ← hplan]; exact ha, fun x' hx' => ?_⟩
    have hslot := h.items.slotPlan y.plan
    rw [hx', Option.map_some, eq_comm, Option.map_eq_some_iff] at hslot
    obtain ⟨x0, hx0, hplan0⟩ := hslot
    rw [hk.minsInForce, ← hplan0, ← hcourse]
    exact hj x0 (hplan ▸ hx0)

theorem Follow.orderLaw {s t : State} (h : Follow s t) (hi : s.ItemLaw) (hs : s.OrderLaw) : t.OrderLaw := by
  rw [State.orderLaw_iff] at hs ⊢
  exact fun k => ⟨(h.station hi k).loadedLaw (hs k).1, h.bodyLaw hi (hs k).2⟩

namespace Keeps

theorem trans {s t u : State} (h : Keeps s t) (h' : Keeps t u) : Keeps s u where
  items := h.items.trans h'.items
  count hi hc := h'.count (h.items.itemLaw hi) (h.count hi hc)
  order hi ho := h'.order (h.items.itemLaw hi) (h.order hi ho)

end Keeps

theorem Follow.keeps {s t : State} (h : Follow s t) : Keeps s t := ⟨h.items, h.countLaw, h.orderLaw⟩

namespace Keeps

theorem refl (s : State) : Keeps s s := (Follow.refl s).keeps

theorem foldl {α : Type} {f : State → α → State} (hf : ∀ s a, Keeps s (f s a)) (l : List α) (s : State) :
    Keeps s (l.foldl f s) := by
  induction l generalizing s with
  | nil => exact .refl s
  | cons a l ih => exact (hf s a).trans (ih _)

end Keeps

end Sys2Proof.Machine
end

section
/-! SUPPORT. The operations on single stations, grants, holds and the request table follow: one lemma per operation (R47 to R58, R106,
R110 to R131). -/

-- One proof at a time: elaborated in parallel, each proof that waits for an earlier one holds a thread and its stack.
set_option Elab.async false

namespace Sys2Proof.Machine

variable (s : State)

/-! ## Records, events and the request table -/

theorem State.modSt_self {k : StationIx} {f : Station → Station} (h : f (s.st k) = s.st k) : s.modSt k f = s := by
  change { s with stations := s.stations.set k (f (s.st k)) } = s
  rw [h]
  congr 1
  exact Vector.set_getElem_self k.isLt

@[simp] theorem State.modEntry_st (i : SlotIx) (f : Entry → Entry) (k : StationIx) : (s.modEntry i f).st k = s.st k := rfl
@[simp] theorem State.dropUrgent_st (p : UrgentFrame → Bool) (k : StationIx) : (s.dropUrgent p).st k = s.st k := rfl
@[simp] theorem State.placeUrgent_st (x : StationIx) (y : UrgentKind) (k : StationIx) : (s.placeUrgent x y).st k = s.st k := rfl
@[simp] theorem State.dropUrgent_nonRoutine (p : UrgentFrame → Bool) : (s.dropUrgent p).clc.nonRoutine = s.clc.nonRoutine := rfl
@[simp] theorem State.dropUrgent_pollPtr (p : UrgentFrame → Bool) : (s.dropUrgent p).clc.pollPtr = s.clc.pollPtr := rfl
@[simp] theorem State.placeUrgent_nonRoutine (k : StationIx) (x : UrgentKind) :
    (s.placeUrgent k x).clc.nonRoutine = s.clc.nonRoutine := rfl
@[simp] theorem State.placeUrgent_pollPtr (k : StationIx) (x : UrgentKind) : (s.placeUrgent k x).clc.pollPtr = s.clc.pollPtr := rfl

theorem State.emit_follow (b : EventBody) : Follow s (s.emit b) := .of_stations {}
theorem State.modEntry_follow (i : SlotIx) (f : Entry → Entry) : Follow s (s.modEntry i f) := .of_stations {}
theorem State.removeEntry_follow (i : SlotIx) : Follow s (s.removeEntry i) := .of_stations {}
theorem State.dropUrgent_follow (p : UrgentFrame → Bool) : Follow s (s.dropUrgent p) := .of_stations {}
theorem State.placeUrgent_follow (k : StationIx) (x : UrgentKind) : Follow s (s.placeUrgent k x) := .of_stations {}
theorem State.modModel_follow (k : StationIx) (f : CycleModel → CycleModel) : Follow s (s.modModel k f) := .modSt' .of_same
theorem State.eachStation_follow {f : State → StationIx → State} (hf : ∀ s k, Follow s (f s k)) : Follow s (s.eachStation f) :=
  .foldl hf _ s

theorem State.addEntry_follow (mk : SlotIx → Entry) : Follow s (s.addEntry mk) := by
  obtain ⟨i, -, -, h⟩ | h := State.addEntry_cases s mk <;> rw [h]
  · exact .of_stations {}
  · exact .refl s

theorem State.setLockout_follow (k : StationIx) {n : Nat} (h : s.ItemLaw → n ≤ 8) : Follow s (s.setLockout k n) :=
  .modSt rfl fun hi => .of_counts fun ⟨h1, h2, h3, h4, _⟩ => ⟨h1, h2, h3, h4, h hi⟩

/-! ## Grants -/

theorem State.grantEntry_follow (e : Entry) (g : GrantKind) (b : Bool) : Follow s (s.grantEntry e g b) :=
  (s.modEntry_follow _ _).trans (State.emit_follow _ _)

theorem State.tryGrant_follow {k : StationIx} {p : Plan} {m : CycleModel} {c : Course} {e : Entry} {t : State}
    (hp : s.ItemLaw → p.fits) (h : s.tryGrant k p m c e = some t) : Follow s t := by
  unfold State.tryGrant at h
  dsimp only at h
  split at h
  · cases h; exact s.grantEntry_follow _ _ _
  · cases h
  · split at h
    · cases h
    · simp only [Option.map_eq_some_iff] at h
      obtain ⟨r, -, rfl⟩ := h
      have hrevise : Follow s ((s.modSt k fun t => { t with revise := some r }).placeUrgent k .revise) :=
        (Follow.modSt' .of_same).trans (State.placeUrgent_follow _ _ _)
      exact (hrevise.trans (State.setLockout_follow _ _ fun hi => (hp (hrevise.itemLaw_iff.1 hi)).lockout_le)).trans (State.grantEntry_follow _ _ _ _)

theorem State.grantFirst_follow (k : StationIx) {p : Plan} (m : CycleModel) (c : Course) (l : List Entry)
    (hp : s.ItemLaw → p.fits) : Follow s (s.grantFirst k p m c l) := by
  induction l with
  | nil => exact .refl s
  | cons e es ih =>
    unfold State.grantFirst
    cases h : s.tryGrant k p m c e with
    | none => exact ih
    | some t => exact s.tryGrant_follow hp h

theorem State.evaluateTransit_follow (k : StationIx) : Follow s (s.evaluateTransit k) := by
  unfold State.evaluateTransit
  dsimp only
  split
  · split
    · next hp =>
      split
      · exact s.grantFirst_follow k _ _ _ fun hi => hi.activePlan_fits hp
      · exact .refl s
    · exact .refl s
  · exact .refl s

theorem State.withdrawGrant_follow (i : SlotIx) : Follow s (s.withdrawGrant i) := by
  unfold State.withdrawGrant
  split
  · split
    · exact (((s.modEntry_follow _ _).trans (State.setLockout_follow _ _ fun _ => Nat.zero_le 8)).trans
        (State.emit_follow _ _)).trans (State.evaluateTransit_follow _ _)
    · exact .refl s
  · exact .refl s

theorem State.grantDelivered_follow (i : SlotIx) : Follow s (s.grantDelivered i) := s.modEntry_follow _ _

theorem State.foldLost_follow (f : Option Fold) : Follow s (s.foldLost f) := by
  cases f
  · exact .refl s
  · exact s.withdrawGrant_follow _

theorem State.foldDelivered_follow (f : Option Fold) : Follow s (s.foldDelivered f) := by
  cases f
  · exact .refl s
  · exact s.grantDelivered_follow _

theorem State.foldFirst_follow (k : StationIx) {p : Plan} (z : Tick) (ivs : List Nat) (l : List Entry)
    (hp : s.ItemLaw → p.fits) : Follow s (s.foldFirst k p z ivs l).1 := by
  induction l with
  | nil => exact .refl s
  | cons e es ih =>
    unfold State.foldFirst
    dsimp only
    split
    · exact s.grantEntry_follow _ _ _
    · exact ih
    · split
      · exact .refl s
      · exact (s.setLockout_follow _ fun hi => (hp hi).lockout_le).trans (State.grantEntry_follow _ _ _ _)

theorem State.offerFold_follow (k : StationIx) {p : Plan} (z : Tick) (ivs : List Nat) (hp : s.ItemLaw → p.fits) :
    Follow s (s.offerFold k p z ivs).1 := by
  unfold State.offerFold
  split
  · exact s.foldFirst_follow _ _ _ _ hp
  · exact .refl s

theorem State.refold_follow (k : StationIx) (p : Plan) (z : Tick) (ivs : List Nat) (f : Fold) :
    Follow s (s.refold k p z ivs f).1 := by
  unfold State.refold
  split
  · exact .refl s
  · dsimp only
    split
    · exact s.withdrawGrant_follow _
    · split
      · exact s.modEntry_follow _ _
      · exact (s.modEntry_follow _ _).trans (State.setLockout_follow _ _ fun _ => Nat.zero_le 8)

/-! ## Coordination states and holds -/

/-- A station's record without its waiting cycle order, if it has one (R106). -/
def Station.withoutCycleOrder (t : Station) : Station := if t.cycleOrder.isSome then { t with order := none } else t

@[simp] theorem Station.withoutCycleOrder_cycleOrder (t : Station) : t.withoutCycleOrder.cycleOrder = none := by
  unfold Station.withoutCycleOrder
  split
  · rfl
  · next h => simpa using h

/-- Nothing but the order changes in a record that loses its waiting cycle order. -/
theorem Station.withoutCycleOrder_eq (t : Station) : t.withoutCycleOrder = { t with order := t.withoutCycleOrder.order } := by
  unfold Station.withoutCycleOrder
  split <;> rfl

/-- A withdrawn cycle order leaves the record, and then its fold is reported (R106). -/
theorem State.withdrawOrder_eq (k : StationIx) :
    s.withdrawOrder k = (s.modSt k (·.withoutCycleOrder)).foldLost ((s.st k).cycleOrder.bind (·.fold)) := by
  unfold State.withdrawOrder
  cases h : (s.st k).cycleOrder with
  | none =>
    have hmod : s.modSt k (·.withoutCycleOrder) = s := s.modSt_self (by simp [Station.withoutCycleOrder, h])
    simp only [Station.cycleOrder] at h
    simp [h, State.foldLost, hmod]
  | some b =>
    have hmod : (s.modSt k (·.withoutCycleOrder)) = s.modSt k fun t => { t with order := none } := by
      have : (s.st k).withoutCycleOrder = { s.st k with order := none } := by simp [Station.withoutCycleOrder, h]
      exact congrArg (fun x => { s with stations := s.stations.set k x }) this
    simp only [Station.cycleOrder] at h
    simp [h, hmod]

theorem State.withdrawOrder_follow (k : StationIx) : Follow s (s.withdrawOrder k) := by
  rw [State.withdrawOrder_eq]
  refine (Follow.modSt' ?_).trans (State.foldLost_follow _ _)
  rw [Station.withoutCycleOrder_eq]
  exact .of_cycleOrder_none (by rw [← Station.withoutCycleOrder_eq]; simp) id

theorem State.clearRevise_follow (k : StationIx) : Follow s (s.clearRevise k) :=
  (Follow.modSt' .of_same).trans (State.dropUrgent_follow _ _)

theorem State.withdrawRevise_follow (k : StationIx) : Follow s (s.withdrawRevise k) := by
  unfold State.withdrawRevise
  split
  · exact (s.clearRevise_follow k).trans (State.withdrawGrant_follow _ _)
  · exact .refl s

theorem State.setCoord_st (j k : StationIx) (c : Coord) (x : StateCause) :
    (s.setCoord k c x).st j = if j = k then { s.st j with coord := c } else s.st j := by
  unfold State.setCoord
  split
  · next h =>
    split
    · next hj => subst hj; rw [← h]
    · rfl
  · rw [State.emit_st, State.st_modSt]

theorem State.setCoord_frame (k : StationIx) (c : Coord) (x : StateCause) : SameFrame s (s.setCoord k c x) := by
  unfold State.setCoord
  split
  · exact {}
  · exact {}

/-- A station's record after a change of its coordination state and a further change follows its record before. -/
theorem State.setCoord_modSt_follow (k : StationIx) (c : Coord) (x : StateCause) (f : Station → Station)
    (h : (s.st k).Follows (f { s.st k with coord := c })) : Follow s ((s.setCoord k c x).modSt k f) := by
  have hframe : SameFrame s ((s.setCoord k c x).modSt k f) :=
    (s.setCoord_frame k c x).trans (SameItems.itemLaw
      { count := (s.setCoord_frame k c x).count, config := fun j => by rw [State.setCoord_st]; split <;> rfl
        plan := (s.setCoord_frame k c x).plan, schedule := (s.setCoord_frame k c x).schedule
        image := (s.setCoord_frame k c x).image }) {}
  refine .of_station k hframe (fun j hj => ?_) ?_
  · rw [State.st_modSt_ne _ hj, State.setCoord_st, if_neg hj]
  · rw [State.st_modSt_same, State.setCoord_st, if_pos rfl]; exact h

theorem State.modSt_modSt (k : StationIx) (f g : Station → Station) : (s.modSt k f).modSt k g = s.modSt k fun t => g (f t) := by
  simp [State.modSt]

/-- A station that leaves the coordinated states loses its waiting cycle order with them (R48, R49). -/
theorem State.uncoordinate_follow (k : StationIx) {c : Coord} (x : StateCause) (h : c = .free ∨ (s.st k).link = .online) :
    Follow s (((s.setCoord k c x).modSt k (·.unsynced)).withdrawOrder k) := by
  rw [State.withdrawOrder_eq, State.modSt_modSt]
  refine (s.setCoord_modSt_follow k c x _ ?_).trans (State.foldLost_follow _ _)
  rw [Station.withoutCycleOrder_eq]
  refine .of_cycleOrder_none (by rw [← Station.withoutCycleOrder_eq]; simp) ?_
  rintro (hl | hc)
  · exact .inl hl
  · exact .inl (h.resolve_left hc)

theorem State.enterFree_follow (k : StationIx) (x : StateCause) : Follow s (s.enterFree k x) :=
  (s.uncoordinate_follow k x (.inl rfl)).trans (State.withdrawRevise_follow _ _)

theorem State.leaveFree_follow (k : StationIx) (x : StateCause) : Follow s (s.leaveFree k x) := by
  unfold State.leaveFree
  dsimp only
  split
  · next h =>
    simp only [Bool.and_eq_true, decide_eq_true_eq] at h
    obtain ⟨⟨-, hl⟩, hc⟩ := h
    refine .of_station k ((SameFrame.trans (fun hi => ?_) {} (State.setCoord_frame _ k _ x))) (fun j hj => ?_) ?_
    · exact (Follow.modSt' (.of_uncoordinated (by simp [Station.coordinated, hc]) fun _ => .inl hl)).items.itemLaw hi
    · rw [State.setCoord_st, if_neg hj, State.st_modSt_ne _ hj]
    · rw [State.setCoord_st, if_pos rfl, State.st_modSt_same]
      exact .of_uncoordinated (by simp [Station.coordinated, hc]) fun _ => .inl hl
  · exact .refl s

theorem State.holdChanged_follow (k : StationIx) : Follow s (s.holdChanged k) := by
  unfold State.holdChanged
  dsimp only
  split
  · next h =>
    simp only [Bool.and_eq_true, decide_eq_true_eq] at h
    split
    · split
      · exact (s.uncoordinate_follow k _ (.inr h.2)).trans (State.withdrawRevise_follow _ _)
      · exact .refl s
    · split
      · next hc =>
        have hmod : Follow s (s.modSt k fun t => { t with synced := false, jump := true }) :=
          .modSt' (.of_uncoordinated (by simp [Station.coordinated, hc]) id)
        refine .of_station k (hmod.frame.trans hmod.items.itemLaw (State.setCoord_frame _ k _ _)) (fun j hj => ?_) ?_
        · rw [State.setCoord_st, if_neg hj, State.st_modSt_ne _ hj]
        · rw [State.setCoord_st, if_pos rfl, State.st_modSt_same]
          exact .of_uncoordinated (by simp [Station.coordinated, hc]) fun _ => .inl h.2
      · exact .refl s
  · exact .refl s

theorem State.rehold_follow (k : StationIx) : Follow s (s.rehold k) := by
  unfold State.rehold
  dsimp only
  split
  · exact .refl s
  · exact (Follow.modSt' .of_same).trans (State.holdChanged_follow _ _)

theorem State.reholdAll_follow : Follow s s.reholdAll := s.eachStation_follow fun s k => s.rehold_follow k

/-! ## Departures and emergencies -/

@[simp] theorem OrderBody.dropFold_course (b : OrderBody) (i : SlotIx) : (b.dropFold i).course = b.course := by
  unfold OrderBody.dropFold; split <;> rfl
@[simp] theorem OrderBody.dropFold_plan (b : OrderBody) (i : SlotIx) : (b.dropFold i).plan = b.plan := by
  unfold OrderBody.dropFold; split <;> rfl
@[simp] theorem OrderBody.dropFold_takenOver (b : OrderBody) (i : SlotIx) : (b.dropFold i).takenOver = b.takenOver := by
  unfold OrderBody.dropFold; split <;> rfl

/-- A record whose order stands, but for its fold or its deadline. -/
theorem Station.Follows.of_order {a : Station} {o : Option WaitingOrder}
    (h : ∀ y ∈ o.bind (·.body), ∃ x ∈ a.cycleOrder, x.course = y.course ∧ x.plan = y.plan ∧ x.takenOver = y.takenOver) :
    a.Follows { a with order := o } where
  config := rfl
  minsInForce := rfl
  minsPending := rfl
  counts := id
  raw _ h := h
  target _ h := h
  loaded := id
  order y hy := by
    obtain ⟨x, hx, hc, hp, ht⟩ := h y hy
    exact ⟨x, hx, hc, hp, ht, .intro⟩

theorem State.letGo_follow (e : Entry) : Follow s (s.letGo e) := by
  have hfold (s : State) (k : StationIx) : Follow s (s.modSt k fun t =>
      { t with order := t.order.map fun o => { o with body := o.body.map (·.dropFold e.slot) } }) := by
    refine .modSt' (.of_order fun y hy => ?_)
    simp only [Option.bind_map, Option.mem_def, Option.bind_eq_some_iff, Function.comp, Option.map_eq_some_iff] at hy
    obtain ⟨o, ho, b, hb, rfl⟩ := hy
    exact ⟨b, Option.bind_eq_some_iff.2 ⟨o, ho, hb⟩, by simp⟩
  unfold State.letGo
  split
  · dsimp only
    split
    · exact (s.clearRevise_follow _).trans (hfold _ _)
    · exact hfold _ _
  · exact .refl s

theorem State.leave_follow (e : Entry) (o : ReqOutcome) : Follow s (s.leave e o) := by
  have hgone : Follow s ((s.emit (.requestEnd e.station o e.grant e.tag)).letGo e) :=
    (s.emit_follow _).trans (State.letGo_follow _ _)
  unfold State.leave
  dsimp only
  split
  · exact (hgone.trans (State.dropUrgent_follow _ _)).trans (State.removeEntry_follow _ _)
  · exact hgone.trans (State.removeEntry_follow _ _)

theorem State.routeEnded_follow (k : StationIx) : Follow s (s.routeEnded k) :=
  (Follow.modSt' .of_same).trans (State.rehold_follow _ _)

theorem State.endEntry_follow (e : Entry) (o : ReqOutcome) : Follow s (s.endEntry e o) := by
  unfold State.endEntry
  dsimp only
  split
  · exact (s.leave_follow e o).trans (State.routeEnded_follow _ _)
  · exact s.leave_follow e o

theorem State.supersede_follow (k : StationIx) : Follow s (s.supersede k) := by
  unfold State.supersede
  split
  · exact s.endEntry_follow _ _
  · exact .refl s

theorem State.post_follow (e : Entry) : Follow s (s.post e) :=
  (s.placeUrgent_follow _ _).trans (State.modEntry_follow _ _ _)

theorem State.unpost_follow (e : Entry) : Follow s (s.unpost e) :=
  (s.dropUrgent_follow _).trans (State.modEntry_follow _ _ _)

theorem State.activateEmergency_follow (e : Entry) : Follow s (s.activateEmergency e) :=
  (s.supersede_follow _).trans (State.modEntry_follow _ _ _)

theorem State.takeUp?_follow {k : StationIx} {t : State} (h : s.takeUp? k = some t) : Follow s t := by
  unfold State.takeUp? at h
  split at h
  · split at h
    · cases h
    · split at h
      · cases h; exact s.activateEmergency_follow _
      · split at h
        · cases h; exact s.post_follow _
        · cases h
  · cases h

theorem State.takeUp_follow (k : StationIx) : Follow s (s.takeUp k) := by
  unfold State.takeUp
  cases h : s.takeUp? k with
  | none => exact .refl s
  | some t => exact s.takeUp?_follow h

theorem State.resume_follow (k : StationIx) (a b : Bool) : Follow s (s.resume k a b) := by
  unfold State.resume
  split
  · split
    · next h => exact s.takeUp?_follow h
    · exact s.evaluateTransit_follow k
  · split
    · exact s.takeUp_follow k
    · exact .refl s

theorem State.leaveSlot_follow (i : SlotIx) (o : ReqOutcome) : Follow s (s.leaveSlot i o) := by
  unfold State.leaveSlot
  split
  · exact s.leave_follow _ _
  · exact .refl s

theorem State.depart_follow (i : SlotIx) (o : ReqOutcome) : Follow s (s.depart i o) := by
  unfold State.depart
  split
  · exact (s.endEntry_follow _ _).trans (State.resume_follow _ _ _ _)
  · exact .refl s

theorem State.departAll_follow (p : Entry → Bool) (o : ReqOutcome) : Follow s (s.departAll p o) := by
  have hleft (l : List SlotIx) : Follow s (l.foldl (fun s i => s.leaveSlot i o) s) := .foldl (fun s i => s.leaveSlot_follow i o) l s
  refine ((hleft _).trans (State.eachStation_follow _ fun s k => ?_)).trans (State.eachStation_follow _ fun s k => s.resume_follow _ _ _)
  split
  · exact s.routeEnded_follow k
  · exact .refl s

theorem State.displace_follow (n : Nat) : Follow s (s.displace n) := .foldl (fun s i => s.depart_follow i _) _ s

end Sys2Proof.Machine
end

section
/-! SUPPORT. Running the corridor keeps the laws of the ranges and of the waiting orders: plan evaluation, the entries to RUNNING, IDLE
and STOPPING, take-over, and the loss of a link (R20 to R24, R36, R39 to R43, R141). -/

-- One proof at a time: elaborated in parallel, each proof that waits for an earlier one holds a thread and its stack.
set_option Elab.async false

namespace Sys2Proof.Machine

variable (s : State)

/-! ## Every station's record -/

theorem mem_allStations (k : StationIx) : k ∈ allStations := by revert k; decide

theorem allStations_nodup : allStations.Nodup := by decide

/-- A record changed station by station in a list of stations. -/
theorem State.foldl_modSt_st (f : StationIx → Station → Station) (l : List StationIx) (h : l.Nodup) (k : StationIx) :
    (l.foldl (fun s k => s.modSt k (f k)) s).st k = if k ∈ l then f k (s.st k) else s.st k := by
  induction l generalizing s with
  | nil => simp
  | cons j l ih =>
    obtain ⟨hj, hl⟩ := List.nodup_cons.1 h
    rw [List.foldl_cons, ih _ hl, State.st_modSt]
    by_cases hk : k = j
    · subst hk; simp [hj]
    · simp [hk]

/-- Only the station records change in an action on every station that changes its record. -/
theorem State.foldl_modSt_eq (f : StationIx → Station → Station) (l : List StationIx) :
    l.foldl (fun s k => s.modSt k (f k)) s = { s with stations := (l.foldl (fun s k => s.modSt k (f k)) s).stations } := by
  induction l generalizing s with
  | nil => rfl
  | cons j l ih => rw [List.foldl_cons, ih]; rfl

@[simp] theorem State.modAll_st (f : Station → Station) (k : StationIx) : (s.modAll f).st k = f (s.st k) :=
  (s.foldl_modSt_st (fun _ => f) allStations allStations_nodup k).trans (if_pos (mem_allStations k))

theorem State.modAll_eq (f : Station → Station) : s.modAll f = { s with stations := (s.modAll f).stations } :=
  s.foldl_modSt_eq (fun _ => f) allStations

@[simp] theorem State.modAll_count (f : Station → Station) : (s.modAll f).count = s.count := by rw [State.modAll_eq]
@[simp] theorem State.modAll_tb (f : Station → Station) : (s.modAll f).tb = s.tb := by rw [State.modAll_eq]
@[simp] theorem State.modAll_ps (f : Station → Station) : (s.modAll f).ps = s.ps := by rw [State.modAll_eq]
@[simp] theorem State.modAll_clc (f : Station → Station) : (s.modAll f).clc = s.clc := by rw [State.modAll_eq]
@[simp] theorem State.modAll_mu (f : Station → Station) : (s.modAll f).mu = s.mu := by rw [State.modAll_eq]
@[simp] theorem State.modAll_cs (f : Station → Station) : (s.modAll f).cs = s.cs := by rw [State.modAll_eq]

/-! ## Plan evaluation (R23, R24) -/

/-- The Plan Store changes, but neither its plans and its schedule nor the active plan and the corridor state. -/
theorem Follow.of_ps {s : State} {ps : PlanStore} (slots : ps.slots = s.ps.slots := by rfl)
    (active : ps.active = s.ps.active := by rfl) (corridor : ps.corridor = s.ps.corridor := by rfl)
    (schedule : ps.schedule = s.ps.schedule := by rfl) : Follow s { s with ps } :=
  .of_stations { plan := fun g => by rw [slots], active := active, corridor := corridor, schedule := schedule }

theorem State.stage_follow (g : Option Nat) : Follow s (s.stage g) := .of_ps
theorem State.clearRejection_follow : Follow s s.clearRejection := .of_ps

theorem State.reject_follow (g : Nat) : Follow s (s.reject g) := by
  unfold State.reject
  split
  · exact .refl s
  · dsimp only
    exact (s.emit_follow _).trans .of_ps

theorem State.planEvaluation_follow : Follow s s.planEvaluation := by
  unfold State.planEvaluation
  dsimp only
  split
  · exact .refl s
  · split
    · exact s.clearRejection_follow
    · exact s.reject_follow _
  · split
    · exact (s.stage_follow _).trans (State.clearRejection_follow _)
    · split
      · exact s.clearRejection_follow
      · split
        · exact (s.stage_follow _).trans (State.clearRejection_follow _)
        · exact s.reject_follow _

/-! ## The tidal ring and W_eff (R76, R77) -/

theorem State.emptyRing_follow : Follow s s.emptyRing :=
  .of_stations { mu := fun _ h => ⟨h.weight, by simp [State.emptyRing], by simp [State.emptyRing], by simp [State.emptyRing],
    by simp [State.emptyRing]⟩ }

theorem State.takeWeight_follow {p : Plan} (hp : s.ItemLaw → p.fits) : Follow s (s.takeWeight p) :=
  .of_stations { mu := fun hi h => ⟨(hp hi).weight_le, h.accIn, h.accOut, h.ringLength, h.ring⟩ }

/-! ## Entry to RUNNING (R40) -/

/-- Outside RUNNING no station has a waiting cycle order. -/
theorem State.OrderLaw.cycleOrder_none {s : State} (h : s.OrderLaw) (hr : s.ps.corridor ≠ .running) (k : StationIx) :
    (s.st k).cycleOrder = none := by
  rw [Option.eq_none_iff_forall_ne_some]
  exact fun b hb => hr ((State.orderLaw_iff.1 h k).2 b hb).running

/-- Where no station has a waiting cycle order, the order law speaks of configurations and minimums alone. -/
theorem State.OrderLaw.of_cycleOrder_none {s : State} (hl : ∀ k, (s.st k).LoadedLaw) (ho : ∀ k, (s.st k).cycleOrder = none) :
    s.OrderLaw :=
  State.orderLaw_iff.2 fun k => ⟨hl k, fun b hb => by rw [ho k] at hb; cases hb⟩

theorem State.OrderLaw.loadedLaw {s : State} (h : s.OrderLaw) (k : StationIx) : (s.st k).LoadedLaw := (State.orderLaw_iff.1 h k).1

theorem State.modAll_follow {f : Station → Station} (h : ∀ t : Station, t.Follows (f t)) : Follow s (s.modAll f) :=
  .foldl (fun _ _ => .modSt' (h _)) _ s

theorem State.enterRunning_keeps (r : Reason) (hidle : s.ps.corridor = .idle) : Keeps s (s.enterRunning r) := by
  unfold State.enterRunning
  dsimp only
  split
  · exact .refl s
  · next x hx =>
    have hfits : s.ItemLaw → x.plan.fits := fun hi => hi.slot_fits hx
    have hstart : Keeps s { s with
        ps := { s.ps with corridor := .running, active := some s.governing, staged := none }
        tb := { s.tb with m := s.tb.time % x.plan.cycle } } := by
      refine ⟨{ config := fun _ => rfl }, fun hi hc => ?_, fun _ ho => ?_⟩
      · rw [State.countLaw_iff] at hc ⊢
        obtain ⟨htb, hn, hp, hmu, hst, htgt⟩ := hc
        refine ⟨⟨htb.time, htb.dayLow, htb.dayHigh⟩, hn, hp, hmu, hst, fun p hp => ?_, fun _ _ k y hy => ?_, fun _ _ k y hy => ?_,
          fun h => by cases h⟩
        · obtain ⟨g, x', hg, hx', rfl⟩ := State.activePlan_eq_some.1 hp
          cases hg
          obtain rfl : x = x' := Option.some.inj (hx.symm.trans hx')
          exact Nat.mod_lt _ (by have := (hfits hi).cycle_pos; omega)
        · have hr := (htgt.idle hidle k).1
          exact absurd (hr.symm.trans hy) (by simp)
        · have ht := (htgt.idle hidle k).2
          exact absurd (ht.symm.trans hy) (by simp)
      · exact .of_cycleOrder_none ho.loadedLaw fun k => ho.cycleOrder_none (by rw [hidle]; decide) k
    refine hstart.trans (Follow.keeps ?_)
    refine (((((State.emit_follow _ _).trans (State.emit_follow _ _)).trans (State.modAll_follow _ fun _ => .of_same)).trans
      (State.emptyRing_follow _)).trans (State.takeWeight_follow _ fun hi => hfits ?_)).trans
      (State.eachStation_follow _ fun s k => s.leaveFree_follow k .run)
    refine hstart.items.symm.itemLaw (Follow.itemLaw_iff ?_ |>.1 hi)
    exact (((State.emit_follow _ _).trans (State.emit_follow _ _)).trans (State.modAll_follow _ fun _ => .of_same)).trans
      (State.emptyRing_follow _)

/-! ## Entries to IDLE and STOPPING (R42, R43) -/

/-- The minimums that enter force are the stored ones (R3). -/
theorem Station.LoadedLaw.enterMins_mins {t : Station} (h : t.LoadedLaw) {c : StationConfig} (hc : t.config = some c) :
    t.enterMins.minsInForce = c.minimums := by
  unfold Station.enterMins
  split
  · simp [hc]
  · next hp => exact (h.mins c hc).2.2 (by simpa using hp)

@[simp] theorem Station.enterMins_config (t : Station) : t.enterMins.config = t.config := by
  unfold Station.enterMins; split <;> rfl

@[simp] theorem Station.enterMins_cycleOrder (t : Station) : t.enterMins.cycleOrder = t.cycleOrder := by
  unfold Station.enterMins; split <;> rfl

/-- Only the minimums change when a pending change of them enters force (R3). -/
theorem Station.enterMins_eq (t : Station) :
    t.enterMins = { t with minsInForce := t.enterMins.minsInForce, minsPending := t.enterMins.minsPending } := by
  unfold Station.enterMins; split <;> rfl

theorem Station.LoadedLaw.enterMins {t : Station} (h : t.LoadedLaw) (hc : ∀ c ∈ t.config, c.fits) : t.enterMins.LoadedLaw where
  loaded hl := by
    rw [Station.enterMins_eq] at hl
    rw [Station.enterMins_config]
    exact h.loaded hl
  mins c hm := by
    rw [Station.enterMins_config] at hm
    obtain ⟨-, -, -, -, hmins, -⟩ := hc c hm
    rw [h.enterMins_mins hm]
    exact ⟨rfl, hmins, fun _ => rfl⟩

theorem State.ItemLaw.config_fits {s : State} (h : s.ItemLaw) {k : StationIx} {c : StationConfig} (hc : (s.st k).config = some c) :
    c.fits ∧ s.count.any (k.val < ·) = true := h.1.2.1 k c hc

theorem Station.enterMins_counts {t : Station} (h : t.CountLaw) : t.enterMins.CountLaw := by
  rw [Station.enterMins_eq]; exact h

theorem State.enterIdle_keeps (hr : s.ps.corridor ≠ .running) : Keeps s s.enterIdle := by
  have hstart : Keeps s (({ s with
      ps := { s.ps with corridor := .idle, active := none, staged := none }
      tb := { s.tb with m := 0, masterDue := false } }).modAll fun t => t.enterMins.clearTarget) := by
    refine ⟨{ config := fun k => ?_ }, fun _ hc => ?_, fun hi ho => .of_cycleOrder_none (fun k => ?_) fun k => ?_⟩
    · rw [State.modAll_st]; exact Station.enterMins_config _
    · rw [State.countLaw_iff] at hc ⊢
      obtain ⟨htb, hn, hp, hmu, hst, -⟩ := hc
      simp only [State.modAll_tb, State.modAll_clc, State.modAll_count, State.modAll_mu, State.modAll_st]
      refine ⟨⟨htb.time, htb.dayLow, htb.dayHigh⟩, hn, hp, hmu, fun k => Station.enterMins_counts (hst k), ?_⟩
      have hnone (s : State) (ha : s.ps.active = none) : s.activePlan = none := by simp [State.activePlan, ha]
      refine ⟨fun p hp => ?_, fun p hp => ?_, fun p hp => ?_, fun _ k => by rw [State.modAll_st]; exact ⟨rfl, rfl⟩⟩ <;>
        · rw [hnone _ (by simp)] at hp; cases hp
    · rw [State.modAll_st]
      have := (ho.loadedLaw k).enterMins fun c hc => (hi.config_fits hc).1
      exact ⟨this.loaded, this.mins⟩
    · rw [State.modAll_st]
      exact (Station.enterMins_cycleOrder _).trans (ho.cycleOrder_none hr k)
  have hrest (u : State) : Follow u ((u.emptyRing.emit (.corridorState .idle .stopped)).planEvaluation) :=
    (u.emptyRing_follow.trans (State.emit_follow _ _)).trans (State.planEvaluation_follow _)
  unfold State.enterIdle
  dsimp only
  split
  · exact (hstart.trans (hrest _).keeps).trans
      (State.enterRunning_keeps _ _ ((hrest _).frame.corridor.trans (by simp)))
  · exact hstart.trans (hrest _).keeps

theorem State.settle_keeps : Keeps s s.settle := by
  unfold State.settle
  split
  · next h =>
    simp only [Bool.and_eq_true, decide_eq_true_eq] at h
    exact s.enterIdle_keeps (by rw [h.1]; decide)
  · exact .refl s

theorem State.placeRelease_follow (k : StationIx) : Follow s (s.placeRelease k) := .modSt' (.of_cycleOrder_none rfl id)

theorem State.releaseStation_follow (k : StationIx) : Follow s (s.releaseStation k) := by
  unfold State.releaseStation
  split
  · exact .refl s
  · exact (s.withdrawOrder_follow k).trans (State.placeRelease_follow _ k)

/-- No station but a coordinated and synchronised one has a waiting cycle order (R48, R49, R106). -/
abbrev State.OrdersAreCoordinated (s : State) : Prop :=
  ∀ k : StationIx, (s.st k).cycleOrder ≠ none → (s.st k).coordinated = true ∧ (s.st k).synced = true

/-- A station whose cycle order stands is coordinated, so the entry to STOPPING finds it out of FREE and withdraws its order (R42). -/
theorem State.releaseStation_cycleOrder {k : StationIx} (h : s.OrdersAreCoordinated) : ((s.releaseStation k).st k).cycleOrder = none := by
  unfold State.releaseStation
  split
  · next hf =>
    by_contra hne
    have := (h k hne).1
    simp [Station.coordinated, hf] at this
  · simp [State.placeRelease, Station.cycleOrder]

theorem State.releaseAll_cycleOrder (l : List StationIx) (hi : s.ItemLaw) (h : s.OrdersAreCoordinated) :
    ∀ k ∈ l, ((l.foldl State.releaseStation s).st k).cycleOrder = none := by
  induction l generalizing s with
  | nil => intro k hk; cases hk
  | cons j l ih =>
    have hj := s.releaseStation_follow j
    have hi' : (s.releaseStation j).ItemLaw := hj.items.itemLaw hi
    intro k hk
    rw [List.foldl_cons]
    obtain rfl | hk := List.mem_cons.1 hk
    · have hrest : Follow (s.releaseStation k) (l.foldl State.releaseStation (s.releaseStation k)) :=
        .foldl (fun s k => s.releaseStation_follow k) _ _
      exact (hrest.station hi' k).cycleOrder_none (s.releaseStation_cycleOrder h)
    · exact ih _ hi' (fun k => (hj.station hi k).coordinated_of_cycleOrder (h k)) k hk

theorem State.OrderLaw.ordersAreCoordinated {s : State} (h : s.OrderLaw) : s.OrdersAreCoordinated := by
  intro k hk
  obtain ⟨b, hb⟩ := Option.ne_none_iff_exists'.1 hk
  have := (State.orderLaw_iff.1 h k).2 b hb
  exact ⟨this.coordinated, this.synced⟩

/-- The corridor state becomes STOPPING, which the ranges do not read but for IDLE. -/
theorem State.CountLaw.stopping {s : State} (h : s.CountLaw) :
    ({ s with ps := { s.ps with corridor := .stopping } } : State).CountLaw := by
  rw [State.countLaw_iff] at h ⊢
  obtain ⟨htb, hn, hp, hmu, hst, htgt⟩ := h
  exact ⟨htb, hn, hp, hmu, hst, htgt.master, htgt.raw, htgt.target, fun h => by cases h⟩

theorem State.enterStopping_keeps (r : Reason) : Keeps s (s.enterStopping r) := by
  let s0 : State := { s with ps := { s.ps with corridor := .stopping } }
  let s1 : State := (s0.emit (.corridorState .stopping r)).stage none
  have h0 : SameItems s s0 := ⟨rfl, fun _ => rfl, fun _ => rfl, rfl, rfl⟩
  have h1 : Follow s0 s1 := (State.emit_follow _ _).trans (State.stage_follow _ _)
  have hall (u : State) : Follow u (u.eachStation (·.releaseStation)) := u.eachStation_follow fun s k => s.releaseStation_follow k
  have hreleased : Follow s0 (s1.eachStation (·.releaseStation)) := h1.trans (hall s1)
  have hkeeps : Keeps s (s1.eachStation (·.releaseStation)) := by
    refine ⟨h0.trans hreleased.items, fun hi hc => hreleased.countLaw (h0.itemLaw hi) hc.stopping, fun hi ho => ?_⟩
    have hi0 := h0.itemLaw hi
    refine .of_cycleOrder_none (fun k => (hreleased.station hi0 k).loadedLaw (ho.loadedLaw k)) fun k => ?_
    exact s1.releaseAll_cycleOrder allStations (h1.items.itemLaw hi0)
      (fun k => (h1.station hi0 k).coordinated_of_cycleOrder (ho.ordersAreCoordinated k)) k (mem_allStations k)
  have heq : s.enterStopping r = ((s1.eachStation (·.releaseStation)).departAll (·.endsAtStop) .cancelled).settle := rfl
  rw [heq]
  exact (hkeeps.trans (State.departAll_follow _ _ _).keeps).trans (State.settle_keeps _)

/-! ## The occasions and take-over (R36, R39) -/

theorem State.evaluate_keeps (r : Reason) : Keeps s (s.evaluate r) := by
  have hplan := s.planEvaluation_follow.keeps
  unfold State.evaluate
  dsimp only
  split
  · next h =>
    split
    · exact hplan.trans (State.enterRunning_keeps _ r h)
    · exact hplan
  · split
    · exact hplan
    · exact hplan.trans (State.enterStopping_keeps _ r)
  · exact hplan

/-- A take-over clears the targets, sets m to 0 and marks the waiting cycle orders, which R108 bounds no longer by a plan (R36, R60, R107). -/
theorem State.takeOver_keeps (g : Nat) : Keeps s (s.takeOver g) := by
  let s0 : State := { s with ps := { s.ps with active := some g, staged := none }, tb := { s.tb with m := 0 } }
  have htaken : Keeps s ((s0.emit (.planTaken g (s.ps.active.getD 0))).modAll fun t => t.clearTarget.noteTakeOver) := by
    have hi0 : SameItems s ((s0.emit (.planTaken g (s.ps.active.getD 0))).modAll fun t => t.clearTarget.noteTakeOver) :=
      { config := fun k => by rw [State.modAll_st, State.emit_st]; rfl
        count := by simp [s0], plan := fun _ => by simp [s0], schedule := by simp [s0], image := by simp [s0] }
    refine ⟨hi0, fun hi hc => ?_, fun hi ho => ?_⟩
    · rw [State.countLaw_iff] at hc ⊢
      obtain ⟨htb, hn, hp, hmu, hst, -⟩ := hc
      simp only [State.modAll_tb, State.modAll_clc, State.modAll_count, State.modAll_mu, State.modAll_st, State.emit_tb,
        State.emit_clc, State.emit_count, State.emit_mu, State.emit_st]
      refine ⟨⟨htb.time, htb.dayLow, htb.dayHigh⟩, hn, hp, hmu, hst, fun p hp => ?_, fun p _ k x hx => ?_, fun p _ k x hx => ?_,
        fun _ k => by rw [State.modAll_st]; exact ⟨rfl, rfl⟩⟩
      · have := ((hi0.itemLaw hi).activePlan_fits hp).cycle_pos
        simp [s0]; omega
      · rw [State.modAll_st] at hx; cases hx
      · rw [State.modAll_st] at hx; cases hx
    · rw [State.orderLaw_iff] at ho ⊢
      intro k
      rw [State.modAll_st, State.emit_st]
      obtain ⟨hl, hb⟩ := ho k
      refine ⟨⟨hl.loaded, hl.mins⟩, fun y hy => ?_⟩
      simp only [Station.cycleOrder, Station.noteTakeOver, Option.bind_map, Option.mem_def, Option.bind_eq_some_iff,
        Function.comp, Option.map_eq_some_iff] at hy
      obtain ⟨o, ho, b, hob, rfl⟩ := hy
      have hlaw := hb b (Option.bind_eq_some_iff.2 ⟨o, ho, hob⟩)
      exact ⟨by simpa [s0] using hlaw.running, hlaw.coordinated, hlaw.synced, hlaw.lawful, fun h => by cases h⟩
  have hring := htaken.trans (State.emptyRing_follow _).keeps
  unfold State.takeOver
  dsimp only
  split
  · next hp => exact hring.trans (State.takeWeight_follow _ fun hi => hi.activePlan_fits hp).keeps
  · exact hring

/-! ## Loss of a link (R141) -/

/-- The first parts of a link's loss: LOST with 3 misses, LINK_LOST, FREE, and no cycle model (R141). -/
def State.linkGone (k : StationIx) (c : LossCause) : State :=
  (((s.modSt k fun t => { t with link := .lost, misses := Config.missLimit }).emit (.linkLost k c)).enterFree k .linkLost).modSt k
    fun t => { t with model := none }

/-- A posted PREEMPT of the station is withdrawn, and its emergencies are taken up (R125, R141). -/
def State.unpostAt (k : StationIx) : State :=
  match s.postedAt k with
  | some e => (s.unpost e).takeUp k
  | none => s

/-- The last parts of a link's loss, but for the tidal ring: the station's frames leave ORDER and URGENT, a stop that waited for it can
end, and its queue sample is stale (R43, R141). -/
def State.dropFrames (k : StationIx) : State :=
  (((s.modSt k fun t => { t with order := none }).dropUrgent (·.station = k)).settle).modSt k fun t =>
    { t with age := Config.sampleLife }

theorem State.loseLink_eq (k : StationIx) (c : LossCause) :
    s.loseLink k c = if (((s.linkGone k c).unpostAt k).dropFrames k).activePlan.any (·.tidalAt k)
      then (((s.linkGone k c).unpostAt k).dropFrames k).emptyRing else ((s.linkGone k c).unpostAt k).dropFrames k := rfl

/-- A record whose link becomes LOST follows. -/
theorem Station.Follows.lost {a b : Station} (link : b.link = .lost) (misses : b.misses = 3) (config : b.config = a.config := by rfl)
    (minsInForce : b.minsInForce = a.minsInForce := by rfl) (minsPending : b.minsPending = a.minsPending := by rfl)
    (age : b.age = a.age := by rfl) (queueIn : b.queueIn = a.queueIn := by rfl) (queueOut : b.queueOut = a.queueOut := by rfl)
    (lockout : b.lockout = a.lockout := by rfl) (raw : b.raw = a.raw := by rfl) (target : b.target = a.target := by rfl)
    (coord : b.coord = a.coord := by rfl) (synced : b.synced = a.synced := by rfl) (order : b.order = a.order := by rfl) :
    a.Follows b where
  config := config
  minsInForce := minsInForce
  minsPending := minsPending
  counts h := by
    obtain ⟨-, h2, h3, h4, h5⟩ := h
    exact ⟨by omega, age ▸ h2, queueIn ▸ h3, queueOut ▸ h4, lockout ▸ h5⟩
  raw x h := raw ▸ h
  target x h := target ▸ h
  loaded h := .inr (coord ▸ h.resolve_left (by simp [link]))
  order y hy := ⟨y, by simpa [Station.cycleOrder, order] using hy, rfl, rfl, rfl, fun h1 h2 => by
    rw [synced]; exact ⟨by simpa [Station.coordinated, coord] using h1, h2⟩⟩

theorem State.linkGone_follow (k : StationIx) (c : LossCause) : Follow s (s.linkGone k c) := by
  have hlost : Follow s (s.modSt k fun t => { t with link := .lost, misses := Config.missLimit }) := .modSt' (.lost rfl rfl)
  have hmodel (u : State) : Follow u (u.modSt k fun t => { t with model := none }) := .modSt' .of_same
  exact ((hlost.trans (State.emit_follow _ _)).trans (State.enterFree_follow _ k .linkLost)).trans (hmodel _)

theorem State.unpostAt_follow (k : StationIx) : Follow s (s.unpostAt k) := by
  unfold State.unpostAt
  split
  · exact (s.unpost_follow _).trans (State.takeUp_follow _ k)
  · exact .refl s

theorem State.dropFrames_keeps (k : StationIx) : Keeps s (s.dropFrames k) := by
  have horder : Follow s (s.modSt k fun t => { t with order := none }) := .modSt' (.of_cycleOrder_none rfl id)
  have hage (u : State) : Follow u (u.modSt k fun t => { t with age := Config.sampleLife }) :=
    .modSt' (.of_counts fun ⟨h1, _, h3, h4, h5⟩ => ⟨h1, Nat.le_refl 3, h3, h4, h5⟩)
  exact ((horder.trans (State.dropUrgent_follow _ _)).keeps.trans (State.settle_keeps _)).trans (hage _).keeps

theorem State.loseLink_keeps (k : StationIx) (c : LossCause) : Keeps s (s.loseLink k c) := by
  have hall : Keeps s (((s.linkGone k c).unpostAt k).dropFrames k) :=
    ((s.linkGone_follow k c).trans (State.unpostAt_follow _ k)).keeps.trans (State.dropFrames_keeps _ k)
  rw [State.loseLink_eq]
  split
  · exact hall.trans (State.emptyRing_follow _).keeps
  · exact hall

theorem State.discardExchange_follow (p : StationIx → Bool) : Follow s (s.discardExchange p) :=
  .of_stations { nonRoutine := rfl, pollPtr := rfl }

theorem State.resetLink_keeps (k : StationIx) (c : LossCause) : Keeps s (s.resetLink k c) := by
  have hreset (u : State) : Follow u ((u.modSt k fun t =>
      { t with link := .lost, misses := Config.missLimit, ackMark := false, lastFailure := none }).discardExchange (· = k)) := by
    exact Follow.trans (.modSt' (.lost rfl rfl)) (State.discardExchange_follow _ _)
  unfold State.resetLink
  dsimp only
  split
  · exact (s.loseLink_keeps k c).trans (hreset _).keeps
  · exact (hreset s).keeps

end Sys2Proof.Machine
end

section
/-! SUPPORT. The cycles that are built and folded are lawful: every phase keeps its minimum, and no cycle is longer than the plan's
corrections make it (R92 to R95, R102, R103). -/

-- One proof at a time: elaborated in parallel, each proof that waits for an earlier one holds a thread and its stack.
set_option Elab.async false

namespace Sys2Proof.Machine

/-! ## Phases above their minimums -/

/-- Phase intervals at or above the minimums, one for each. -/
abbrev Covers (mins intervals : List Nat) : Prop := List.Forall₂ (· ≤ ·) mins intervals

theorem Covers.sum_le {mins ivs : List Nat} (h : Covers mins ivs) : mins.sum ≤ ivs.sum := by
  induction h with
  | nil => exact Nat.le_refl 0
  | cons hx _ ih => simp only [List.sum_cons]; omega

theorem Covers.pos {mins ivs : List Nat} (h : Covers mins ivs) (hm : ∀ y ∈ mins, 0 < y) : ∀ x ∈ ivs, 0 < x := by
  induction h with
  | nil => simp
  | cons hx _ ih =>
    simp only [List.mem_cons, forall_eq_or_imp] at hm ⊢
    exact ⟨by omega, ih hm.2⟩

theorem Covers.zip_le {mins ivs : List Nat} (h : Covers mins ivs) : ∀ x ∈ ivs.zip mins, x.2 ≤ x.1 := by
  induction h with
  | nil => simp
  | cons hx _ ih =>
    simp only [List.zip_cons_cons, List.mem_cons, forall_eq_or_imp]
    exact ⟨hx, ih⟩

theorem covers_of_zip {mins ivs : List Nat} (hl : ivs.length = mins.length) (h : ∀ x ∈ ivs.zip mins, x.2 ≤ x.1) : Covers mins ivs := by
  induction ivs generalizing mins with
  | nil =>
    obtain rfl := List.eq_nil_of_length_eq_zero hl.symm
    exact .nil
  | cons x xs ih =>
    cases mins with
    | nil => cases hl
    | cons y ys =>
      simp only [List.zip_cons_cons, List.mem_cons, forall_eq_or_imp] at h
      exact .cons h.1 (ih (by simpa using hl) h.2)

/-- The ends of positive phases rise to the cycle's length. -/
theorem risesTo_runningSums (a : Nat) {ivs : List Nat} (h : ∀ x ∈ ivs, 0 < x) : risesTo (a + ivs.sum) a (runningSums a ivs) = true := by
  induction ivs generalizing a with
  | nil => simp [risesTo, runningSums]
  | cons x xs ih =>
    simp only [List.mem_cons, forall_eq_or_imp] at h
    have := ih (a + x) h.2
    rw [Nat.add_assoc] at this
    simp [risesTo, runningSums, this, h.1]

/-- Phases above positive minimums make a lawful cycle, as long as it is not too long (R103). -/
theorem Covers.lawful {mins ivs : List Nat} {longest : Nat} (h : Covers mins ivs) (hm : ∀ y ∈ mins, 0 < y) (hl : ivs.sum ≤ longest) :
    (Course.ofIntervals ivs).lawful mins longest := by
  refine ⟨?_, ?_, ?_, h.sum_le, hl⟩
  · simpa using risesTo_runningSums 0 (h.pos hm)
  · simpa using h.length_eq.symm
  · simpa using h.zip_le

theorem Course.lawful.mono {c : Course} {mins : List Nat} {l l' : Nat} (h : c.lawful mins l) (hl : l ≤ l') : c.lawful mins l' := by
  obtain ⟨h1, h2, h3, h4, h5⟩ := h
  exact ⟨h1, h2, h3, h4, h5.trans hl⟩

/-- An item passes its three checks exactly when its splits cover the minimums and fill the local cycle (R15). -/
theorem judgeItem_eq_none {p : Plan} {k : StationIx} {mins : List Nat} (h : judgeItem p k mins = none) :
    Covers mins (p.splits k) ∧ (p.splits k).sum = p.localCycle k := by
  unfold judgeItem at h
  dsimp only at h
  split at h
  · cases h
  · next hlen =>
    split at h
    · cases h
    · next hsum =>
      split at h
      · cases h
      · next hfind =>
        refine ⟨covers_of_zip (by simpa using hlen) fun x hx => ?_, by simpa using hsum⟩
        rw [List.findIdx?_eq_none_iff] at hfind
        simpa using hfind x hx

/-! ## The reduction rule (R95) -/

/-- Every phase that gives stays between its minimum and its interval. -/
theorem takeInOrder_forall₂ (a : Nat) {l : List (Nat × Nat)} (h : ∀ x ∈ l, x.2 ≤ x.1) :
    List.Forall₂ (fun x y => x.2 ≤ y ∧ y ≤ x.1) l (takeInOrder a l) := by
  induction l generalizing a with
  | nil => exact .nil
  | cons x xs ih =>
    obtain ⟨iv, mn⟩ := x
    simp only [List.mem_cons, forall_eq_or_imp] at h
    refine .cons ?_ (ih _ h.2)
    dsimp only at h ⊢
    omega

theorem reduce_forall₂ (a : Nat) {ivs mins : List Nat} (h : Covers mins ivs) :
    List.Forall₂ (fun x y => x.2 ≤ y ∧ y ≤ x.1) (ivs.zip mins) (reduce a ivs mins) := by
  rw [← List.forall₂_reverse_iff, reduce, List.reverse_reverse]
  exact takeInOrder_forall₂ a fun x hx => h.zip_le x (List.mem_reverse.1 hx)

theorem reduce_covers (a : Nat) {ivs mins : List Nat} (h : Covers mins ivs) : Covers mins (reduce a ivs mins) := by
  have hz : (ivs.zip mins).map (·.2) = mins := List.map_snd_zip h.length_eq.le
  have := (reduce_forall₂ a h).imp fun _ _ hxy => hxy.1
  rw [← hz, Covers, List.forall₂_map_left_iff, hz]
  exact this

theorem reduce_sum_le (a : Nat) {ivs mins : List Nat} (h : Covers mins ivs) : (reduce a ivs mins).sum ≤ ivs.sum := by
  have hz : (ivs.zip mins).map (·.1) = ivs := List.map_fst_zip h.length_eq.ge
  have hle : Covers (reduce a ivs mins) ivs := by
    have := ((reduce_forall₂ a h).imp fun _ _ hxy => hxy.2).flip
    rw [Covers]
    conv => rhs; rw [← hz]
    rw [List.forall₂_map_right_iff]
    exact this
  exact hle.sum_le

/-- The reduction takes the whole amount where the phases have room for it (R95). -/
theorem reduce_sum {a : Nat} {ivs mins : List Nat} (h : Covers mins ivs) (ha : a ≤ roomSum ivs mins) :
    (reduce a ivs mins).sum + a = ivs.sum := by
  have hz : (ivs.zip mins).map (·.1) = ivs := List.map_fst_zip h.length_eq.ge
  rw [reduce, List.sum_reverse, takeInOrder_sum, List.map_reverse, List.sum_reverse, hz]
  rwa [List.map_reverse, List.sum_reverse]

theorem reduceRest_cons (a iv mn : Nat) (ivs ms : List Nat) : reduceRest a (iv :: ivs) (mn :: ms) = iv :: reduce a ivs ms := rfl

theorem reduceRest_covers (a : Nat) {ivs mins : List Nat} (h : Covers mins ivs) : Covers mins (reduceRest a ivs mins) := by
  cases h with
  | nil => exact .nil
  | cons hx hs => exact .cons hx (reduce_covers a hs)

theorem reduceRest_sum_le (a : Nat) {ivs mins : List Nat} (h : Covers mins ivs) : (reduceRest a ivs mins).sum ≤ ivs.sum := by
  cases h with
  | nil => exact Nat.le_refl 0
  | cons hx hs =>
    rw [reduceRest_cons, List.sum_cons, List.sum_cons]
    exact Nat.add_le_add_left (reduce_sum_le a hs) _

theorem growFirst_covers (c : Nat) {ivs mins : List Nat} (h : Covers mins ivs) : Covers mins (growFirst c ivs) := by
  cases h with
  | nil => exact .nil
  | cons hx hs => exact .cons (by omega) hs

theorem growFirst_sum_le (c : Nat) (ivs : List Nat) : (growFirst c ivs).sum ≤ ivs.sum + c := by
  cases ivs with
  | nil => simp [growFirst]
  | cons x xs => simp [growFirst]; omega

/-! ## The correction (R91 to R95) -/

/-- A decided transition keeps every minimum in force, and its cycle is no longer than Cl + G (R92 to R95). -/
theorem transition_covers {p : Plan} {k : StationIx} {mins : List Nat} (d : Nat) (h : judgeItem p k mins = none) :
    Covers mins (transition p k mins d).intervals ∧ (transition p k mins d).intervals.sum ≤ p.longest k := by
  obtain ⟨hc, hsum⟩ := judgeItem_eq_none h
  unfold transition Plan.longest
  dsimp only
  split
  · exact ⟨hc, by rw [hsum]; omega⟩
  · split
    · exact ⟨reduce_covers _ hc, (reduce_sum_le _ hc).trans (by omega)⟩
    · refine ⟨growFirst_covers _ hc, ?_⟩
      have := growFirst_sum_le (min (p.localCycle k - d) (lengthenLimit (p.localCycle k) p.lengthen)) (p.splits k)
      unfold lengthenLimit at this
      dsimp only [lengthenLimit]
      omega

/-! ## Transit folds (R102) -/

/-- EXTEND within the extension room keeps the minimums and the length (R102). -/
theorem foldExtend_covers {x maxExt : Nat} {ivs mins : List Nat} (h : Covers mins ivs) (hx : x ≤ extensionRoom maxExt ivs mins) :
    Covers mins (foldExtend x ivs mins) ∧ (foldExtend x ivs mins).sum ≤ ivs.sum := by
  refine ⟨growFirst_covers x (reduceRest_covers x h), ?_⟩
  unfold foldExtend
  have hgrow := growFirst_sum_le x (reduceRest x ivs mins)
  cases h with
  | nil => simp [reduceRest, growFirst]
  | cons hy hs =>
    have hroom := hx.trans (Nat.min_le_right _ _)
    have hsum := reduce_sum hs hroom
    rw [reduceRest_cons] at hgrow ⊢
    rw [List.sum_cons] at hgrow ⊢
    omega

theorem foldEarly_covers {l : Nat} {ivs mins : List Nat} (h : Covers mins ivs) :
    Covers mins (foldEarly l ivs mins) ∧ (foldEarly l ivs mins).sum ≤ ivs.sum :=
  ⟨reduceRest_covers _ h, reduceRest_sum_le _ h⟩

/-- An extension that a classification gives lies within the extension room (R118). -/
theorem classify_extend {maxExt lockout : Nat} {ivs mins : List Nat} {pos : Int} {x : Nat}
    (h : classify maxExt lockout ivs mins pos = .extend x) : x ≤ extensionRoom maxExt ivs mins := by
  unfold classify at h
  dsimp only at h
  split at h
  · cases h
  · split at h
    · cases h
    · split at h
      · cases h; exact Nat.min_le_right _ _
      · split at h <;> cases h

/-- A fold keeps the minimums, and the cycle grows no longer (R102). -/
theorem classify_fold_covers {maxExt lockout : Nat} {ivs mins : List Nat} {pos : Int} {r : FoldKind × Nat × List Nat}
    (h : Covers mins ivs) (hr : (classify maxExt lockout ivs mins pos).fold ivs mins = some r) :
    Covers mins r.2.2 ∧ r.2.2.sum ≤ ivs.sum := by
  cases hc : classify maxExt lockout ivs mins pos with
  | passive => rw [hc] at hr; cases hr
  | wait => rw [hc] at hr; cases hr
  | extend x => rw [hc] at hr; cases hr; exact foldExtend_covers h (classify_extend hc)
  | early l => rw [hc] at hr; cases hr; exact foldEarly_covers h

variable (s : State)

theorem State.foldFirst_covers {k : StationIx} (p : Plan) (zero : Tick) {ivs : List Nat} (h : Covers (s.st k).minsInForce ivs)
    (l : List Entry) : Covers (s.st k).minsInForce (s.foldFirst k p zero ivs l).2.1 ∧ (s.foldFirst k p zero ivs l).2.1.sum ≤ ivs.sum := by
  induction l with
  | nil => exact ⟨h, Nat.le_refl _⟩
  | cons e es ih =>
    unfold State.foldFirst
    dsimp only
    split
    · exact ⟨h, Nat.le_refl _⟩
    · exact ih
    · split
      · exact ⟨h, Nat.le_refl _⟩
      · next hr => exact classify_fold_covers h hr

theorem State.offerFold_covers {k : StationIx} (p : Plan) (zero : Tick) {ivs : List Nat} (h : Covers (s.st k).minsInForce ivs) :
    Covers (s.st k).minsInForce (s.offerFold k p zero ivs).2.1 ∧ (s.offerFold k p zero ivs).2.1.sum ≤ ivs.sum := by
  unfold State.offerFold
  split
  · exact s.foldFirst_covers p zero h _
  · exact ⟨h, Nat.le_refl _⟩

theorem State.refold_covers {k : StationIx} (p : Plan) (zero : Tick) {ivs : List Nat} (f : Fold) (h : Covers (s.st k).minsInForce ivs) :
    Covers (s.st k).minsInForce (s.refold k p zero ivs f).2.1 ∧ (s.refold k p zero ivs f).2.1.sum ≤ ivs.sum := by
  unfold State.refold
  split
  · exact ⟨h, Nat.le_refl _⟩
  · dsimp only
    split
    · exact ⟨h, Nat.le_refl _⟩
    · split
      · next hr => exact classify_fold_covers h hr
      · exact ⟨h, Nat.le_refl _⟩

end Sys2Proof.Machine
end

section
/-! SUPPORT. The cycle model, the order points and the resynchronisation keep the laws of the ranges and of the waiting orders (R60, R62,
R76 to R79, R84 to R90, R96 to R101, R107). -/

-- One proof at a time: elaborated in parallel, each proof that waits for an earlier one holds a thread and its stack.
set_option Elab.async false

namespace Sys2Proof.Machine

variable (s : State)

/-! ## One station's record under the laws -/

theorem State.OrderLaw.modSt {s : State} (h : s.OrderLaw) {k : StationIx} {f : Station → Station} (hl : (f (s.st k)).LoadedLaw)
    (hb : ∀ b ∈ (f (s.st k)).cycleOrder, s.BodyLaw k (f (s.st k)) b) : (s.modSt k f).OrderLaw := by
  rw [State.orderLaw_iff] at h ⊢
  intro j
  by_cases hj : j = k
  · subst hj
    rw [State.st_modSt_same]
    exact ⟨hl, fun b hm => ⟨(hb b hm).running, (hb b hm).coordinated, (hb b hm).synced, (hb b hm).lawful, (hb b hm).plan⟩⟩
  · rw [State.st_modSt_ne s hj]
    exact ⟨(h j).1, fun b hm => ⟨((h j).2 b hm).running, ((h j).2 b hm).coordinated, ((h j).2 b hm).synced, ((h j).2 b hm).lawful,
      ((h j).2 b hm).plan⟩⟩

theorem State.CountLaw.modSt {s : State} (h : s.CountLaw) {k : StationIx} {f : Station → Station} (hc : (f (s.st k)).CountLaw)
    (hraw : ∀ p ∈ s.activePlan, ∀ x ∈ (f (s.st k)).raw, x < p.localCycle k)
    (htarget : ∀ p ∈ s.activePlan, ∀ x ∈ (f (s.st k)).target, x < p.localCycle k)
    (hidle : s.ps.corridor = .idle → (f (s.st k)).raw = none ∧ (f (s.st k)).target = none) : (s.modSt k f).CountLaw := by
  rw [State.countLaw_iff] at h ⊢
  obtain ⟨htb, hn, hp, hmu, hst, htgt⟩ := h
  have hat {P : StationIx → Station → Prop} (hk : P k (f (s.st k))) (hne : ∀ j, P j (s.st j)) (j : StationIx) :
      P j ((s.modSt k f).st j) := by
    by_cases hj : j = k
    · subst hj; rw [State.st_modSt_same]; exact hk
    · rw [State.st_modSt_ne s hj]; exact hne j
  refine ⟨htb, hn, hp, hmu, hat (P := fun _ t => t.CountLaw) hc hst, htgt.master, fun p hp => ?_, fun p hp => ?_, fun hi => ?_⟩
  · exact hat (P := fun j t => ∀ x ∈ t.raw, x < p.localCycle j) (hraw p hp) (htgt.raw p hp)
  · exact hat (P := fun j t => ∀ x ∈ t.target, x < p.localCycle j) (htarget p hp) (htgt.target p hp)
  · exact hat (P := fun _ t => t.raw = none ∧ t.target = none) (hidle hi) (htgt.idle hi)

/-- A record whose counts and targets stand keeps the ranges. -/
theorem State.CountLaw.modSt_same {s : State} (h : s.CountLaw) {k : StationIx} {f : Station → Station}
    (hc : (s.st k).CountLaw → (f (s.st k)).CountLaw) (hraw : (f (s.st k)).raw = (s.st k).raw)
    (htarget : (f (s.st k)).target = (s.st k).target) : (s.modSt k f).CountLaw := by
  obtain ⟨-, -, -, -, hst, htgt⟩ := State.countLaw_iff.1 h
  refine h.modSt (hc (hst k)) (fun p hp => ?_) (fun p hp => ?_) fun hi => ?_
  · rw [hraw]; exact htgt.raw p hp k
  · rw [htarget]; exact htgt.target p hp k
  · rw [hraw, htarget]; exact htgt.idle hi k

theorem SameItems.modSt {s : State} {k : StationIx} {f : Station → Station} (h : (f (s.st k)).config = (s.st k).config) :
    SameItems s (s.modSt k f) where
  config j := by
    by_cases hj : j = k
    · subst hj; rw [State.st_modSt_same]; exact h
    · rw [State.st_modSt_ne s hj]

/-! ## The tidal measurement and local zeros (R76 to R79, R84, R85) -/

/-- The tidal measurement moves within its ranges. -/
theorem Follow.of_mu {s : State} {mu : Measurement} (h : s.mu.InRange → mu.InRange) : Follow s { s with mu } :=
  .of_stations { mu := fun _ => h }

theorem State.tidalEvaluation_follow : Follow s s.tidalEvaluation := by
  unfold State.tidalEvaluation
  dsimp only
  split
  · exact .refl s
  · next hbusy =>
    split
    · refine Follow.trans ?_ (State.emit_follow _ _)
      refine .of_mu fun h => ⟨?_, h.accIn, h.accOut, h.ringLength, h.ring⟩
      simp only [Bool.or_eq_true, decide_eq_true_eq, not_or, not_lt] at hbusy
      have hdiv : (200 * (s.mu.ring.map (·.1)).sum + ((s.mu.ring.map (·.1)).sum + (s.mu.ring.map (·.2)).sum))
          / (2 * ((s.mu.ring.map (·.1)).sum + (s.mu.ring.map (·.2)).sum)) < 101 := by
        rw [Nat.div_lt_iff_lt_mul (by omega)]; omega
      dsimp only
      omega
    · exact .refl s

theorem State.tidalZero_follow : Follow s s.tidalZero := by
  unfold State.tidalZero
  dsimp only
  split
  · refine Follow.trans ?_ (State.tidalEvaluation_follow _)
    refine .of_mu fun h => ⟨h.weight, Nat.zero_le _, Nat.zero_le _, ?_, ?_⟩
    · have := h.ringLength
      split <;> simp <;> omega
    · intro x hx
      rw [List.mem_append, List.mem_singleton] at hx
      obtain hx | rfl := hx
      · refine h.ring x ?_
        split at hx
        · exact hx
        · exact List.mem_of_mem_drop hx
      · exact ⟨h.accIn, h.accOut⟩
  · exact .of_mu fun h => ⟨h.weight, Nat.zero_le _, Nat.zero_le _, h.ringLength, h.ring⟩

theorem State.handOn_follow (k : StationIx) : Follow s (s.handOn k) := by
  have hage : Follow s (s.modSt k fun t => { t with age := min Config.sampleLife (t.age + 1) }) :=
    .modSt' (.of_counts fun ⟨h1, _, h3, h4, h5⟩ => ⟨h1, Nat.min_le_left _ _, h3, h4, h5⟩)
  have hend (u : State) : Follow u ((u.modSt k fun t => { t with lockout := t.lockout - 1 }).evaluateTransit k) :=
    Follow.trans (.modSt' (.of_counts fun ⟨h1, h2, h3, h4, h5⟩ => ⟨h1, h2, h3, h4, (Nat.sub_le _ _).trans h5⟩))
      (State.evaluateTransit_follow _ _)
  unfold State.handOn
  dsimp only
  split
  · exact (hage.trans (State.tidalZero_follow _)).trans (hend _)
  · exact hage.trans (hend _)

theorem State.takeZero_follow (k : StationIx) (m : CycleModel) (n : Byte) (t : Tick) : Follow s (s.takeZero k m n t) := by
  have hmodel : Follow s (s.modSt k fun x => { x with model := some (m.zero n t) }) := .modSt' .of_same
  unfold State.takeZero
  dsimp only
  split
  · exact hmodel
  · exact hmodel.trans (State.handOn_follow _ _)

/-! ## What a grant leaves as it was -/

/-- Every station's coordination state, synchronised flag and waiting order stand in `t` as in `s`. -/
def SameOrders (s t : State) : Prop :=
  ∀ k : StationIx, (t.st k).coord = (s.st k).coord ∧ (t.st k).synced = (s.st k).synced ∧ (t.st k).order = (s.st k).order

theorem SameOrders.of_st {s t : State} (h : ∀ k, t.st k = s.st k := by simp) : SameOrders s t := fun k => by simp [h k]

theorem SameOrders.refl (s : State) : SameOrders s s := .of_st

theorem SameOrders.trans {s t u : State} (h : SameOrders s t) (h' : SameOrders t u) : SameOrders s u := fun k => by
  obtain ⟨h1, h2, h3⟩ := h k
  obtain ⟨h1', h2', h3'⟩ := h' k
  exact ⟨h1'.trans h1, h2'.trans h2, h3'.trans h3⟩

theorem SameOrders.modSt {s : State} {k : StationIx} {f : Station → Station}
    (h : ∀ t, (f t).coord = t.coord ∧ (f t).synced = t.synced ∧ (f t).order = t.order) : SameOrders s (s.modSt k f) := by
  intro j
  rw [State.st_modSt]
  split
  · exact h _
  · exact ⟨rfl, rfl, rfl⟩

theorem State.setLockout_sameOrders (k : StationIx) (n : Nat) : SameOrders s (s.setLockout k n) := .modSt fun _ => ⟨rfl, rfl, rfl⟩

theorem State.grantEntry_sameOrders (e : Entry) (g : GrantKind) (b : Bool) : SameOrders s (s.grantEntry e g b) :=
  .of_st fun k => by simp [State.grantEntry]

theorem State.tryGrant_sameOrders {k : StationIx} {p : Plan} {m : CycleModel} {c : Course} {e : Entry} {t : State}
    (h : s.tryGrant k p m c e = some t) : SameOrders s t := by
  unfold State.tryGrant at h
  dsimp only at h
  split at h
  · cases h; exact s.grantEntry_sameOrders _ _ _
  · cases h
  · split at h
    · cases h
    · simp only [Option.map_eq_some_iff] at h
      obtain ⟨r, -, rfl⟩ := h
      have hrevise : SameOrders s (s.modSt k fun t => { t with revise := some r }) := .modSt fun _ => ⟨rfl, rfl, rfl⟩
      have hurgent (u : State) : SameOrders u (u.placeUrgent k .revise) := .of_st fun _ => rfl
      exact ((hrevise.trans (hurgent _)).trans (State.setLockout_sameOrders _ _ _)).trans (State.grantEntry_sameOrders _ _ _ _)

theorem State.grantFirst_sameOrders (k : StationIx) (p : Plan) (m : CycleModel) (c : Course) (l : List Entry) :
    SameOrders s (s.grantFirst k p m c l) := by
  induction l with
  | nil => exact .refl s
  | cons e es ih =>
    unfold State.grantFirst
    cases h : s.tryGrant k p m c e with
    | none => exact ih
    | some t => exact s.tryGrant_sameOrders h

theorem State.evaluateTransit_sameOrders (k : StationIx) : SameOrders s (s.evaluateTransit k) := by
  unfold State.evaluateTransit
  dsimp only
  split
  · split
    · split
      · exact s.grantFirst_sameOrders k _ _ _ _
      · exact .refl s
    · exact .refl s
  · exact .refl s

theorem State.withdrawGrant_sameOrders (i : SlotIx) : SameOrders s (s.withdrawGrant i) := by
  unfold State.withdrawGrant
  split
  · split
    · refine SameOrders.trans ?_ (State.evaluateTransit_sameOrders _ _)
      exact (SameOrders.trans (.of_st fun _ => rfl) (State.setLockout_sameOrders _ _ _)).trans (.of_st fun k => State.emit_st _ _ k)
    · exact .refl s
  · exact .refl s

theorem State.foldFirst_sameOrders (k : StationIx) (p : Plan) (z : Tick) (ivs : List Nat) (l : List Entry) :
    SameOrders s (s.foldFirst k p z ivs l).1 := by
  induction l with
  | nil => exact .refl s
  | cons e es ih =>
    unfold State.foldFirst
    dsimp only
    split
    · exact s.grantEntry_sameOrders _ _ _
    · exact ih
    · split
      · exact .refl s
      · exact (s.setLockout_sameOrders _ _).trans (State.grantEntry_sameOrders _ _ _ _)

theorem State.offerFold_sameOrders (k : StationIx) (p : Plan) (z : Tick) (ivs : List Nat) : SameOrders s (s.offerFold k p z ivs).1 := by
  unfold State.offerFold
  split
  · exact s.foldFirst_sameOrders _ _ _ _ _
  · exact .refl s

theorem State.refold_sameOrders (k : StationIx) (p : Plan) (z : Tick) (ivs : List Nat) (f : Fold) :
    SameOrders s (s.refold k p z ivs f).1 := by
  unfold State.refold
  split
  · exact .refl s
  · dsimp only
    split
    · exact s.withdrawGrant_sameOrders _
    · split
      · exact .of_st fun _ => rfl
      · exact SameOrders.trans (.of_st fun _ => rfl) (State.setLockout_sameOrders _ _ _)

end Sys2Proof.Machine
end

section
/-! SUPPORT. The order point builds a lawful order, a resynchronisation rebuilds one, and the cycle part of a reply keeps the laws (R60,
R62, R83, R89, R96 to R101, R103, R107, R112). -/

-- One proof at a time: elaborated in parallel, each proof that waits for an earlier one holds a thread and its stack.
set_option Elab.async false

namespace Sys2Proof.Machine

variable (s : State)

/-- The law of a waiting cycle order reads the Plan Store alone beside the station's record. -/
theorem State.BodyLaw.of_ps {s t : State} {k : StationIx} {x : Station} {b : OrderBody} (h : s.BodyLaw k x b) (hps : t.ps = s.ps) :
    t.BodyLaw k x b where
  running := by rw [hps]; exact h.running
  coordinated := h.coordinated
  synced := h.synced
  lawful := h.lawful
  plan ht := by
    have hslot (p : Nat) : t.slot p = s.slot p := by simp [State.slot, hps]
    rw [hps, hslot]
    exact h.plan ht

/-- A loaded station's minimums in force are positive (R2, R3). -/
theorem Station.LoadedLaw.mins_pos {t : Station} (h : t.LoadedLaw) (hc : t.config ≠ none) : ∀ y ∈ t.minsInForce, 0 < y := by
  obtain ⟨c, hc⟩ := Option.ne_none_iff_exists'.1 hc
  intro y hy
  have := (h.mins c hc).2.1 y hy
  omega

theorem Station.coordinated_ne_free {t : Station} (h : t.coordinated = true) : t.coord ≠ .free := by
  intro hf
  simp [Station.coordinated, hf] at h

/-! ## Targets (R60, R70, R71) -/

theorem State.rawTarget_lt {p : Plan} (hp : p.fits) (k : StationIx) : s.rawTarget p k < p.localCycle k :=
  Nat.mod_lt _ (hp.localCycle_pos k)

theorem smoothed_lt {Cl raw : Nat} (step : Nat) (jump : Bool) (target : Option Nat) (h : raw < Cl) :
    smoothed Cl step raw jump target < Cl := by
  unfold smoothed
  split
  · exact h
  · split
    · exact h
    · dsimp only
      split
      · exact modulo_lt _ (by omega)
      · split
        · exact modulo_lt _ (by omega)
        · exact h

/-! ## The order point (R62, R89, R101) -/

/-- The state after the first two parts of an order point: pending minimums are in force, and the targets have moved (R3, R62). -/
def State.aimed (k : StationIx) (p : Plan) : State := (s.modSt k (·.enterMins)).moveTarget p k

/-- The order that an order point builds: the projection against the moved target, the fold that is offered, and the placing. -/
theorem State.buildOrder_eq (k : StationIx) (plan : Nat) (p : Plan) (number : Byte) (zero : Tick) :
    ∃ (d target : Nat), let tr := transition p k ((s.aimed k p).st k).minsInForce d
      let r := ((s.aimed k p).project k p d tr).offerFold k p zero tr.intervals
      s.buildOrder k plan p number zero = r.1.placeOrder k number zero plan target r.2.1 r.2.2 :=
  ⟨_, _, rfl⟩

theorem State.aimed_st_same (k : StationIx) (p : Plan) : ∃ raw target, (s.aimed k p).st k =
    { (s.st k).enterMins with raw := some raw, target := some target, jump := false } := by
  simp only [State.aimed, State.moveTarget, State.st_modSt_same]
  exact ⟨_, _, rfl⟩

theorem State.aimed_st_ne {j k : StationIx} (h : j ≠ k) (p : Plan) : (s.aimed k p).st j = s.st j := by
  simp only [State.aimed, State.moveTarget]
  rw [State.st_modSt_ne _ h, State.st_modSt_ne _ h]

theorem State.aimed_items (k : StationIx) (p : Plan) : SameItems s (s.aimed k p) := by
  unfold State.aimed State.moveTarget
  exact (SameItems.modSt (Station.enterMins_config _)).trans (.modSt rfl)

theorem State.aimed_countLaw {k : StationIx} {p : Plan} (hi : s.ItemLaw) (hc : s.CountLaw) (hp : s.activePlan = some p)
    (hr : s.ps.corridor = .running) : (s.aimed k p).CountLaw := by
  obtain ⟨-, -, -, -, hst, -⟩ := State.countLaw_iff.1 hc
  have hfits := hi.activePlan_fits hp
  have hmins : (s.modSt k (·.enterMins)).CountLaw :=
    hc.modSt_same Station.enterMins_counts (by rw [Station.enterMins_eq]) (by rw [Station.enterMins_eq])
  have hraw := State.rawTarget_lt (s.modSt k (·.enterMins)) hfits k
  refine hmins.modSt ((State.countLaw_iff.1 hmins).2.2.2.2.1 k) (fun q hq x hx => ?_) (fun q hq x hx => ?_) fun h => ?_
  · obtain rfl : p = q := Option.some.inj (hp.symm.trans hq)
    obtain rfl := Option.some.inj hx
    exact hraw
  · obtain rfl : p = q := Option.some.inj (hp.symm.trans hq)
    obtain rfl := Option.some.inj hx
    exact smoothed_lt _ _ _ hraw
  · exact absurd (hr.symm.trans h) (by decide)

theorem State.project_follow {k : StationIx} {p : Plan} {d : Nat} {tr : Transition} (hk : (s.st k).coordinated = true) :
    Follow s (s.project k p d tr) := by
  have hset (c : Coord) (x : StateCause) (hc : c = .seeking ∨ c = .inStep) (u : State) (hu : (u.st k).coordinated = true) :
      Follow u (u.setCoord k c x) := by
    refine .of_station k (u.setCoord_frame k c x) (fun j hj => by rw [State.setCoord_st, if_neg hj]) ?_
    rw [State.setCoord_st, if_pos rfl]
    exact {
      config := rfl, minsInForce := rfl, minsPending := rfl, counts := id, raw := fun _ h => h, target := fun _ h => h
      loaded := fun _ => .inr (Station.coordinated_ne_free hu)
      order := fun y hy => ⟨y, hy, rfl, rfl, rfl, fun _ hsy => ⟨by obtain rfl | rfl := hc <;> rfl, hsy⟩⟩ }
  refine Follow.trans (.modSt' .of_same) (hset _ _ ?_ _ (by rw [State.st_modSt_same]; exact hk))
  split
  · exact .inr rfl
  · exact .inl rfl

/-- The projection leaves the station coordinated, and its minimums and its flag as they were. -/
theorem State.project_st (k : StationIx) (p : Plan) (d : Nat) (tr : Transition) :
    ((s.project k p d tr).st k).coordinated = true ∧ ((s.project k p d tr).st k).minsInForce = (s.st k).minsInForce
      ∧ ((s.project k p d tr).st k).synced = (s.st k).synced := by
  unfold State.project
  rw [State.setCoord_st, if_pos rfl, State.st_modSt_same]
  refine ⟨?_, rfl, rfl⟩
  split <;> rfl

/-- Where pending minimums have entered force and the targets have moved, the configuration keeps its law. -/
theorem State.aimed_loadedLaw {k : StationIx} (p : Plan) (hi : s.ItemLaw) (ho : s.OrderLaw) (j : StationIx) :
    ((s.aimed k p).st j).LoadedLaw := by
  by_cases hj : j = k
  · subst hj
    obtain ⟨raw, target, hst⟩ := s.aimed_st_same j p
    have := (ho.loadedLaw j).enterMins fun c hc => (hi.config_fits hc).1
    rw [hst]
    exact ⟨this.loaded, this.mins⟩
  · rw [s.aimed_st_ne hj]; exact ho.loadedLaw j

theorem State.buildOrder_items {k : StationIx} (plan : Nat) {p : Plan} (number : Byte) (zero : Tick) (hp : s.ItemLaw → p.fits)
    (hk : (s.st k).coordinated = true) :
    SameItems s (s.buildOrder k plan p number zero) ∧
      (s.ItemLaw → s.CountLaw → s.activePlan = some p → s.ps.corridor = .running → (s.buildOrder k plan p number zero).CountLaw) := by
  have haimed := s.aimed_items k p
  have hk' : ((s.aimed k p).st k).coordinated = true := by
    obtain ⟨raw, target, hst⟩ := s.aimed_st_same k p
    rw [hst, Station.enterMins_eq]; exact hk
  obtain ⟨d, target, heq⟩ := s.buildOrder_eq k plan p number zero
  have hproj := (s.aimed k p).project_follow (p := p) (d := d) (tr := transition p k ((s.aimed k p).st k).minsInForce d) hk'
  have hfold := hproj.trans (State.offerFold_follow _ k zero (transition p k ((s.aimed k p).st k).minsInForce d).intervals
    fun hi => hp (haimed.symm.itemLaw (hproj.items.symm.itemLaw hi)))
  rw [heq]
  refine ⟨(haimed.trans hfold.items).trans (.modSt rfl), fun hi hc ha hr => ?_⟩
  exact (hfold.countLaw (haimed.itemLaw hi) (s.aimed_countLaw hi hc ha hr)).modSt_same id rfl rfl

/-- The order that an order point builds under a plan whose item fits the station's minimums is lawful, and every other waiting order
stands (R101, R103, R108). -/
theorem State.buildOrder_orderLaw {k : StationIx} {plan : Nat} {x : PlanSlot} (number : Byte) (zero : Tick) (hi : s.ItemLaw)
    (ho : s.OrderLaw) (hr : s.ps.corridor = .running) (hk : (s.st k).coordinated = true) (hsync : (s.st k).synced = true)
    (ha : s.ps.active = some plan) (hx : s.slot plan = some x) (hj : judgeItem x.plan k (s.st k).enterMins.minsInForce = none) :
    (s.buildOrder k plan x.plan number zero).OrderLaw := by
  have haimed := s.aimed_items k x.plan
  have hiu := haimed.itemLaw hi
  obtain ⟨raw, target, hst⟩ := s.aimed_st_same k x.plan
  have hk' : ((s.aimed k x.plan).st k).coordinated = true := by rw [hst, Station.enterMins_eq]; exact hk
  have hmins : ((s.aimed k x.plan).st k).minsInForce = (s.st k).enterMins.minsInForce := by rw [hst]
  have hconfig : (s.st k).config ≠ none := (ho.loadedLaw k).loaded (.inr (Station.coordinated_ne_free hk))
  obtain ⟨d, T, heq⟩ := s.buildOrder_eq k plan x.plan number zero
  rw [heq]
  rw [hmins]
  generalize htr : transition x.plan k (s.st k).enterMins.minsInForce d = tr
  obtain ⟨hcov, hlong⟩ := transition_covers d hj
  rw [htr] at hcov hlong
  have hproj := (s.aimed k x.plan).project_follow (p := x.plan) (d := d) (tr := tr) hk'
  obtain ⟨hco, hpm, hps⟩ := (s.aimed k x.plan).project_st k x.plan d tr
  have hfold := State.offerFold_follow ((s.aimed k x.plan).project k x.plan d tr) k zero tr.intervals (p := x.plan)
    fun _ => hi.slot_fits hx
  have hsame := State.offerFold_sameOrders ((s.aimed k x.plan).project k x.plan d tr) k x.plan zero tr.intervals k
  have hcovers := State.offerFold_covers ((s.aimed k x.plan).project k x.plan d tr) (k := k) x.plan zero (ivs := tr.intervals)
    (by rw [hpm, hmins]; exact hcov)
  have hall := hproj.trans hfold
  have hm := ((hall.station hiu k).minsInForce).trans hmins
  rw [hpm, hmins] at hcovers
  generalize ((s.aimed k x.plan).project k x.plan d tr).offerFold k x.plan zero tr.intervals = r at hall hsame hcovers hm
  have hloaded (j : StationIx) : (r.1.st j).LoadedLaw := (hall.station hiu j).loadedLaw (s.aimed_loadedLaw x.plan hi ho j)
  have hrps : r.1.ps.corridor = .running ∧ r.1.ps.active = some plan := ⟨hall.frame.corridor.trans hr, hall.frame.active.trans ha⟩
  obtain ⟨hcoord, hsy, -⟩ := hsame
  have hlawful := hcovers.1.lawful (by rw [← hm]; exact (hloaded k).mins_pos (by
    rw [(hall.station hiu k).config, haimed.config]; exact hconfig)) (hcovers.2.trans hlong)
  rw [State.orderLaw_iff]
  intro j
  by_cases hjk : j = k
  · subst hjk
    simp only [State.placeOrder, State.st_modSt_same]
    refine ⟨⟨(hloaded j).loaded, (hloaded j).mins⟩, fun b hb => ?_⟩
    obtain rfl := Option.some.inj hb
    refine ⟨hrps.1, ?_, hsy.trans (hps.trans ?_), ?_, fun _ => ⟨hrps.2, fun x' hx' => ?_⟩⟩
    · simpa [Station.coordinated, hcoord] using hco
    · rw [hst, Station.enterMins_eq]; exact hsync
    · rw [hm]; exact hlawful.mono ((hi.slot_fits hx).longest_le j)
    · have hslot := (haimed.trans hall.items).slotPlan plan
      have hx'' : r.1.slot plan = some x' := hx'
      rw [hx'', hx, Option.map_some, Option.map_some, Option.some.injEq] at hslot
      rw [hm, hslot]
      exact ⟨hj, hlawful⟩
  · simp only [State.placeOrder]
    rw [State.st_modSt_ne _ hjk]
    refine ⟨hloaded j, fun b hb => (hall.bodyLaw hiu (k := j) (fun b hb => ?_) b hb).of_ps rfl⟩
    rw [s.aimed_st_ne hjk] at hb ⊢
    exact ((State.orderLaw_iff.1 ho j).2 b hb).of_ps rfl

end Sys2Proof.Machine
end

section
/-! SUPPORT. The slots and exchanges of the corridor link keep the laws of the ranges and of the waiting orders: resynchronisation and the
rebuilt order, deliveries, link states, and the parts of a reply (R77, R83, R86, R87, R96 to R98, R107, R112, R116 to R129, R133 to
R143). -/

-- One proof at a time: elaborated in parallel, each proof that waits for an earlier one holds a thread and its stack.
set_option Elab.async false

namespace Sys2Proof.Machine

variable (s : State)

/-! ## Rebuilding a waiting order (R107) -/

/-- The intervals and fold of a rebuilt order, with the state after its fold is taken again (R107, R120). -/
def State.refolded (k : StationIx) (p : Plan) (zero : Tick) (ivs : List Nat) : Option Fold → State × List Nat × Option Fold
  | none => s.offerFold k p zero ivs
  | some f => s.refold k p zero ivs f

theorem State.rebuildOrder_eq (k : StationIx) (o : WaitingOrder) (b : OrderBody) (p : Plan) (zero : Tick) :
    ∃ d : Nat, let tr := transition p k (s.st k).minsInForce d
      let r := (s.modSt k fun t => { t with lastError := some d, correction := some tr.correction }).refolded k p zero tr.intervals b.fold
      s.rebuildOrder k o b p zero = r.1.modSt k fun t => { t with order := some { o with
        body := some { b with course := .ofIntervals r.2.1, fold := r.2.2 }
        deadline := tickAdd zero (-(Config.orderDeadlineLead : Int)) } } := by
  refine ⟨projectedError p.cycle (p.localCycle k) s.tb.m b.target (tickDiff zero s.now), ?_⟩
  unfold State.rebuildOrder
  cases b.fold <;> rfl

theorem State.refolded_follow (k : StationIx) {p : Plan} (zero : Tick) (ivs : List Nat) (f : Option Fold) (hp : s.ItemLaw → p.fits) :
    Follow s (s.refolded k p zero ivs f).1 := by
  cases f
  · exact s.offerFold_follow k zero ivs hp
  · exact s.refold_follow k p zero ivs _

theorem State.refolded_sameOrders (k : StationIx) (p : Plan) (zero : Tick) (ivs : List Nat) (f : Option Fold) :
    SameOrders s (s.refolded k p zero ivs f).1 := by
  cases f
  · exact s.offerFold_sameOrders k p zero ivs
  · exact s.refold_sameOrders k p zero ivs _

theorem State.refolded_covers {k : StationIx} (p : Plan) (zero : Tick) {ivs : List Nat} (f : Option Fold)
    (h : Covers (s.st k).minsInForce ivs) :
    Covers (s.st k).minsInForce (s.refolded k p zero ivs f).2.1 ∧ (s.refolded k p zero ivs f).2.1.sum ≤ ivs.sum := by
  cases f
  · exact s.offerFold_covers p zero h
  · exact s.refold_covers p zero _ h

/-- A waiting order that no take-over has passed is rebuilt lawful under its plan, which is the active one (R103, R107, R108). -/
theorem State.rebuildOrder_keeps {k : StationIx} {o : WaitingOrder} {b : OrderBody} {x : PlanSlot} (zero : Tick)
    (hb : b ∈ (s.st k).cycleOrder) (ht : b.takenOver = false) (hx : s.slot b.plan = some x) :
    Keeps s (s.rebuildOrder k o b x.plan zero) := by
  obtain ⟨d, heq⟩ := s.rebuildOrder_eq k o b x.plan zero
  rw [heq]
  generalize htr : transition x.plan k (s.st k).minsInForce d = tr
  have hnoted : Follow s (s.modSt k fun t => { t with lastError := some d, correction := some tr.correction }) := .modSt' .of_same
  have hrefold := State.refolded_follow (s.modSt k fun t => { t with lastError := some d, correction := some tr.correction }) k zero
    tr.intervals b.fold (p := x.plan) fun hi => (hnoted.itemLaw_iff.1 hi).slot_fits hx
  have hsame := State.refolded_sameOrders (s.modSt k fun t => { t with lastError := some d, correction := some tr.correction }) k x.plan
    zero tr.intervals b.fold k
  have hcovers := State.refolded_covers (s.modSt k fun t => { t with lastError := some d, correction := some tr.correction }) (k := k)
    x.plan zero (ivs := tr.intervals) b.fold
  rw [State.st_modSt_same] at hsame hcovers
  have hall := hnoted.trans hrefold
  generalize (s.modSt k fun t => { t with lastError := some d, correction := some tr.correction }).refolded k x.plan zero tr.intervals
    b.fold = r at hall hsame hcovers
  refine ⟨hall.items.trans (.modSt rfl), fun hi hc => (hall.countLaw hi hc).modSt_same id rfl rfl, fun hi ho => ?_⟩
  obtain ⟨hloaded, hbody⟩ := State.orderLaw_iff.1 ho k
  obtain ⟨hrun, hco, hsync, -, hplan⟩ := hbody b hb
  obtain ⟨hactive, hj⟩ := hplan ht
  obtain ⟨hjudge, -⟩ := hj x hx
  obtain ⟨hcov, hlong⟩ := transition_covers d hjudge
  rw [htr] at hcov hlong
  obtain ⟨hcov', hsum⟩ := hcovers hcov
  have hconfig := hloaded.loaded (.inr (Station.coordinated_ne_free hco))
  have hlawful := hcov'.lawful (hloaded.mins_pos hconfig) (hsum.trans hlong)
  obtain ⟨hcoord, hsy, -⟩ := hsame
  have hmins := (hall.station hi k).minsInForce
  have hl := (hall.station hi k).loadedLaw hloaded
  refine (hall.orderLaw hi ho).modSt ⟨hl.loaded, hl.mins⟩ fun y hy => ?_
  obtain rfl := Option.some.inj hy
  refine ⟨hall.frame.corridor.trans hrun, ?_, hsy.trans hsync, ?_, fun _ => ⟨hall.frame.active.trans hactive, fun x' hx' => ?_⟩⟩
  · simpa [Station.coordinated, hcoord] using hco
  · rw [hmins]; exact hlawful.mono ((hi.slot_fits hx).longest_le k)
  · have hslot := hall.items.slotPlan b.plan
    have hx'' : r.1.slot b.plan = some x' := hx'
    rw [hx'', hx, Option.map_some, Option.map_some, Option.some.injEq] at hslot
    rw [hmins, hslot]
    exact ⟨hjudge, hlawful⟩

/-! ## Resynchronisation (R83, R96 to R98, R107, R112) -/

theorem State.modSt_order_none_follow (k : StationIx) : Follow s (s.modSt k fun t => { t with order := none }) :=
  .modSt' (.of_cycleOrder_none rfl id)

/-- A waiting order whose deadline moves, and nothing else, follows. -/
theorem State.modSt_deadline_follow {k : StationIx} {o : WaitingOrder} (d : Tick) (h : (s.st k).order = some o) :
    Follow s (s.modSt k fun t => { t with order := some { o with deadline := d } }) := by
  refine .modSt' (.of_order fun y hy => ⟨y, ?_, rfl, rfl, rfl⟩)
  rw [Station.cycleOrder, h]; exact hy

theorem State.orderAfterResync_keeps (k : StationIx) : Keeps s (s.orderAfterResync k) := by
  have hlate (n : Byte) (c : LateCause) (f : Option Fold) :
      Keeps s (((s.modSt k fun t => { t with order := none }).emit (.orderLate k n c)).foldLost f) :=
    (((s.modSt_order_none_follow k).trans (State.emit_follow _ _)).trans (State.foldLost_follow _ _)).keeps
  unfold State.orderAfterResync
  dsimp only
  split
  · next o m ho hm =>
    split
    · exact .refl s
    · next b hb =>
      split
      · exact hlate _ _ _
      · split
        · exact .refl s
        · split
          · exact hlate _ _ _
          · split
            · exact (s.modSt_deadline_follow _ ho).keeps
            · next ht =>
              split
              · next hx => exact s.rebuildOrder_keeps _ (Option.bind_eq_some_iff.2 ⟨o, ho, hb⟩) (by simpa using ht) hx
              · exact .refl s
  · exact .refl s

theorem State.reviseAfterResync_follow (k : StationIx) : Follow s (s.reviseAfterResync k) := by
  unfold State.reviseAfterResync
  dsimp only
  split
  · split
    · exact s.withdrawRevise_follow k
    · exact .modSt' .of_same
  · exact .refl s

/-- A record whose synchronised flag is newly set, if it changes, follows. -/
theorem Station.Follows.of_synced {a b : Station} (hs : a.synced = true → b.synced = true) (config : b.config = a.config := by rfl)
    (minsInForce : b.minsInForce = a.minsInForce := by rfl) (minsPending : b.minsPending = a.minsPending := by rfl)
    (misses : b.misses = a.misses := by rfl) (age : b.age = a.age := by rfl) (queueIn : b.queueIn = a.queueIn := by rfl)
    (queueOut : b.queueOut = a.queueOut := by rfl) (lockout : b.lockout = a.lockout := by rfl) (raw : b.raw = a.raw := by rfl)
    (target : b.target = a.target := by rfl) (link : b.link = a.link := by rfl) (coord : b.coord = a.coord := by rfl)
    (order : b.order = a.order := by rfl) : a.Follows b where
  config := config
  minsInForce := minsInForce
  minsPending := minsPending
  counts h := by simpa [Station.CountLaw, misses, age, queueIn, queueOut, lockout] using h
  raw x h := raw ▸ h
  target x h := target ▸ h
  loaded h := by simpa [link, coord] using h
  order y h := ⟨y, by simpa [Station.cycleOrder, order] using h, rfl, rfl, rfl, fun h1 h2 =>
    ⟨by simpa [Station.coordinated, coord] using h1, hs h2⟩⟩

theorem State.createModel_follow (k : StationIx) (t : Tick) (n : Byte) (c : Nat) : Follow s (s.createModel k t n c) := by
  unfold State.createModel
  exact .modSt' (.of_synced fun h => by simp [h])

theorem State.markResync_follow (k : StationIx) (t : Tick) : Follow s (s.markResync k t) := by
  rw [State.markResync_notes]
  exact .of_stations {}

theorem State.resync_keeps (k : StationIx) (m : CycleModel) (t : Tick) (n : Byte) (c : Nat) (w : Bool) :
    Keeps s (s.resync k m t n c w) := by
  have hend (u : State) : Keeps u (((((u.modSt k fun t => { t with synced := t.synced || t.coord = .seeking }).markResync k t)
      ).orderAfterResync k).reviseAfterResync k) := by
    have hsync : Follow u (u.modSt k fun t => { t with synced := t.synced || t.coord = .seeking }) :=
      .modSt' (.of_synced fun h => by simp [h])
    exact ((hsync.trans (State.markResync_follow _ _ _)).keeps.trans (State.orderAfterResync_keeps _ k)).trans
      (State.reviseAfterResync_follow _ k).keeps
  unfold State.resync
  dsimp only
  refine Keeps.trans ?_ (hend _)
  have hstepped : Follow s (if 0 < numberStep n m.number then s.takeZero k m n t
      else if numberStep n m.number < 0 then s.modModel k fun m => { m with number := n, next := none } else s) := by
    split
    · exact s.takeZero_follow k m n t
    · split
      · exact s.modModel_follow _ _
      · exact .refl s
  split
  · exact ((hstepped.trans (State.modModel_follow _ _ _)).trans (State.emit_follow _ _)).keeps
  · exact (hstepped.trans (State.modModel_follow _ _ _)).keeps

theorem State.cyclePart_keeps (k : StationIx) (t : Tick) (n : Byte) (c : Nat) (w : Bool) : Keeps s (s.cyclePart k t n c w) := by
  unfold State.cyclePart
  dsimp only
  split
  · exact (s.createModel_follow k t n c).keeps
  · split
    · exact s.resync_keeps k _ t n c w
    · exact .refl s

/-! ## Deliveries (R86, R87, R104, R109, R112, R127) -/

theorem State.clearOrder_follow (k : StationIx) (w : Bool) : Follow s (s.clearOrder k w) := by
  unfold State.clearOrder
  split
  · exact s.modSt_order_none_follow k
  · exact .refl s

theorem State.retimeOrder_follow (k : StationIx) : Follow s (s.retimeOrder k) := by
  obtain h | ⟨o, d, ho, -, h⟩ := s.retimeOrder_cases k <;> rw [h]
  · exact .refl s
  · exact s.modSt_deadline_follow d ho

theorem State.deliver_keeps (x : Exchange) : Keeps s (s.deliver x) := by
  unfold State.deliver
  split
  · exact .refl s
  · split
    · exact (((s.clearOrder_follow _ _).trans (State.modModel_follow _ _ _)).trans (State.foldDelivered_follow _ _)).keeps
    · unfold State.deliverRelease
      have hcleared (w : Bool) := (s.clearOrder_follow x.station w).trans (State.modModel_follow _ x.station (·.released))
      dsimp only
      split
      · exact ((hcleared _).trans (State.enterFree_follow _ _ _)).keeps.trans (State.settle_keeps _)
      · exact (hcleared _).keeps
  · next r f _ =>
    have hclear : Follow s (if s.clc.urgent.contains f then s.clearRevise x.station else s) := by
      split
      · exact s.clearRevise_follow _
      · exact .refl s
    have hend (u : State) : Follow u (if (u.st x.station).model.any (·.number = r.number)
        then ((u.modModel x.station (·.revised r.course)).retimeOrder x.station).grantDelivered r.slot else u.withdrawGrant r.slot) := by
      split
      · exact ((u.modModel_follow _ _).trans (State.retimeOrder_follow _ _)).trans (State.grantDelivered_follow _ _)
      · exact u.withdrawGrant_follow _
    exact (hclear.trans (hend _)).keeps
  · unfold State.deliverPreempt
    split
    · split
      · have hroute (u : State) (k : StationIx) : Follow u ((u.modSt k fun t => { t with routeActive := true }).rehold k) :=
          Follow.trans (.modSt' .of_same) (State.rehold_follow _ _)
        exact ((((s.dropUrgent_follow _).trans (State.supersede_follow _ _)).trans (State.modEntry_follow _ _ _)).trans
          (hroute _ _)).keeps
      · exact .refl s
    · exact .refl s

/-! ## Link states (R136, R141 to R143) -/

theorem State.exchangeFailed_keeps (k : StationIx) (c : FailureCause) : Keeps s (s.exchangeFailed k c) := by
  have hnoted : Follow s (s.modSt k fun t => { t with lastFailure := some c, ackMark := t.ackMark && !c.clearsMark }) :=
    .modSt' .of_same
  have hmiss (u : State) : Follow u (u.modSt k fun t => { t with misses := min Config.missLimit (t.misses + 1) }) :=
    .modSt' (.of_counts fun ⟨_, h2, h3, h4, h5⟩ => ⟨Nat.min_le_left _ _, h2, h3, h4, h5⟩)
  unfold State.exchangeFailed
  dsimp only
  split
  · exact hnoted.keeps.trans (State.loseLink_keeps _ _ _)
  · exact (hnoted.trans (hmiss _)).keeps

/-- A loaded station's link becomes or stays ONLINE (R142). -/
theorem State.linkSuccess_keeps {k : StationIx} (h : (s.st k).config ≠ none) : Keeps s (s.linkSuccess k) := by
  have honline : Keeps s (s.modSt k fun t => { t with link := .online, misses := 0, ackMark := true }) := by
    refine ⟨.modSt rfl, fun _ hc => hc.modSt_same (fun ⟨_, h2, h3, h4, h5⟩ => ⟨Nat.zero_le _, h2, h3, h4, h5⟩) rfl rfl,
      fun _ ho => ?_⟩
    obtain ⟨hl, hb⟩ := State.orderLaw_iff.1 ho k
    exact ho.modSt ⟨fun _ => h, hl.mins⟩ fun b hm =>
      ⟨(hb b hm).running, (hb b hm).coordinated, (hb b hm).synced, (hb b hm).lawful, (hb b hm).plan⟩
  unfold State.linkSuccess
  dsimp only
  split
  · exact honline.trans (State.emit_follow _ _).keeps
  · exact honline

/-! ## The parts of a reply (R47, R55, R73, R77, R116 to R129) -/

theorem State.takeFlags_follow (k : StationIx) (r : Status) : Follow s (s.takeFlags k r) :=
  Follow.trans (.modSt' .of_same) (State.rehold_follow _ _)

theorem State.linkReturn_follow (k : StationIx) (b : Bool) : Follow s (s.linkReturn k b) := by
  unfold State.linkReturn
  split
  · exact (s.leaveFree_follow k _).trans (State.takeUp_follow _ k)
  · exact .refl s

theorem Station.takeSample_follows (t : Station) (r : Status) : t.Follows (t.takeSample r) := by
  unfold Station.takeSample
  split
  · exact .refl t
  · exact .of_counts fun ⟨h1, _, _, _, h5⟩ => ⟨h1, Nat.zero_le _, Nat.min_le_left _ _, Nat.min_le_left _ _, h5⟩

theorem State.takeMeasures_follow (k : StationIx) (r : Status) : Follow s (s.takeMeasures k r) := by
  have hsample : Follow s (s.modSt k (·.takeSample r)) := .modSt' (Station.takeSample_follows _ r)
  unfold State.takeMeasures State.takeCounts
  split
  · exact hsample.trans (.of_mu fun h => ⟨h.weight, Nat.min_le_left _ _, Nat.min_le_left _ _, h.ringLength, h.ring⟩)
  · exact hsample

theorem State.transitNotice_follow (k : StationIx) (t : Tick) (n : Notice) : Follow s (s.transitNotice k t n) := by
  unfold State.transitNotice
  split
  · split
    · exact (s.addEntry_follow _).trans (State.evaluateTransit_follow _ _)
    · exact s.emit_follow _
  · exact .refl s

theorem State.enterEmergency_follow (k : StationIx) (t : Tick) (n : Notice) : Follow s (s.enterEmergency k t n) := by
  unfold State.enterEmergency
  dsimp only
  split
  · exact .refl s
  · split
    · exact s.addEntry_follow _
    · split
      · exact ((s.addEntry_follow _).trans (State.unpost_follow _ _)).trans (State.activateEmergency_follow _ _)
      · exact (s.addEntry_follow _).trans (State.activateEmergency_follow _ _)

theorem State.emergencyNotice_follow (k : StationIx) (t : Tick) (n : Notice) : Follow s (s.emergencyNotice k t n) := by
  unfold State.emergencyNotice
  split
  · exact s.enterEmergency_follow k t n
  · split
    · exact s.emit_follow _
    · exact (s.displace_follow _).trans (State.enterEmergency_follow _ k t n)

theorem State.takeNotice_follow (k : StationIx) (t : Tick) (n : Notice) : Follow s (s.takeNotice k t n) := by
  unfold State.takeNotice
  split
  · exact .refl s
  · split
    · exact s.transitNotice_follow k t n
    · exact s.emergencyNotice_follow k t n
    · exact .refl s

theorem State.checkOut_follow (k : StationIx) (tag : Word16) : Follow s (s.checkOut k tag) := by
  unfold State.checkOut
  split
  · exact s.depart_follow _ _
  · exact .refl s

theorem State.observePreempt_follow (k : StationIx) (b : Bool) : Follow s (s.observePreempt k b) := by
  unfold State.observePreempt
  split
  · split
    · exact s.modEntry_follow _ _
    · split
      · exact s.depart_follow _ _
      · exact .refl s
  · exact .refl s

theorem State.takePriority_follow (k : StationIx) (t : Tick) (r : Status) : Follow s (s.takePriority k t r) := by
  have hnotices : Follow s (r.notices.foldl (fun s n => s.takeNotice k t n) s) := .foldl (fun s n => s.takeNotice_follow k t n) _ s
  have houts (u : State) : Follow u (r.checkOuts.foldl (fun s tag => s.checkOut k tag) u) :=
    .foldl (fun s tag => s.checkOut_follow k tag) _ u
  exact (hnotices.trans (houts _)).trans (State.observePreempt_follow _ k _)

/-! ## The end and the start of an exchange (R133, R137, R139, R140) -/

theorem State.exchangeSucceeded_keeps {x : Exchange} (h : (s.st x.station).config ≠ none) (r : Status) (a b : Bool) :
    Keeps s (s.exchangeSucceeded x r a b) := by
  have hlinked : Keeps s ((s.deliver x).linkSuccess x.station) :=
    (s.deliver_keeps x).trans (State.linkSuccess_keeps _ (by rw [(s.deliver_keeps x).items.config]; exact h))
  have hreturn (u : State) (back : Bool) : Keeps u (if a then (u.linkReturn x.station back).takeFlags x.station r
      else (u.takeFlags x.station r).linkReturn x.station back) := by
    split
    · exact ((u.linkReturn_follow _ _).trans (State.takeFlags_follow _ _ _)).keeps
    · exact ((u.takeFlags_follow _ _).trans (State.linkReturn_follow _ _ _)).keeps
  have hparts (u : State) (w : Bool) : Keeps u (if b then (u.takeMeasures x.station r).cyclePart x.station x.slotTick r.number r.time w
      else (u.cyclePart x.station x.slotTick r.number r.time w).takeMeasures x.station r) := by
    split
    · exact (u.takeMeasures_follow _ _).keeps.trans (State.cyclePart_keeps _ _ _ _ _ _)
    · exact (u.cyclePart_keeps _ _ _ _ _).trans (State.takeMeasures_follow _ _ _).keeps
  exact ((hlinked.trans (hreturn _ _)).trans (hparts _ _)).trans (State.takePriority_follow _ _ _ _).keeps

theorem State.clearExchange_follow : Follow s s.clearExchange := by
  unfold State.clearExchange
  exact .of_stations {}

theorem State.endExchange_keeps (x : Exchange) (heard : List Byte) (a b : Bool) : Keeps s (s.endExchange x heard a b) := by
  refine Keeps.trans ?_ (State.clearExchange_follow _).keeps
  unfold State.takeResult
  split
  · exact .refl s
  · split
    · exact .refl s
    · next c hc =>
      split
      · exact s.exchangeFailed_keeps _ _
      · exact s.exchangeSucceeded_keeps (by rw [hc]; simp) _ _ _

/-- The link controller's counts move within their ranges (R139, R140). -/
theorem Keeps.of_clc {s : State} {clc : LinkControl}
    (h : s.ItemLaw → s.CountLaw → clc.nonRoutine ≤ Config.nonRoutineLimit ∧ clc.pollPtr < s.count.getD 16) :
    Keeps s { s with clc } where
  items := { config := fun _ => rfl }
  count hi hc := by
    obtain ⟨hn, hp⟩ := h hi hc
    rw [State.countLaw_iff] at hc ⊢
    obtain ⟨htb, -, -, hmu, hst, htgt⟩ := hc
    exact ⟨htb, hn, hp, hmu, hst, htgt.master, htgt.raw, htgt.target, htgt.idle⟩
  order _ ho := ho

theorem State.startSlot_keeps : Keeps s s.startSlot := by
  unfold State.startSlot
  split
  · next k f h =>
    refine .of_clc fun _ hc => ⟨?_, (State.countLaw_iff.1 hc).2.2.1⟩
    unfold State.nonRoutineOffer at h
    split at h
    · next hlt => exact hlt
    · cases h
  · split
    · next k _ =>
      refine .of_clc fun hi _ => ⟨Nat.zero_le _, Nat.mod_lt _ ?_⟩
      have hcount := hi.1.1
      cases hn : s.count with
      | none => decide
      | some n => have := hcount n hn; simp only [Option.getD_some]; omega
    · exact .refl s

theorem State.dropOrder_keeps (k : StationIx) (o : WaitingOrder) : Keeps s (s.dropOrder k o) := by
  have hlate (c : LateCause) := (s.modSt_order_none_follow k).trans (State.emit_follow _ (.orderLate k o.number c))
  unfold State.dropOrder
  dsimp only
  split
  · exact ((hlate _).trans (State.foldLost_follow _ _)).keeps
  · exact ((hlate _).trans (State.enterFree_follow _ _ _)).keeps.trans (State.settle_keeps _)

end Sys2Proof.Machine
end

section
/-! SUPPORT. What every command keeps of the stored items, the ranges and the waiting orders: the commands of time, of a station's cycle,
of the request table and of the corridor link. -/

-- One proof at a time: elaborated in parallel, each proof that waits for an earlier one holds a thread and its stack.
set_option Elab.async false

namespace Sys2Proof.Machine

variable (s : State)

/-- What the corridor and service laws give the waiting orders: the active plan's items fit the stored minimums of every loaded station
(R15, R21), and outside IDLE every station below N is loaded (R1, R22). -/
structure State.Serves (s : State) : Prop where
  fits : ∀ g ∈ s.ps.active, ∀ x ∈ s.slot g, ∀ k : StationIx, ∀ c ∈ (s.st k).config, judgeItem x.plan k c.minimums = none
  loaded : s.ps.corridor ≠ .idle → ∀ k : StationIx, s.count.any (k.val < ·) = true → (s.st k).config ≠ none

theorem SameItems.serves {s t : State} (h : SameItems s t) (ha : t.ps.active = s.ps.active) (hc : t.ps.corridor = s.ps.corridor)
    (hs : s.Serves) : t.Serves where
  fits g hg x hx k c hk := by
    have hslot := h.slotPlan g
    rw [Option.mem_def.1 hx, Option.map_some, eq_comm, Option.map_eq_some_iff] at hslot
    obtain ⟨x0, hx0, hplan⟩ := hslot
    rw [← hplan]
    exact hs.fits g (ha ▸ hg) x0 hx0 k c (h.config k ▸ hk)
  loaded hi k hk := by
    rw [h.config]
    exact hs.loaded (hc ▸ hi) k (h.count ▸ hk)

/-- A valid plan's item fits the stored minimums of every station below N (R15). -/
theorem State.judgeItem_of_valid {s : State} {p : Plan} (h : s.judge p = .valid) {k : StationIx} {c : StationConfig}
    (hc : (s.st k).config = some c) (hk : s.count.any (k.val < ·) = true) : judgeItem p k c.minimums = none := by
  cases hn : s.count with
  | none => rw [hn] at hk; cases hk
  | some n =>
    rw [hn] at hk
    simp only [Option.any_some, decide_eq_true_eq] at hk
    simp only [State.judge, hn] at h
    split at h
    · cases h
    · split at h
      · cases h
      · split at h
        · cases h
        · split at h
          · cases h
          · split at h
            · cases h
            · next hfind =>
              have := List.findSome?_eq_none_iff.1 hfind k (mem_allStations k)
              simpa [hk, hc] using this

/-- A plan is valid under a valid geometry alone (R15). -/
theorem State.geometryValid_of_valid {s : State} {p : Plan} (h : s.judge p = .valid) : s.geometryValid = true := by
  unfold State.judge at h
  dsimp only at h
  split at h
  · cases h
  · split at h
    · cases h
    · next hg => simpa using hg

theorem State.geometryValid_loaded {s : State} (h : s.geometryValid = true) {k : StationIx} (hk : s.count.any (k.val < ·) = true) :
    (s.st k).config ≠ none := by
  cases hn : s.count with
  | none => rw [hn] at hk; cases hk
  | some n =>
    simp only [State.geometryValid, hn, List.all_eq_true] at h
    have := h k (mem_allStations k)
    rw [hn] at hk
    simp only [Option.any_some, decide_eq_true_eq] at hk
    intro hc
    simp [hk, hc] at this

/-- A plan slot that is valid holds a record whose verdict is VALID. -/
theorem State.planValid_slot {s : State} {g : Nat} (h : s.planValid g = true) : ∃ x, s.slot g = some x ∧ x.verdict = .valid := by
  unfold State.planValid at h
  rw [Option.any_eq_true] at h
  obtain ⟨x, hx, hv⟩ := h
  exact ⟨x, hx, by simpa using hv⟩

/-- The record of a plan in service is judged valid against the geometry as it stands (R16, R21). -/
theorem State.ServiceLaw.judge_valid {s : State} (h : s.ServiceLaw) {g : Nat} (hv : s.planValid g = true) :
    ∃ x, s.slot g = some x ∧ s.judge x.plan = .valid := by
  obtain ⟨x, hx, hvalid⟩ := State.planValid_slot hv
  obtain ⟨i, -, hslot⟩ := State.slot_mem hx
  exact ⟨x, hx, (h.1 i x hslot).symm.trans hvalid⟩

theorem State.ServiceLaw.serves {s : State} (hi : s.ItemLaw) (hc : s.CorridorLaw) (h : s.ServiceLaw) : s.Serves where
  fits g hg x hx k c hk := by
    obtain ⟨x', hx', hv⟩ := h.judge_valid (h.2.2.1 g hg)
    obtain rfl : x = x' := Option.some.inj (hx.symm.trans hx')
    exact State.judgeItem_of_valid hv hk (hi.config_fits hk).2
  loaded hidle k hk := by
    obtain ⟨g, hg⟩ := Option.ne_none_iff_exists'.1 fun ha => hidle (hc.1.1 ha)
    obtain ⟨x, -, hv⟩ := h.judge_valid (h.2.2.1 g hg)
    exact State.geometryValid_loaded (State.geometryValid_of_valid hv) hk

/-- From `s` to `t` the stored items, the ranges and the waiting orders keep their laws; the orders under a plan that serves. -/
structure KeepsLaws (s t : State) : Prop where
  item : s.ItemLaw → t.ItemLaw
  count : s.ItemLaw → s.CountLaw → t.CountLaw
  order : s.ItemLaw → s.Serves → s.OrderLaw → t.OrderLaw

theorem Keeps.laws {s t : State} (h : Keeps s t) : KeepsLaws s t := ⟨h.items.itemLaw, h.count, fun hi _ => h.order hi⟩

theorem Follow.laws {s t : State} (h : Follow s t) : KeepsLaws s t := h.keeps.laws

theorem KeepsLaws.refl (s : State) : KeepsLaws s s := (Keeps.refl s).laws

theorem KeepsLaws.then {s t u : State} (h : KeepsLaws s t) (h' : Keeps t u) : KeepsLaws s u where
  item hi := h'.items.itemLaw (h.item hi)
  count hi hc := h'.count (h.item hi) (h.count hi hc)
  order hi hs ho := h'.order (h.item hi) (h.order hi hs ho)

/-- Laws kept after an action that follows. -/
theorem Follow.andThen {s t u : State} (h : Follow s t) (h' : KeepsLaws t u) : KeepsLaws s u where
  item hi := h'.item (h.items.itemLaw hi)
  count hi hc := h'.count (h.items.itemLaw hi) (h.countLaw hi hc)
  order hi hs ho := h'.order (h.items.itemLaw hi) (h.items.serves h.frame.active h.frame.corridor hs) (h.orderLaw hi ho)

/-- A step of a command keeps the laws. -/
abbrev KeepsLaws.Outcome (s : State) (o : Host.Outcome State Fault Refusal) : Prop := ∀ t, o = .next t → KeepsLaws s t

theorem KeepsLaws.Outcome.next {s t : State} (h : KeepsLaws s t) : KeepsLaws.Outcome s (.next t) := fun _ ht => by cases ht; exact h

/-! ## Time (R31 to R36, R56) -/

theorem TimeBase.advanceClock_inRange {tb : TimeBase} (h : tb.InRange) : tb.advanceClock.InRange := by
  obtain ⟨htime, hlow, hhigh⟩ := h
  unfold TimeBase.advanceClock
  split
  · refine ⟨Nat.succ_pos _, ?_, ?_⟩ <;> dsimp only <;> split <;> omega
  · exact ⟨by dsimp only; omega, hlow, hhigh⟩

@[simp] theorem TimeBase.advanceClock_m (tb : TimeBase) : tb.advanceClock.m = tb.m := by
  unfold TimeBase.advanceClock; split <;> rfl

theorem TimeBase.advanceMaster_inRange {tb : TimeBase} (h : tb.InRange) (c : Option Nat) : (tb.advanceMaster c).InRange := by
  obtain ⟨htime, hlow, hhigh⟩ := h
  unfold TimeBase.advanceMaster
  split
  · split <;> exact ⟨htime, hlow, hhigh⟩
  · exact ⟨htime, hlow, hhigh⟩

/-- m stays below the cycle length under which it advances, and stands where there is none (R35). -/
theorem TimeBase.advanceMaster_lt {tb : TimeBase} {n : Nat} (h : tb.m < n) {c : Option Nat} (hc : ∀ x ∈ c, x = n) :
    (tb.advanceMaster c).m < n := by
  unfold TimeBase.advanceMaster
  split
  · next x =>
    obtain rfl := hc x rfl
    split <;> dsimp only <;> omega
  · exact h

/-- The Time Base at a tick with its minute boundary raised, before the master cycle time advances (R31 to R33). -/
def TimeBase.advanceMinute (tb : TimeBase) : TimeBase :=
  let tb := { tb with tick := tb.tick + 1 }.advanceClock
  { tb with minuteDue := tb.clockSet && tb.time % Config.minuteTicks == 0 }

theorem State.advance_tb : s.advance.tb = s.tb.advanceMinute.advanceMaster s.masterCycle := rfl

theorem TimeBase.advanceMinute_inRange {tb : TimeBase} (h : tb.InRange) : tb.advanceMinute.InRange := by
  have hclock := TimeBase.advanceClock_inRange (tb := { tb with tick := tb.tick + 1 }) ⟨h.time, h.dayLow, h.dayHigh⟩
  exact ⟨hclock.time, hclock.dayLow, hclock.dayHigh⟩

/-- What the tick does to the Time Base (R31 to R35). -/
theorem State.advance_tb_laws (h : s.CountLaw) : s.advance.tb.InRange ∧ ∀ p ∈ s.activePlan, s.advance.tb.m < p.cycle := by
  obtain ⟨htb, -, -, -, -, htgt⟩ := State.countLaw_iff.1 h
  rw [State.advance_tb]
  refine ⟨TimeBase.advanceMaster_inRange (TimeBase.advanceMinute_inRange htb) _, fun p hp => ?_⟩
  refine TimeBase.advanceMaster_lt ?_ fun x hx => ?_
  · exact (TimeBase.advanceClock_m _).trans_lt (htgt.master p hp)
  · unfold State.masterCycle at hx
    rw [Option.mem_def.1 hp] at hx
    split at hx <;> cases hx <;> rfl

theorem State.advance_laws : KeepsLaws s s.advance where
  item hi := hi
  count hi hc := by
    obtain ⟨htb, hm⟩ := s.advance_tb_laws hc
    obtain ⟨-, hn, hp, hmu, hst, htgt⟩ := State.countLaw_iff.1 hc
    exact State.countLaw_iff.2 ⟨htb, hn, hp, hmu, hst, hm, htgt.raw, htgt.target, htgt.idle⟩
  order _ _ ho := ho

theorem execMinuteBoundary_laws : KeepsLaws.Outcome s (execMinuteBoundary s) := by
  unfold execMinuteBoundary
  split
  · have hnoted : Follow s { s with tb := { s.tb with minuteDue := false } } := .of_stations {}
    exact .next (hnoted.keeps.trans (State.evaluate_keeps _ _)).laws
  · exact .next (.refl s)

theorem execMasterBoundary_laws : KeepsLaws.Outcome s (execMasterBoundary s) := by
  have hnoted : Follow s { s with tb := { s.tb with masterDue := false } } := .of_stations {}
  unfold execMasterBoundary
  split
  · dsimp only
    split
    · exact .next (hnoted.keeps.trans (State.takeOver_keeps _ _)).laws
    · exact .next hnoted.laws
  · exact .next (.refl s)

theorem execIncidentChange_laws (level : Bool) : KeepsLaws.Outcome s (execIncidentChange level s) := by
  unfold execIncidentChange
  split
  · exact .next (.refl s)
  · have hlevel : Follow s { s with hl := { s.hl with level } } := .of_stations {}
    exact .next (hlevel.trans (State.reholdAll_follow _)).laws

/-! ## A station's cycle (R84, R88, R105, R112) -/

theorem execLocalZero_laws (k : StationIx) : KeepsLaws.Outcome s (execLocalZero k s) := by
  unfold execLocalZero
  split
  · exact .next (.refl s)
  · split
    · exact .next (.refl s)
    · split
      · exact .next (s.takeZero_follow _ _ _ _).laws
      · exact .next (.refl s)

theorem State.enterMins_laws (k : StationIx) (h : s.ps.corridor = .running → (s.st k).synced = false) :
    KeepsLaws s (s.modSt k (·.enterMins)) where
  item := (SameItems.modSt (Station.enterMins_config _)).itemLaw
  count _ hc := hc.modSt_same Station.enterMins_counts (by rw [Station.enterMins_eq]) (by rw [Station.enterMins_eq])
  order hi _ ho := by
    refine ho.modSt ((ho.loadedLaw k).enterMins fun c hc => (hi.config_fits hc).1) fun b hb => ?_
    rw [Station.enterMins_cycleOrder] at hb
    have hlaw := (State.orderLaw_iff.1 ho k).2 b hb
    exact absurd hlaw.synced (by rw [h hlaw.running]; decide)

theorem State.raiseOrderPoint_laws {k : StationIx} (number : Byte) (zero : Tick) (hk : (s.st k).coordinated = true) :
    KeepsLaws s (s.raiseOrderPoint k number zero) := by
  unfold State.raiseOrderPoint
  split
  · next h =>
    simp only [Bool.and_eq_true, decide_eq_true_eq] at h
    obtain ⟨hr, hsync⟩ := h
    split
    · next plan p ha hp =>
      obtain ⟨hitems, hcount⟩ := s.buildOrder_items plan number zero (fun hi => hi.activePlan_fits hp) hk
      refine ⟨hitems.itemLaw, fun hi hc => hcount hi hc hp hr, fun hi hs ho => ?_⟩
      obtain ⟨g, x, hg, hx, rfl⟩ := State.activePlan_eq_some.1 hp
      obtain rfl : plan = g := Option.some.inj (ha.symm.trans hg)
      obtain ⟨c, hc⟩ := Option.ne_none_iff_exists'.1 ((ho.loadedLaw k).loaded (.inr (Station.coordinated_ne_free hk)))
      refine s.buildOrder_orderLaw number zero hi ho hr hk hsync ha hx ?_
      rw [(ho.loadedLaw k).enterMins_mins hc]
      exact hs.fits plan ha x hx k c hc
    · exact .refl s
  · next h =>
    refine s.enterMins_laws k fun hr => ?_
    simpa [hr] using h

theorem execOrderPoint_laws (k : StationIx) : KeepsLaws.Outcome s (execOrderPoint k s) := by
  unfold execOrderPoint
  split
  · exact .next (.refl s)
  · split
    · exact .next (.refl s)
    · split
      · next h =>
        have hmark (f : CycleModel → CycleModel) : Follow s (s.modModel k f) := s.modModel_follow k f
        have hk (f : CycleModel → CycleModel) : ((s.modModel k f).st k).coordinated = true := by
          simp only [State.orderPointHolds, Bool.and_eq_true] at h
          simp only [State.modModel, State.st_modSt_same]
          exact h.1.1
        dsimp only
        split
        · exact .next ((hmark _).andThen (State.raiseOrderPoint_laws _ _ _ (hk _)))
        · exact .next (hmark _).laws
      · exact .next (.refl s)

end Sys2Proof.Machine
end

section
/-! SUPPORT. Events written one after another, verdicts taken afresh, and the geometry requests: what DEFINE_CORRIDOR and LOAD_STATION do
to the state (R6, R8, R9, R16), and that they keep the laws. -/

-- One proof at a time: elaborated in parallel, each proof that waits for an earlier one holds a thread and its stack.
set_option Elab.async false

namespace Sys2Proof.Machine

variable (s : State)

/-! ## Events written one after another -/

theorem State.emitAll_cons (b : EventBody) (l : List EventBody) : s.emitAll (b :: l) = (s.emit b).emitAll l := rfl

theorem State.emitAll_append (l l' : List EventBody) : s.emitAll (l ++ l') = (s.emitAll l).emitAll l' := List.foldl_append

/-- Written events change the Event Queue and the host link alone (R156). -/
theorem State.emitAll_eq (l : List EventBody) : s.emitAll l = { s with eq := (s.emitAll l).eq, hli := (s.emitAll l).hli } := by
  induction l generalizing s with
  | nil => rfl
  | cons b l ih =>
    rw [State.emitAll_cons, ih]
    simp

theorem State.emitAll_follow (l : List EventBody) : Follow s (s.emitAll l) := .foldl (fun s b => s.emit_follow b) l s

/-- The records of the stations that were ONLINE, in ascending index (R6). -/
theorem State.reportRedefined_eq :
    s.reportRedefined = s.emitAll ((allStations.filter fun k => (s.st k).link = .online).map (.linkLost · .redefined)) := by
  have hfold (l : List StationIx) (s : State) :
      l.foldl (fun s k => if (s.st k).link = .online then s.emit (.linkLost k .redefined) else s) s
        = s.emitAll ((l.filter fun k => (s.st k).link = .online).map (.linkLost · .redefined)) := by
    induction l generalizing s with
    | nil => rfl
    | cons k l ih =>
      rw [List.foldl_cons, ih]
      split
      · next h => simp [h, State.emitAll_cons]
      · next h => simp [h]
  exact hfold allStations s

/-- The records of the cancelled requests, in table order (R6). -/
theorem State.reportCancelled_eq :
    s.reportCancelled = s.emitAll (s.table.map fun e => .requestEnd e.station .cancelled e.grant e.tag) := by
  rw [State.reportCancelled, State.emitAll, List.foldl_map]

/-! ## Verdicts taken afresh (R9, R16) -/

/-- The verdict reads the geometry alone (R15). -/
theorem State.judge_congr {s t : State} (hc : t.count = s.count) (hst : t.stations = s.stations) (p : Plan) : t.judge p = s.judge p := by
  have hconfig (k : StationIx) : t.st k = s.st k := State.st_congr hst k
  simp only [State.judge, State.geometryValid, hc, hconfig]

/-- The slots with the records of some of them judged afresh. -/
theorem State.foldl_judge (l : List (Fin 8)) (hl : l.Nodup) (t : State) :
    let u := l.foldl (init := t) fun t (i : Fin 8) => { t with ps := { t.ps with slots := t.ps.slots.set i (t.ps.slots[i].map s.judgeSlot) } }
    u = { t with ps := { t.ps with slots := u.ps.slots } }
      ∧ ∀ g : Fin 8, u.ps.slots[g] = if g ∈ l then (t.ps.slots[g]).map s.judgeSlot else t.ps.slots[g] := by
  induction l generalizing t with
  | nil => exact ⟨rfl, fun g => by simp⟩
  | cons i l ih =>
    obtain ⟨hi, hl⟩ := List.nodup_cons.1 hl
    obtain ⟨heq, hslot⟩ := ih hl { t with ps := { t.ps with slots := t.ps.slots.set i (t.ps.slots[i].map s.judgeSlot) } }
    refine ⟨?_, fun g => ?_⟩
    · rw [List.foldl_cons]; exact heq
    · rw [List.foldl_cons, hslot g]
      by_cases hg : g = i
      · subst hg; simp [hi]
      · have : i.val ≠ g.val := fun h => hg (Fin.ext h.symm)
        simp [hg, this]

theorem State.judgeAll_eq : s.judgeAll = { s with ps := { s.ps with slots := s.judgeAll.ps.slots } } :=
  (s.foldl_judge allPlanSlots (by decide) s).1

theorem State.judgeAll_slots (g : Fin 8) : s.judgeAll.ps.slots[g] = (s.ps.slots[g]).map s.judgeSlot := by
  have hmem : g ∈ allPlanSlots := by revert g; decide
  exact ((s.foldl_judge allPlanSlots (by decide) s).2 g).trans (if_pos hmem)

theorem State.judgeAll_judge (p : Plan) : s.judgeAll.judge p = s.judge p :=
  State.judge_congr (by rw [State.judgeAll_eq]) (by rw [State.judgeAll_eq]) p

theorem State.judgeAll_plans (g : Fin 8) : (s.judgeAll.ps.slots[g]).map (·.plan) = (s.ps.slots[g]).map (·.plan) := by
  rw [State.judgeAll_slots, Option.map_map]; rfl

theorem State.judgeAll_st (k : StationIx) : s.judgeAll.st k = s.st k := State.st_congr (by rw [State.judgeAll_eq]) k

theorem State.judgeAll_follow : Follow s s.judgeAll := by
  refine .of_stations {
    plan := fun g => s.judgeAll_plans g, mu := fun _ h => ?_
    count := ?_, schedule := ?_, image := ?_, active := ?_, corridor := ?_, time := ?_, day := ?_, master := ?_, nonRoutine := ?_
    pollPtr := ?_ } ?_ <;> rw [State.judgeAll_eq]
  exact h

/-! ## DEFINE_CORRIDOR (R6) -/

/-- The events of an accepted DEFINE_CORRIDOR: LINK_LOST for every ONLINE station, and then REQUEST_END for every entry (R6). -/
def State.redefinition : List EventBody :=
  ((allStations.filter fun k => (s.st k).link = .online).map (.linkLost · .redefined))
    ++ s.table.map fun e => .requestEnd e.station .cancelled e.grant e.tag

/-- The state that an accepted DEFINE_CORRIDOR judges the plans in: every station record blank, and all that hung on them discarded (R6). -/
def State.redefined (n : Nat) : State :=
  { s with
    count := some n, stations := .replicate 16 .blank, table := []
    clc := { s.clc with
      urgent := [], nonRoutine := 0, pollPtr := 0, exchange := s.clc.exchange.map (Exchange.discardIf fun _ => true) }
    mu := { s.mu with ring := [], accIn := 0, accOut := 0, primed := false } }

theorem State.defineCorridor_eq (n : Nat) : s.defineCorridor n = ((s.emitAll s.redefinition).redefined n).judgeAll := by
  have hreports : s.reportRedefined.reportCancelled = s.emitAll s.redefinition := by
    rw [State.reportCancelled_eq, State.redefinition, State.emitAll_append, ← State.reportRedefined_eq]
    rw [show s.reportRedefined.table = s.table by rw [State.reportRedefined_eq, State.emitAll_eq]]
  unfold State.defineCorridor
  rw [hreports]
  rfl

@[simp] theorem State.redefined_st (n : Nat) (k : StationIx) : (s.redefined n).st k = .blank := by
  simp [State.redefined, State.st]

theorem State.redefined_laws {n : Nat} (hlow : 2 ≤ n) (hhigh : n ≤ 16) : KeepsLaws s (s.redefined n) where
  item := by
    rintro ⟨⟨-, -, hplan, hsched⟩, himage⟩
    refine ⟨⟨fun m hm => ?_, fun k c hc => ?_, hplan, hsched⟩, himage⟩
    · obtain rfl := Option.some.inj hm; exact ⟨hlow, hhigh⟩
    · dsimp only at hc
      rw [State.redefined_st] at hc; cases hc
  count _ hc := by
    rw [State.countLaw_iff] at hc ⊢
    obtain ⟨htb, -, -, hmu, -, htgt⟩ := hc
    refine ⟨htb, Nat.zero_le _, ?_, ⟨hmu.weight, Nat.zero_le _, Nat.zero_le _, Nat.zero_le _, fun x hx => by cases hx⟩,
      fun k => ?_, htgt.master, fun p _ k x hx => ?_, fun p _ k x hx => ?_, fun _ k => ?_⟩
    · show 0 < n; omega
    · rw [State.redefined_st]; decide
    · rw [State.redefined_st] at hx; cases hx
    · rw [State.redefined_st] at hx; cases hx
    · rw [State.redefined_st]; exact ⟨rfl, rfl⟩
  order _ _ _ := by
    refine .of_cycleOrder_none (fun k => ?_) fun k => ?_
    · rw [State.redefined_st]
      exact ⟨fun h => by simp [Station.blank] at h, fun c hc => by cases hc⟩
    · rw [State.redefined_st]; rfl

theorem State.defineCorridor_laws {n : Nat} (hlow : 2 ≤ n) (hhigh : n ≤ 16) : KeepsLaws s (s.defineCorridor n) := by
  rw [State.defineCorridor_eq]
  exact (s.emitAll_follow _).andThen ((State.redefined_laws _ hlow hhigh).then (State.judgeAll_follow _).keeps)

/-! ## LOAD_STATION (R8) -/

/-- The record that an accepted LOAD_STATION leaves of station `k`, before its link is reset and its structure cleared (R3, R8). -/
def State.stored (k : StationIx) (c : StationConfig) : State :=
  s.modSt k fun t => { t.loadMinimums c.minimums (s.ps.corridor = .idle) with config := some c }

/-- The link of a station that is given a new drop address in IDLE, or is loaded for the first time, is reset (R8). -/
def State.relinked (k : StationIx) (again : Bool) : State := if again then s.resetLink k .readdressed else s

/-- The parts that hang on a station's n are cleared when it changes in IDLE (R8). -/
def State.restructured (k : StationIx) (again : Bool) : State := if again then s.modSt k (·.restructure) else s

theorem State.loadStation_eq (k : StationIx) (c : StationConfig) :
    s.loadStation k c = ((((s.stored k c).relinked k (s.ps.corridor = .idle && (s.st k).config.all (·.drop ≠ c.drop))).restructured k
      (s.ps.corridor = .idle && (s.st k).config.any (·.phases ≠ c.phases))).rehold k).judgeAll := rfl

theorem State.relinked_keeps (k : StationIx) (again : Bool) : Keeps s (s.relinked k again) := by
  unfold State.relinked
  split
  · exact s.resetLink_keeps k _
  · exact .refl s

theorem State.restructured_follow (k : StationIx) (again : Bool) : Follow s (s.restructured k again) := by
  unfold State.restructured
  split
  · exact .modSt' {
      config := rfl, minsInForce := rfl, minsPending := rfl
      counts := fun ⟨h1, _, _, _, h5⟩ => ⟨h1, Nat.le_refl 3, Nat.zero_le _, Nat.zero_le _, h5⟩
      raw := fun x hx => by cases hx
      target := fun x hx => by cases hx
      loaded := id
      order := fun y hy => ⟨y, hy, rfl, rfl, rfl, .intro⟩ }
  · exact .refl s

theorem Station.loadMinimums_eq (t : Station) (mins : List Nat) (idle : Bool) : t.loadMinimums mins idle = { t with
    minsInForce := if idle then mins else t.minsInForce
    minsPending := !idle && (t.minsPending || t.config.any (·.minimums ≠ mins)) } := by
  unfold Station.loadMinimums
  cases idle <;> rfl

theorem State.stored_laws {k : StationIx} {c : StationConfig} (hfits : c.fits) (hk : s.count.any (k.val < ·) = true)
    (hsame : s.ps.corridor ≠ .idle → ∀ c0 ∈ (s.st k).config, c0.phases = c.phases) : KeepsLaws s (s.stored k c) where
  item := by
    rintro ⟨⟨hcount, hconfig, hplan, hsched⟩, himage⟩
    refine ⟨⟨hcount, fun j c' hc' => ?_, hplan, hsched⟩, himage⟩
    by_cases hj : j = k
    · subst hj
      simp only [State.stored, State.st_modSt_same] at hc'
      obtain rfl := Option.some.inj hc'
      exact ⟨hfits, hk⟩
    · simp only [State.stored, State.st_modSt_ne s hj] at hc'
      exact hconfig j c' hc'
  count _ hc := hc.modSt_same (by rw [Station.loadMinimums_eq]; exact id) (by rw [Station.loadMinimums_eq])
    (by rw [Station.loadMinimums_eq])
  order hi hs ho := by
    obtain ⟨-, -, -, -, hmins, -⟩ := hfits
    by_cases hidle : s.ps.corridor = .idle
    · refine ho.modSt ⟨fun _ => by simp, fun c' hc' => ?_⟩ fun b hb => ?_
      · obtain rfl := Option.some.inj hc'
        simp only [Station.loadMinimums_eq, hidle, decide_true, if_true]
        exact ⟨rfl, hmins, fun _ => trivial⟩
      · have hnone := ho.cycleOrder_none (by rw [hidle]; decide) k
        simp only [Station.loadMinimums_eq] at hb
        exact absurd (hnone.symm.trans hb) (by simp)
    · obtain ⟨hl, hbody⟩ := State.orderLaw_iff.1 ho k
      obtain ⟨c0, hc0⟩ := Option.ne_none_iff_exists'.1 (hs.loaded hidle k hk)
      obtain ⟨hlen, hrange, hforce⟩ := hl.mins c0 hc0
      simp only [State.stored, Station.loadMinimums_eq, hidle, decide_false, Bool.not_false, Bool.true_and, Bool.false_eq_true,
        if_false]
      refine ho.modSt ⟨fun _ => by simp, fun c' hc' => ?_⟩ fun b hb => ?_
      · obtain rfl := Option.some.inj hc'
        refine ⟨hlen.trans (hsame hidle c0 hc0), hrange, fun hp => ?_⟩
        simp only [hc0, Option.any_some, Bool.or_eq_false_iff, decide_eq_false_iff_not, not_not] at hp
        rw [hforce hp.1, hp.2]
      · have hlaw := hbody b hb
        exact ⟨hlaw.running, hlaw.coordinated, hlaw.synced, hlaw.lawful, hlaw.plan⟩

theorem State.loadStation_laws {k : StationIx} {c : StationConfig} (hfits : c.fits) (hk : s.count.any (k.val < ·) = true)
    (hsame : s.ps.corridor ≠ .idle → ∀ c0 ∈ (s.st k).config, c0.phases = c.phases) : KeepsLaws s (s.loadStation k c) := by
  rw [State.loadStation_eq]
  exact (((s.stored_laws hfits hk hsame).then (State.relinked_keeps _ _ _)).then (State.restructured_follow _ _ _).keeps).then
    ((State.rehold_follow _ _).trans (State.judgeAll_follow _)).keeps

end Sys2Proof.Machine
end

section
/-! SUPPORT. The requests of the host and the frames that bring them keep the laws of the stored items, the ranges and the waiting orders
(Chapters 1 to 4, 8, 10 and 11). -/

-- One proof at a time: elaborated in parallel, each proof that waits for an earlier one holds a thread and its stack.
set_option Elab.async false

namespace Sys2Proof.Machine

variable (s : State)

/-! ## Checks in order -/

theorem firstFailure_eq_none {l : List (Bool × Result)} : firstFailure l = none ↔ ∀ x ∈ l, x.1 = false := by
  induction l with
  | nil => simp [firstFailure]
  | cons x l ih =>
    obtain ⟨b, r⟩ := x
    cases b <;> simp [firstFailure, ih]

/-- A request that is refused changes nothing; one that is served has passed every check. -/
theorem State.checked_laws {l : List (Bool × Result)} {r : Result × State} (h : (∀ x ∈ l, x.1 = false) → KeepsLaws s r.2) :
    KeepsLaws s (s.checked l r).2 := by
  unfold State.checked
  split
  · exact .refl s
  · next hnone => exact h (firstFailure_eq_none.1 hnone)

theorem outside_eq_false {low high x : Nat} : outside low high x = false ↔ low ≤ x ∧ x ≤ high := by
  simp [outside]

/-- A list of checks that all pass, one check at a time. -/
theorem forall_checks_cons {b : Bool} {r : Result} {l : List (Bool × Result)} :
    (∀ x ∈ (b, r) :: l, x.1 = false) ↔ b = false ∧ ∀ x ∈ l, x.1 = false := by simp

theorem forall_checks_append {l l' : List (Bool × Result)} :
    (∀ x ∈ l ++ l', x.1 = false) ↔ (∀ x ∈ l, x.1 = false) ∧ ∀ x ∈ l', x.1 = false := List.forall_mem_append

/-! ## DEFINE_CORRIDOR and LOAD_STATION (R5, R7) -/

theorem State.ownDefineCorridor_laws (p : List Byte) : KeepsLaws s (s.ownDefineCorridor p).2 := by
  refine s.checked_laws fun h => ?_
  simp only [fieldCheck, forall_checks_cons, outside_eq_false] at h
  obtain ⟨-, ⟨hlow, hhigh⟩, -⟩ := h
  exact s.defineCorridor_laws hlow hhigh

/-- The configuration part of a payload that passes the field checks lies in its ranges (Table 1-3). -/
theorem loadedConfig_fits {p : List Byte} {n : Nat} {link : Bool} (hn : 2 ≤ n ∧ n ≤ 6)
    (h : ∀ x ∈ loadedFieldChecks p n link, x.1 = false) : (loadedConfig p n link).fits := by
  unfold loadedFieldChecks at h
  simp only [fieldCheck, forall_checks_append, forall_checks_cons, outside_eq_false] at h
  obtain ⟨⟨⟨⟨⟨hd1, hd2⟩, -⟩, hmins⟩, ⟨hi1, hi2⟩, ⟨ho1, ho2⟩, -⟩, hlink⟩ := h
  refine ⟨hd1, hd2, by simpa [loadedConfig, loadedMinimums] using hn.1, by simpa [loadedConfig, loadedMinimums] using hn.2, ?_, hi1, hi2,
    ho1, ho2, ?_⟩
  · intro x hx
    simp only [loadedConfig, loadedMinimums, List.mem_map] at hx
    obtain ⟨i, hi, rfl⟩ := hx
    have := hmins _ (List.mem_map.2 ⟨i, hi, rfl⟩)
    simpa [outside_eq_false] using this
  · intro l hl
    cases link with
    | false => cases hl
    | true =>
      obtain rfl := Option.some.inj hl
      simp only [if_true, forall_checks_cons, outside_eq_false] at hlink
      obtain ⟨⟨h1, h2⟩, ⟨h3, h4⟩, ⟨h5, h6⟩, -⟩ := hlink
      exact ⟨h1, h2, h3, h4, h5, h6⟩

/-- A station number that a payload names lies below N (R1). -/
theorem State.stationOf_eq_some {s : State} {i : Nat} {k : StationIx} : s.stationOf i = some k ↔ k.val = i ∧ s.count.any (i < ·) = true := by
  unfold State.stationOf
  split
  · next hi =>
    split
    · next hc => simp [hc, Fin.ext_iff, eq_comm]
    · next hc => simp [hc]
  · next hi =>
    constructor
    · intro h; cases h
    · rintro ⟨rfl, -⟩; exact absurd k.isLt hi

theorem State.ownLoadStation_laws (p : List Byte) : KeepsLaws s (s.ownLoadStation p).2 := by
  unfold State.ownLoadStation
  split
  · exact .refl s
  · split
    · exact .refl s
    · split
      · exact .refl s
      · split
        · exact .refl s
        · next count hcount k hk =>
          obtain ⟨hki, hlt⟩ := State.stationOf_eq_some.1 hk
          refine s.checked_laws fun h => ?_
          simp only [forall_checks_append, State.loadChecks] at h
          obtain ⟨hfirst, hfields, hmoving⟩ := h
          simp only [fieldCheck, forall_checks_cons, outside_eq_false] at hfirst hmoving
          refine s.loadStation_laws (loadedConfig_fits hfirst.1 hfields) (hki ▸ hlt) fun hidle c0 hc0 => ?_
          have hsame := hmoving.1
          rw [Option.mem_def.1 hc0] at hsame
          simp only [hidle, ne_eq, not_false_eq_true, decide_true, Option.any_some, Bool.true_and, Bool.or_eq_false_iff,
            decide_eq_false_iff_not, not_not] at hsame
          rw [hsame.2]
          simp [StationConfig.phases, loadedConfig, loadedMinimums]

/-! ## LOAD_PLAN (R17, R18) -/

theorem loadedItems_length (p : List Byte) (at_ : Nat) (counts : List Nat) : (loadedItems p at_ counts).length = counts.length := by
  induction counts generalizing at_ with
  | nil => rfl
  | cons c cs ih => simp [loadedItems, ih]

theorem splitCounts_length {p : List Byte} {n at_ : Nat} {counts : List Nat} (h : splitCounts p n at_ = some counts) :
    counts.length = n := by
  induction n generalizing at_ counts with
  | zero => cases h; rfl
  | succ n ih =>
    unfold splitCounts at h
    split at h
    · rw [Option.map_eq_some_iff] at h
      obtain ⟨cs, hcs, rfl⟩ := h
      simp [ih hcs]
    · cases h

/-- Every item that passes its field checks, with a split count in range, has 2 to 6 splits of 50 to 2400 (Table 2-3). -/
theorem loadedItems_fit {p : List Byte} {k at_ : Nat} {counts : List Nat} (hc : ∀ c ∈ counts, 2 ≤ c ∧ c ≤ 6)
    (h : ∀ x ∈ itemChecks p k at_ counts, x.1 = false) : ∀ i ∈ loadedItems p at_ counts,
      2 ≤ i.splits.length ∧ i.splits.length ≤ 6 ∧ ∀ x ∈ i.splits, 50 ≤ x ∧ x ≤ 2400 := by
  induction counts generalizing k at_ with
  | nil => intro i hi; cases hi
  | cons c cs ih =>
    unfold itemChecks at h
    simp only [fieldCheck, forall_checks_append, List.cons_append, forall_checks_cons] at h
    obtain ⟨-, hsplits, hrest⟩ := h
    intro i hi
    obtain rfl | hi := List.mem_cons.1 hi
    · have hrange := hc c List.mem_cons_self
      refine ⟨by simpa using hrange.1, by simpa using hrange.2, fun x hx => ?_⟩
      simp only [List.mem_map] at hx
      obtain ⟨j, hj, rfl⟩ := hx
      have := hsplits _ (List.mem_map.2 ⟨j, hj, rfl⟩)
      simpa [outside_eq_false] using this
    · exact ih (fun c hcs => hc c (List.mem_cons_of_mem _ hcs)) hrest i hi

/-- The band mode of a code is TIDAL exactly for 3, among the codes of Table 2-1. -/
theorem BandMode.ofCode_tidal {n : Nat} (h : n ≤ 3) : BandMode.ofCode n = .tidal ↔ n = 3 := by
  interval_cases n <;> decide

/-- The plan record of a payload that passes the checks lies in its ranges (Table 2-3). -/
theorem loadedPlan_fits {p : List Byte} {counts : List Nat} (hmode : rd8 p 6 ≤ 3) (hitems : 1 ≤ counts.length ∧ counts.length ≤ 16)
    (hc : ∀ c ∈ counts, 2 ≤ c ∧ c ≤ 6) (h : ∀ x ∈ planFieldChecks p counts, x.1 = false) : (loadedPlan p counts).fits := by
  unfold planFieldChecks at h
  simp only [fieldCheck, forall_checks_append, forall_checks_cons, outside_eq_false, Bool.or_eq_false_iff, decide_eq_false_iff_not,
    not_le, not_lt, ne_eq, not_not] at h
  obtain ⟨⟨⟨⟨hC1, hC2⟩, hC3⟩, hbase, href, ⟨hw1, hw2⟩, htidal, hshort, ⟨hl1, hl2⟩, ⟨hs1, hs2⟩, hcap, hext, hlock, -⟩, hchecks⟩ := h
  refine ⟨hC1, hC2, hC3, hbase, href, hw1, hw2, ?_, ?_, hshort, hl1, hl2, hs1, hs2, hcap, hext, hlock, ?_, ?_, ?_⟩
  · show (if rd8 p 6 = 3 then some (rd8 p 8) else none).isSome = true ↔ BandMode.ofCode (rd8 p 6) = .tidal
    rw [BandMode.ofCode_tidal hmode]
    split <;> simp [*]
  · intro k hk
    rw [Option.mem_def.1 hk] at htidal
    simpa using htidal
  · show 1 ≤ (loadedItems p _ counts).length
    rw [loadedItems_length]; exact hitems.1
  · show (loadedItems p _ counts).length ≤ 16
    rw [loadedItems_length]; exact hitems.2
  · exact loadedItems_fit hc hchecks

theorem State.storePlan_slot {g p : Nat} (x : Plan) (hg : g ≠ 0) (hp : p ≠ g) : (s.storePlan g x).slot p = s.slot p := by
  unfold State.slot State.storePlan
  split
  · rfl
  · rw [Vector.getElem?_setIfInBounds_ne (by omega)]

/-- A plan that is neither active nor staged is replaced by one in its ranges (R18). -/
theorem State.storePlan_laws {g : Nat} {x : Plan} (hg : g ≠ 0) (hx : x.fits) (ha : s.ps.active ≠ some g) :
    KeepsLaws s (s.storePlan g x) where
  item := by
    rintro ⟨⟨hcount, hconfig, hplan, hsched⟩, himage⟩
    refine ⟨⟨hcount, hconfig, fun i q hq => ?_, hsched⟩, himage⟩
    simp only [State.storePlan, Option.mem_def, Option.map_eq_some_iff, Fin.getElem_fin, Vector.getElem_setIfInBounds] at hq
    obtain ⟨y, hy, rfl⟩ := hq
    split at hy
    · obtain rfl := Option.some.inj hy; exact hx
    · exact hplan i y.plan (by simp [hy])
  count _ hc := by
    have hactive : (s.storePlan g x).activePlan = s.activePlan := by
      unfold State.activePlan
      show (s.ps.active.bind fun p => ((s.storePlan g x).slot p).map (·.plan)) = _
      cases h : s.ps.active with
      | none => rfl
      | some a => simp only [Option.bind_some]; rw [s.storePlan_slot x hg fun e => ha (by rw [h, e])]
    rw [State.countLaw_iff] at hc ⊢
    obtain ⟨htb, hn, hp, hmu, hst, htgt⟩ := hc
    exact ⟨htb, hn, hp, hmu, hst, hactive ▸ htgt.master, hactive ▸ htgt.raw, hactive ▸ htgt.target, htgt.idle⟩
  order _ _ ho := by
    rw [State.orderLaw_iff] at ho ⊢
    intro k
    refine ⟨(ho k).1, fun b hb => ?_⟩
    obtain ⟨hrun, hco, hsync, hlawful, hplan⟩ := (ho k).2 b hb
    refine ⟨hrun, hco, hsync, hlawful, fun ht => ?_⟩
    obtain ⟨hactive, hj⟩ := hplan ht
    refine ⟨hactive, fun y hy => ?_⟩
    rw [s.storePlan_slot x hg fun e => ha (by rw [hactive, e])] at hy
    exact hj y hy

theorem State.ownLoadPlan_laws (p : List Byte) : KeepsLaws s (s.ownLoadPlan p).2 := by
  unfold State.ownLoadPlan
  dsimp only
  split
  · exact .refl s
  · next hnone =>
    rw [firstFailure_eq_none] at hnone
    simp only [fieldCheck, State.busyCheck, forall_checks_cons, outside_eq_false, decide_eq_false_iff_not, not_lt] at hnone
    obtain ⟨-, -, ⟨hg, -⟩, hmode, hitems, -⟩ := hnone
    split
    · exact .refl s
    · next counts hcounts =>
      refine s.checked_laws fun h => ?_
      simp only [List.cons_append, forall_checks_append, forall_checks_cons, fieldCheck] at h
      obtain ⟨hcount, -, hfields, huse, -⟩ := h
      have hc : ∀ c ∈ counts, 2 ≤ c ∧ c ≤ 6 := by
        cases hfind : counts.findIdx? (outside 2 6) with
        | none => exact fun c hcs => outside_eq_false.1 (List.findIdx?_eq_none_iff.1 hfind c hcs)
        | some k => rw [hfind] at hcount; cases hcount
      rw [← splitCounts_length hcounts] at hitems
      simp only [Bool.or_eq_false_iff, decide_eq_false_iff_not] at huse
      exact s.storePlan_laws (by omega) (loadedPlan_fits hmode hitems hc hfields) huse.1

/-! ## The schedule (R28, R29) -/

/-- The schedule changes within its ranges. -/
theorem KeepsLaws.of_schedule {s : State} {l : List ScheduleEntry} (h : s.ItemLaw → l.length ≤ Config.scheduleSize
    ∧ ∀ e ∈ l, e.start ≤ 1439 ∧ e.days ≠ 0 ∧ e.plan ≤ 8) : KeepsLaws s { s with ps := { s.ps with schedule := l } } where
  item hi := by
    have hl := h hi
    obtain ⟨⟨hcount, hconfig, hplan, -⟩, himage⟩ := hi
    exact ⟨⟨hcount, hconfig, hplan, hl⟩, himage⟩
  count _ hc := hc
  order _ _ ho := ho

/-- A day mask of 1 to 127 includes a day (R28). -/
theorem carriedEntry_days {p : List Byte} (h0 : rd8 p 2 ≠ 0) (h : rd8 p 2 ≤ 127) : (carriedEntry p).days ≠ 0 := by
  intro he
  have := congrArg BitVec.toNat he
  simp only [carriedEntry, BitVec.toNat_setWidth] at this
  unfold rd8 at h0 h
  rw [Nat.mod_eq_of_lt (by omega)] at this
  exact h0 this

theorem State.ownAddSchedule_laws (p : List Byte) : KeepsLaws s (s.ownAddSchedule p).2 := by
  refine s.checked_laws fun h => ?_
  simp only [entryChecks, fieldCheck, List.cons_append, List.nil_append, State.busyCheck, forall_checks_cons, Bool.or_eq_false_iff,
    decide_eq_false_iff_not, not_lt] at h
  obtain ⟨-, hstart, ⟨hday0, hday⟩, hplan, -, hfull, -⟩ := h
  refine .of_schedule fun hi => ?_
  obtain ⟨-, -, -, -, hsched⟩ := hi.1
  refine ⟨?_, fun e he => ?_⟩
  · have := List.length_insertIdx_le_succ (l := s.ps.schedule) (x := carriedEntry p) (i := insertAt s.ps.schedule (carriedEntry p))
    omega
  · obtain rfl | he := List.eq_or_mem_of_mem_insertIdx he
    · exact ⟨hstart, carriedEntry_days hday0 hday, hplan⟩
    · exact hsched e he

theorem State.ownDeleteSchedule_laws (p : List Byte) : KeepsLaws s (s.ownDeleteSchedule p).2 := by
  refine s.checked_laws fun _ => ?_
  dsimp only
  split
  · refine .of_schedule fun hi => ?_
    obtain ⟨-, -, -, hlen, hsched⟩ := hi.1
    exact ⟨(List.length_eraseIdx_le _ _).trans hlen, fun e he => hsched e (List.mem_of_mem_eraseIdx he)⟩
  · exact .refl s

/-! ## The clock, the enable and the plans (R25, R26, R34, R37) -/

theorem State.setClock_laws {day time : Nat} (hday : 1 ≤ day ∧ day ≤ 7) (htime : time < Config.dayTicks) :
    KeepsLaws s (s.setClock day time) where
  item hi := hi
  count _ hc := by
    rw [State.countLaw_iff] at hc ⊢
    obtain ⟨-, hn, hp, hmu, hst, htgt⟩ := hc
    exact ⟨⟨htime, hday.1, hday.2⟩, hn, hp, hmu, hst, htgt.master, htgt.raw, htgt.target, htgt.idle⟩
  order _ _ ho := ho

theorem State.ownSetClock_laws (p : List Byte) : KeepsLaws s (s.ownSetClock p).2 := by
  refine s.checked_laws fun h => ?_
  simp only [fieldCheck, forall_checks_cons, outside_eq_false, decide_eq_false_iff_not, not_le] at h
  obtain ⟨hday, htime, -⟩ := h
  exact (s.setClock_laws hday htime).then ((State.emit_follow _ _).keeps.trans (State.evaluate_keeps _ _))

theorem State.enableRequest_laws (on : Bool) (reason : Reason) : KeepsLaws s (s.enableRequest on reason).2 := by
  have henable : Follow s (s.setEnable on) := .of_ps
  exact (henable.keeps.trans (State.evaluate_keeps _ _)).laws

theorem State.setOverride_follow (g : Option Nat) : Follow s (s.setOverride g) := .of_ps

theorem State.ownSelectPlan_laws (p : List Byte) : KeepsLaws s (s.ownSelectPlan p).2 := by
  unfold State.ownSelectPlan
  dsimp only
  split
  · exact .refl s
  · split
    · exact .refl s
    · exact ((s.setOverride_follow _).keeps.trans (State.evaluate_keeps _ _)).laws

theorem State.ownReleasePlan_laws : KeepsLaws s s.ownReleasePlan.2 := by
  unfold State.ownReleasePlan
  split
  · exact .refl s
  · exact ((s.setOverride_follow _).keeps.trans (State.evaluate_keeps _ _)).laws

/-! ## Holds, masks and the incident input (R54, R57, R117) -/

theorem State.ownHoldStation_laws (p : List Byte) : KeepsLaws s (s.ownHoldStation p).2 := by
  unfold State.ownHoldStation
  dsimp only
  split
  · exact .refl s
  · split
    · exact .refl s
    · exact (Follow.trans (.modSt' .of_same) (State.rehold_follow _ _)).laws

theorem State.setMasks_follow (k : StationIx) (a b : Bool) : Follow s (s.setMasks k a b) := by
  have hmasks : Follow s (s.modSt k fun t => { t with maskIn := a, maskOut := b }) := .modSt' .of_same
  unfold State.setMasks
  exact hmasks.trans (.of_stations {})

theorem State.ownSetPriorityMask_laws (p : List Byte) : KeepsLaws s (s.ownSetPriorityMask p).2 := by
  unfold State.ownSetPriorityMask
  split
  · exact .refl s
  · split
    · exact .refl s
    · split
      · exact .refl s
      · exact s.checked_laws fun _ => (s.setMasks_follow _ _ _).laws

/-- The gates of the loaded stations take values (R57). -/
def State.gatesSet (gates : Nat) : State := s.eachStation fun s k => s.modSt k (·.setGate (gates.testBit k.val))

@[simp] theorem State.gatesSet_st (gates : Nat) (k : StationIx) : (s.gatesSet gates).st k = (s.st k).setGate (gates.testBit k.val) :=
  (s.foldl_modSt_st (fun k t => t.setGate (gates.testBit k.val)) allStations allStations_nodup k).trans (if_pos (mem_allStations k))

theorem State.gatesSet_eq (gates : Nat) : s.gatesSet gates = { s with stations := (s.gatesSet gates).stations } :=
  s.foldl_modSt_eq (fun k t => t.setGate (gates.testBit k.val)) allStations

/-- The incident gate is no part of a configuration's ranges, and no law of the waiting orders reads it. -/
theorem State.gatesSet_laws (gates : Nat) : KeepsLaws s (s.gatesSet gates) := by
  generalize hu : s.gatesSet gates = u
  have hst (k : StationIx) : u.st k = (s.st k).setGate (gates.testBit k.val) := by rw [← hu]; exact s.gatesSet_st gates k
  have heq : u = { s with stations := u.stations } := by rw [← hu]; exact s.gatesSet_eq gates
  have hps : u.ps = s.ps := by rw [heq]
  have hslot (p : Nat) : u.slot p = s.slot p := by simp [State.slot, hps]
  refine ⟨?_, fun _ hc => ?_, fun _ _ ho => ?_⟩
  · rintro ⟨⟨hcount, hconfig, hplan, hsched⟩, himage⟩
    rw [heq]
    refine ⟨⟨hcount, fun k c hc => ?_, hplan, hsched⟩, himage⟩
    have hc' : c ∈ (u.st k).config := hc
    rw [hst, Station.setGate, Option.mem_def, Option.map_eq_some_iff] at hc'
    obtain ⟨c0, hc0, rfl⟩ := hc'
    exact hconfig k c0 hc0
  · rw [State.countLaw_iff] at hc ⊢
    obtain ⟨htb, hn, hp, hmu, hcounts, htgt⟩ := hc
    have hactive : u.activePlan = s.activePlan := by simp [State.activePlan, hps, hslot]
    have htb' : u.tb = s.tb := by rw [heq]
    refine ⟨htb' ▸ htb, by rw [heq]; exact hn, by rw [heq]; exact hp, by rw [heq]; exact hmu, fun k => by rw [hst]; exact hcounts k,
      fun p hp => ?_, fun p hp k => ?_, fun p hp k => ?_, fun hidle k => ?_⟩
    · rw [htb']; exact htgt.master p (hactive ▸ hp)
    · rw [hst]; exact htgt.raw p (hactive ▸ hp) k
    · rw [hst]; exact htgt.target p (hactive ▸ hp) k
    · rw [hst]; exact htgt.idle (hps ▸ hidle) k
  · rw [State.orderLaw_iff] at ho ⊢
    intro k
    obtain ⟨hl, hb⟩ := ho k
    rw [hst]
    refine ⟨⟨fun h => ?_, fun c hc => ?_⟩, fun b hm => ?_⟩
    · simpa [Station.setGate] using hl.loaded h
    · rw [Station.setGate, Option.mem_def, Option.map_eq_some_iff] at hc
      obtain ⟨c0, hc0, rfl⟩ := hc
      exact hl.mins c0 hc0
    · have hlaw : s.BodyLaw k ((s.st k).setGate (gates.testBit k.val)) b :=
        ⟨(hb b hm).running, (hb b hm).coordinated, (hb b hm).synced, (hb b hm).lawful, (hb b hm).plan⟩
      exact hlaw.of_ps hps

theorem State.setIncident_eq (x : Polarity) (gates : Nat) :
    s.setIncident x gates = (({ s with hl := { s.hl with polarity := x } } : State).gatesSet gates).reholdAll := rfl

theorem State.setIncident_laws (x : Polarity) (gates : Nat) : KeepsLaws s (s.setIncident x gates) := by
  have hpolarity : Follow s { s with hl := { s.hl with polarity := x } } := .of_stations {}
  rw [State.setIncident_eq]
  exact hpolarity.andThen ((State.gatesSet_laws _ _).then (State.reholdAll_follow _).keeps)

theorem State.ownSetIncident_laws (p : List Byte) : KeepsLaws s (s.ownSetIncident p).2 := by
  unfold State.ownSetIncident
  refine s.checked_laws fun _ => ?_
  dsimp only
  exact s.setIncident_laws _ _

theorem State.ownSetAutostart_laws (p : List Byte) : KeepsLaws s (s.ownSetAutostart p).2 :=
  s.checked_laws fun _ => Follow.laws .of_ps

/-! ## Requests on the table and on the event queue (R126, R130, R152, R157) -/

theorem State.addRoute_follow (r : RouteFields) (l : List StationIx) : Follow s (s.addRoute r l).2 := by
  induction l generalizing s with
  | nil => exact .refl s
  | cons k ks ih =>
    unfold State.addRoute
    split
    · exact ih s
    · exact (s.addEntry_follow _).trans (ih _)

theorem State.ownRouteClear_laws (p : List Byte) : KeepsLaws s (s.ownRouteClear p).2 :=
  s.checked_laws fun _ => ((s.displace_follow _).trans (State.addRoute_follow _ _ _)).laws

theorem State.ownCancelRequest_laws (p : List Byte) : KeepsLaws s (s.ownCancelRequest p).2 := by
  unfold State.ownCancelRequest
  dsimp only
  split
  · exact .refl s
  · exact (s.departAll_follow _ _).laws

theorem State.transmit_follow (f : TxFrame) : Follow s (s.transmit f) := by
  rw [State.transmit_eq]
  exact .of_stations {}

theorem State.noticeReport_follow : Follow s s.noticeReport := by
  have harmed : Follow s { s with hli := { s.hli with armed := false } } := .of_stations {}
  unfold State.noticeReport
  split
  · exact harmed.trans (State.transmit_follow _ _)
  · exact .refl s

theorem State.ownSetNotice_laws (p : List Byte) : KeepsLaws s (s.ownSetNotice p).2 := by
  refine s.checked_laws fun _ => ?_
  have hset (on : Bool) : Follow s { s with hli := { s.hli with notice := on, armed := on } } := .of_stations {}
  unfold State.setNotice
  dsimp only
  split
  · exact ((hset _).trans (State.noticeReport_follow _)).laws
  · exact (hset _).laws

theorem State.removeEvents_follow : Follow s s.removeEvents := by
  unfold State.removeEvents
  exact .of_stations {}

/-! ## Serving and answering (R145 to R149) -/

theorem State.ownSave_laws : KeepsLaws s s.ownSave.2 := by
  unfold State.ownSave
  split
  · exact .refl s
  · exact Follow.laws (.of_stations {})

theorem State.ownReset_laws : KeepsLaws s s.ownReset.2 := by
  unfold State.ownReset
  split
  · exact .refl s
  · exact Follow.laws (.of_stations {})

theorem State.owner_laws (kind : Nat) (p : List Byte) : KeepsLaws s (s.owner kind p).2 := by
  unfold State.owner
  split
  · exact s.ownDefineCorridor_laws p
  · exact s.ownLoadStation_laws p
  · exact s.ownLoadPlan_laws p
  · unfold State.ownQueryPlan
    dsimp only
    split
    · exact .refl s
    · split <;> exact .refl s
  · exact s.ownAddSchedule_laws p
  · exact s.ownDeleteSchedule_laws p
  · exact s.ownSetClock_laws p
  · exact s.enableRequest_laws _ _
  · exact s.enableRequest_laws _ _
  · exact s.ownSelectPlan_laws p
  · exact s.ownReleasePlan_laws
  · exact s.ownHoldStation_laws p
  · exact s.ownSetPriorityMask_laws p
  · exact s.ownSetIncident_laws p
  · exact s.ownSetAutostart_laws p
  · exact s.ownRouteClear_laws p
  · exact s.ownCancelRequest_laws p
  · exact .refl s
  · exact .refl s
  · exact .refl s
  · exact s.removeEvents_follow.laws
  · exact s.ownSetNotice_laws p
  · exact s.ownSave_laws
  · exact s.ownReset_laws
  · exact .refl s

theorem State.serve_laws (f : HostFrame) : KeepsLaws s (s.serve f).2 := by
  unfold State.serve
  split
  · exact .refl s
  · split
    · exact .refl s
    · exact s.owner_laws _ _

theorem State.reply_follow (f : HostFrame) (r : Result) : Follow s (s.reply f r) := by
  have hclear : Follow s { s with hli := { s.hli with overrun := false } } := .of_stations {}
  exact hclear.trans (State.transmit_follow _ _)

theorem State.takeFrame_laws (f : HostFrame) : KeepsLaws s (s.takeFrame f) :=
  (s.serve_laws f).then (State.reply_follow _ f _).keeps

theorem State.offer_laws (f : HostFrame) : KeepsLaws s (s.offer f) := by
  unfold State.offer
  split
  · exact s.takeFrame_laws f
  · split
    · exact Follow.laws (.of_stations {})
    · exact Follow.laws (.of_stations {})

theorem State.hostFrame_laws (kind echo : Byte) (p : List Byte) : KeepsLaws s (s.hostFrame kind echo p) := by
  have hheard : Follow s { s with hli := { s.hli with rx := .hunting } } := .of_stations {}
  unfold State.hostFrame
  split
  · exact .refl s
  · exact hheard.andThen (State.offer_laws _ _)

theorem State.takeWaiting_laws : KeepsLaws s s.takeWaiting := by
  unfold State.takeWaiting
  split
  · split
    · next rest _ _ =>
      have hrest : Follow s { s with hli := { s.hli with received := rest } } := .of_stations {}
      exact hrest.andThen (State.takeFrame_laws _ _)
    · exact .refl s
  · exact .refl s

theorem State.beginHead_follow : Follow s s.beginHead := by
  rw [State.beginHead_eq]
  exact .of_stations {}

theorem State.frameSent_follow : Follow s s.frameSent := by
  have htail : Follow s { s with hli := { s.hli with transmit := s.hli.transmit.tail } } := .of_stations {}
  exact htail.trans (State.beginHead_follow _)

theorem State.noteEmptied_follow : Follow s s.noteEmptied := .of_stations {}

end Sys2Proof.Machine
end

section
/-! SUPPORT. The image and the resets: what SAVE writes and what a reset restores (R158 to R161), and that every command keeps the laws of
the stored items, the ranges and the waiting orders. -/

-- One proof at a time: elaborated in parallel, each proof that waits for an earlier one holds a thread and its stack.
set_option Elab.async false

namespace Sys2Proof.Machine

variable (s : State)

/-! ## Items written one by one -/

/-- A vector whose items are set one by one at a list of places. -/
theorem foldl_set_getElem {α : Type} {n : Nat} (f : Fin n → α) (l : List (Fin n)) (v : Vector α n) (g : Fin n) :
    (l.foldl (fun v (i : Fin n) => v.set i (f i)) v)[g] = if g ∈ l then f g else v[g] := by
  induction l generalizing v with
  | nil => simp
  | cons i l ih =>
    rw [List.foldl_cons, ih]
    by_cases hg : g = i
    · subst hg; simp
    · have : i.val ≠ g.val := fun h => hg (Fin.ext h.symm)
      simp [hg, this]

theorem mem_allPlanSlots (g : Fin 8) : g ∈ allPlanSlots := by revert g; decide

/-! ## The working values of the stored items (R158) -/

theorem State.workingItems_configs (k : StationIx) : s.workingItems.configs[k] = (s.st k).config :=
  (foldl_set_getElem (fun k => (s.st k).config) allStations _ k).trans (if_pos (mem_allStations k))

/-- A vector of plan slots whose items are all set one by one. -/
theorem foldl_set_allPlanSlots {α : Type} (f : Fin 8 → α) (v : Vector α 8) (g : Fin 8) :
    (allPlanSlots.foldl (fun v (i : Fin 8) => v.set i (f i)) v)[g] = f g :=
  (foldl_set_getElem f allPlanSlots v g).trans (if_pos (mem_allPlanSlots g))

theorem State.workingItems_plans (g : Fin 8) : s.workingItems.plans[g] = (s.ps.slots[g]).map (·.plan) := by
  have hplans : s.workingItems.plans = allPlanSlots.foldl
      (fun v (g : Fin 8) => v.set g ((s.ps.slots[g]).map (·.plan))) (.replicate 8 none) := rfl
  rw [hplans, foldl_set_allPlanSlots (fun g : Fin 8 => (s.ps.slots[g]).map (·.plan))]

/-- The working values lie in their ranges as stored items. -/
theorem State.ItemLaw.workingItems {s : State} (h : s.ItemLaw) : itemsFit s.workingItems.count (fun k => s.workingItems.configs[k])
    (fun g => s.workingItems.plans[g]) s.workingItems.schedule := by
  rw [funext s.workingItems_configs, funext s.workingItems_plans]
  exact h.1

theorem State.endSave_laws (t : Tick) (passes : Bool) : KeepsLaws s (s.endSave t passes) := by
  refine (s.emit_follow (.saveEnd passes (s.saveTicks t))).andThen ⟨fun hi => ⟨hi.1, fun _ => ?_⟩, fun _ hc => hc, fun _ _ ho => ho⟩
  have hworking := ((s.emit_follow (.saveEnd passes (s.saveTicks t))).itemLaw_iff.1 hi).workingItems
  exact hworking

/-! ## What a reset restores (R160) -/

/-- A station's record after a reset, field by field where the laws read it. -/
theorem Station.restored_loadedLaw {c : Option StationConfig} {m : Bool × Bool} (h : ∀ x ∈ c, x.fits) : (Station.restored c m).LoadedLaw where
  loaded hl := by simp [Station.restored, Station.blank] at hl
  mins x hx := by
    obtain ⟨-, -, -, -, hmins, -⟩ := h x hx
    have hforce : (Station.restored c m).minsInForce = x.minimums := by
      have : c = some x := hx
      simp [Station.restored, this]
    rw [hforce]
    exact ⟨rfl, hmins, fun _ => rfl⟩

/-- The state with the stored items other than the stations' taken as working values (R160). -/
def State.itemsTaken (s : State) (i : StoredItems) : State := { s with
  count := i.count
  ps := { s.ps with
    slots := allPlanSlots.foldl (fun v (g : Fin 8) => v.set g (i.plans[g].map fun plan => { plan, verdict := .valid })) s.ps.slots
    schedule := i.schedule, autostart := i.autostart }
  hl := { s.hl with polarity := i.polarity } }

theorem State.restore_eq_foldl (i : StoredItems) : s.restore i =
    allStations.foldl (fun s k => s.modSt k fun _ => .restored i.configs[k] i.masks[k]) (s.itemsTaken i) := rfl

theorem State.restore_st (i : StoredItems) (k : StationIx) : (s.restore i).st k = .restored i.configs[k] i.masks[k] := by
  rw [State.restore_eq_foldl, State.foldl_modSt_st (s.itemsTaken i) (fun k _ => .restored i.configs[k] i.masks[k]) allStations
    allStations_nodup k, if_pos (mem_allStations k)]

/-- A restore sets the stored items, and replaces every station record (R160). -/
theorem State.restore_eq (i : StoredItems) : s.restore i = { s.itemsTaken i with stations := (s.restore i).stations } := by
  rw [State.restore_eq_foldl]
  exact State.foldl_modSt_eq (s.itemsTaken i) (fun k _ => .restored i.configs[k] i.masks[k]) allStations

theorem State.restore_slots (i : StoredItems) (g : Fin 8) :
    (s.restore i).ps.slots[g] = (i.plans[g]).map fun plan => { plan, verdict := .valid } := by
  have hslots : (s.restore i).ps.slots = allPlanSlots.foldl
      (fun v (g : Fin 8) => v.set g (i.plans[g].map fun plan => { plan, verdict := .valid })) s.ps.slots :=
    congrArg (·.ps.slots) (s.restore_eq i)
  rw [hslots, foldl_set_allPlanSlots fun g : Fin 8 => i.plans[g].map fun plan => ({ plan, verdict := .valid } : PlanSlot)]

/-- The state of a reset that has loaded its image and not yet handed the items over: every other part at its reset value (R160). -/
def State.reloaded (image : Image) (tb : TimeBase) : State :=
  ({ State.reset with pending := s.pending, tb, cs := { image, saving := none } } : State).restore image.loaded

theorem State.reloaded_items {image : Image} {tb : TimeBase} (hfit : itemsFit image.loaded.count (fun k => image.loaded.configs[k])
    (fun g => image.loaded.plans[g]) image.loaded.schedule) (hpass : image.passes = true → itemsFit image.items.count
    (fun k => image.items.configs[k]) (fun g => image.items.plans[g]) image.items.schedule) : (s.reloaded image tb).ItemLaw := by
  have hconfig (k : StationIx) : ((s.reloaded image tb).st k).config = image.loaded.configs[k] := by
    rw [State.reloaded, State.restore_st]; rfl
  have hplan (g : Fin 8) : ((s.reloaded image tb).ps.slots[g]).map (·.plan) = image.loaded.plans[g] := by
    rw [State.reloaded, State.restore_slots, Option.map_map]
    exact Option.map_id'
  unfold State.ItemLaw
  rw [funext hconfig, funext hplan, State.reloaded, State.restore_eq]
  exact ⟨hfit, hpass⟩

theorem State.reloaded_countLaw {image : Image} {tb : TimeBase} (hi : (s.reloaded image tb).ItemLaw) (htb : tb.InRange) :
    (s.reloaded image tb).CountLaw := by
  have hst (k : StationIx) : (s.reloaded image tb).st k = .restored image.loaded.configs[k] image.loaded.masks[k] := by
    rw [State.reloaded, State.restore_st]
  have heq : (s.reloaded image tb) = _ := State.restore_eq _ _
  have hnone : (s.reloaded image tb).activePlan = none := by
    rw [heq]; rfl
  rw [State.countLaw_iff]
  refine ⟨by rw [heq]; exact htb, by rw [heq]; exact Nat.zero_le _, ?_, by rw [heq]; exact ⟨Nat.zero_le _, Nat.zero_le _, Nat.zero_le _,
    Nat.zero_le _, fun x hx => by cases hx⟩, fun k => ?_, fun p hp => ?_, fun p hp => ?_, fun p hp => ?_, fun _ k => ?_⟩
  · have hcount := hi.1.1
    have hptr : (s.reloaded image tb).clc.pollPtr = 0 := by rw [heq]; rfl
    rw [hptr]
    cases hn : (s.reloaded image tb).count with
    | none => decide
    | some n => have := hcount n hn; simp only [Option.getD_some]; omega
  · rw [hst]; exact ⟨Nat.le_refl 3, Nat.le_refl 3, Nat.zero_le _, Nat.zero_le _, Nat.zero_le _⟩
  · rw [hnone] at hp; cases hp
  · rw [hnone] at hp; cases hp
  · rw [hnone] at hp; cases hp
  · rw [hst]; exact ⟨rfl, rfl⟩

theorem State.reloaded_orderLaw {image : Image} {tb : TimeBase} (hi : (s.reloaded image tb).ItemLaw) :
    (s.reloaded image tb).OrderLaw := by
  have hst (k : StationIx) : (s.reloaded image tb).st k = .restored image.loaded.configs[k] image.loaded.masks[k] := by
    rw [State.reloaded, State.restore_st]
  refine .of_cycleOrder_none (fun k => ?_) fun k => ?_
  · rw [hst]
    refine Station.restored_loadedLaw fun c hc => ?_
    exact (hi.config_fits (k := k) (c := c) (by rw [hst]; exact hc)).1
  · rw [hst]; rfl

/-- The state with the autostart flag as the enable, and a level on the INCIDENT pin (R160). -/
def State.enabled (s : State) (level : Bool) : State :=
  { s with ps := { s.ps with enable := s.ps.autostart }, hl := { s.hl with level } }

theorem State.handOver_eq (level : Bool) : s.handOver level = ((s.judgeAll.enabled level).reholdAll).evaluate .reset := rfl

theorem State.handOver_keeps (level : Bool) : Keeps s (s.handOver level) := by
  have henable (u : State) : Follow u (u.enabled level) := by
    unfold State.enabled
    exact .of_stations {}
  rw [State.handOver_eq]
  exact ((s.judgeAll_follow.trans (henable _)).trans (State.reholdAll_follow _)).keeps.trans (State.evaluate_keeps _ _)

/-- The items that a load takes are in range where a passing image's are: an image that fails gives the empty ones (R160). -/
theorem Image.loaded_fits {image : Image} (hpass : image.passes = true → itemsFit image.items.count
    (fun k => image.items.configs[k]) (fun g => image.items.plans[g]) image.items.schedule) :
    itemsFit image.loaded.count (fun k => image.loaded.configs[k]) (fun g => image.loaded.plans[g]) image.loaded.schedule := by
  unfold Image.loaded
  split
  · next h => exact hpass h
  · exact StoredItems.empty_fits

theorem State.afterReset_laws {image : Image} {tb : TimeBase} (level : Bool) (hpass : s.ItemLaw → image.passes = true →
    itemsFit image.items.count (fun k => image.items.configs[k]) (fun g => image.items.plans[g]) image.items.schedule)
    (htb : s.CountLaw → tb.InRange) : KeepsLaws s (s.afterReset image tb level) := by
  have hover : Keeps (s.reloaded image tb) (s.afterReset image tb level) := State.handOver_keeps _ level
  have hitem (hi : s.ItemLaw) := s.reloaded_items (tb := tb) (Image.loaded_fits (hpass hi)) (hpass hi)
  exact ⟨fun hi => hover.items.itemLaw (hitem hi), fun hi hc => hover.count (hitem hi) (s.reloaded_countLaw (hitem hi) (htb hc)),
    fun hi _ _ => hover.order (hitem hi) (s.reloaded_orderLaw (hitem hi))⟩

/-- An image whose write stopped part-way fails its check (R161). -/
theorem Image.written_false_passes (i : StoredItems) : (Image.written i false).passes = false := by
  have (w : Word16) : ~~~w ≠ w := by
    intro h
    have := congrArg (·.getLsbD 0) h
    simp at this
  simp [Image.passes, Image.written, this]

theorem execPowerOnReset_laws (level : Bool) : KeepsLaws.Outcome s (execPowerOnReset level s) := by
  refine .next (s.afterReset_laws level (fun hi => ?_) fun _ => ⟨by decide, by decide, by decide⟩)
  unfold State.imageAtPowerLoss
  split
  · intro h
    rw [Image.written_false_passes] at h; cases h
  · exact hi.2

theorem execResetCarriedOut_laws (level : Bool) : KeepsLaws.Outcome s (execResetCarriedOut level s) := by
  unfold execResetCarriedOut
  split
  · refine .next (s.afterReset_laws level (fun hi => hi.2) fun hc => ?_)
    obtain ⟨htb, -⟩ := State.countLaw_iff.1 hc
    exact ⟨htb.time, htb.dayLow, htb.dayHigh⟩
  · exact .next (.refl s)

/-! ## Every command -/

/-- What a command does to the entry in a slot, if there is one that meets its condition, follows. -/
theorem execAtEntry_laws {o : Option Entry} {f : Entry → Host.Outcome State Fault Refusal} (hf : ∀ e, KeepsLaws.Outcome s (f e)) :
    KeepsLaws.Outcome s (match o with | some e => f e | none => .next s) := by
  cases o
  · exact .next (.refl s)
  · exact hf _

theorem KeepsLaws.Outcome.ite {s t : State} {c : Prop} [Decidable c] (h : KeepsLaws s t) :
    KeepsLaws.Outcome s (if c then .next t else .next s) := by
  split
  · exact .next h
  · exact .next (.refl s)

theorem State.comeDue_follow (e : Entry) : Follow s (s.comeDue e) := by
  unfold State.comeDue
  split
  · exact s.post_follow e
  · exact (s.modEntry_follow _ _).trans (State.takeUp_follow _ _)

theorem execHostFrameReceived_laws (rest : List Byte) : KeepsLaws.Outcome s (execHostFrameReceived rest s) := by
  have hheard : Follow s { s with hli := { s.hli with rx := .hunting } } := .of_stations {}
  unfold execHostFrameReceived
  split
  · split
    · dsimp only
      split
      · exact .next (hheard.andThen (State.offer_laws _ _))
      · exact .next hheard.laws
    · exact .next (.refl s)
  · exact .next (.refl s)
  · exact .next (.refl s)

theorem execHostFrameSent_laws : KeepsLaws.Outcome s (execHostFrameSent s) := by
  unfold execHostFrameSent
  split
  · exact .next (.refl s)
  · split
    · exact .next (s.frameSent_follow.trans (State.noteEmptied_follow _)).laws
    · exact .next (s.frameSent_follow.andThen (State.takeWaiting_laws _))

theorem execWaitingFrameRefused_laws : KeepsLaws.Outcome s (execWaitingFrameRefused s) := by
  unfold execWaitingFrameRefused
  split
  · next rest _ =>
    have hrest : Follow s { s with hli := { s.hli with received := rest } } := .of_stations {}
    exact .ite (hrest.trans (State.reply_follow _ _ _)).laws
  · exact .next (.refl s)

theorem exec_laws (i : Instr) : KeepsLaws.Outcome s (exec i s) := by
  cases i with
  | powerOnReset level => exact execPowerOnReset_laws s level
  | tick => exact .next s.advance_laws
  | minuteBoundary => exact execMinuteBoundary_laws s
  | masterBoundary => exact execMasterBoundary_laws s
  | incidentChange level => exact execIncidentChange_laws s level
  | localZero k => exact execLocalZero_laws s k
  | orderPoint k => exact execOrderPoint_laws s k
  | orderDeadlinePassed k =>
    show KeepsLaws.Outcome s (execOrderDeadlinePassed k s)
    unfold execOrderDeadlinePassed
    split
    · exact .ite (s.dropOrder_keeps k _).laws
    · exact .next (.refl s)
  | reviseLatestTickPassed k =>
    show KeepsLaws.Outcome s (execReviseLatestTickPassed k s)
    unfold execReviseLatestTickPassed
    split
    · exact .ite (s.withdrawRevise_follow k).laws
    · exact .next (.refl s)
  | transitExpiry slot => exact execAtEntry_laws s fun _ => .ite (s.depart_follow _ _).laws
  | emergencyExpiry slot => exact execAtEntry_laws s fun _ => .ite (s.depart_follow _ _).laws
  | routeDue slot => exact execAtEntry_laws s fun _ => .ite (s.comeDue_follow _).laws
  | routeTooLate slot => exact execAtEntry_laws s fun _ => .ite (s.depart_follow _ _).laws
  | routeRefused slot => exact execAtEntry_laws s fun _ => .ite (s.depart_follow _ _).laws
  | slotStart =>
    have hbegun : Follow s { s with clc := { s.clc with slotOpen := false } } := .of_stations {}
    show KeepsLaws.Outcome s (execSlotStart s)
    unfold execSlotStart
    split
    · dsimp only
      split
      · exact .next (hbegun.keeps.trans (State.startSlot_keeps _)).laws
      · exact .next hbegun.laws
    · exact .next (.refl s)
  | exchangeEnd heard a b =>
    show KeepsLaws.Outcome s (execExchangeEnd heard a b s)
    unfold execExchangeEnd
    split
    · exact .next (s.endExchange_keeps _ heard a b).laws
    · exact .next (.refl s)
  | saveComplete passes =>
    show KeepsLaws.Outcome s (execSaveComplete passes s)
    unfold execSaveComplete
    split
    · exact .ite (s.endSave_laws _ passes)
    · exact .next (.refl s)
  | hostFrameReceived rest => exact execHostFrameReceived_laws s rest
  | hostFrameAbandoned =>
    show KeepsLaws.Outcome s (execHostFrameAbandoned s)
    unfold execHostFrameAbandoned
    split
    · exact .next (Follow.laws (.of_stations {}))
    · exact .next (.refl s)
    · exact .next (.refl s)
  | hostFrameSent => exact execHostFrameSent_laws s
  | badKind kind echo p =>
    show KeepsLaws.Outcome s (execBadKind kind echo p s)
    unfold execBadKind
    split
    · exact .next (.refl s)
    · exact .next (s.hostFrame_laws _ _ _)
  | waitingFrameRefused => exact execWaitingFrameRefused_laws s
  | resetCarriedOut level => exact execResetCarriedOut_laws s level
  | hostFrameBegun length =>
    show KeepsLaws.Outcome s (execHostFrameBegun length s)
    unfold execHostFrameBegun
    exact .ite (Follow.laws (.of_stations {}))
  | _ => exact .next (s.hostFrame_laws _ _ _)

theorem step_laws : KeepsLaws.Outcome s (step s) := by
  unfold step
  split
  · exact .next (.refl s)
  · next c rest _ =>
    have htaken : Follow s { s with pending := rest } := .of_stations {}
    exact fun t ht => htaken.andThen (exec_laws _ c t ht)

end Sys2Proof.Machine

open Sys2Proof.Machine

/-- Settles O9: what a step leaves is reached by updates that each keep the stored items and the ranges. -/
theorem stepKeepsTheCountLaw : Obligations.StepKeepsTheCountLaw :=
  ⟨fun s t hi h => (step_laws s t h).item hi, fun s t hi hc h => (step_laws s t h).count hi hc⟩

/-- Settles O10: the corridor and service laws make the active plan fit every loaded station, and under such a plan every order that is
built, folded or rebuilt is lawful. -/
theorem stepKeepsTheOrderLaw : Obligations.StepKeepsTheOrderLaw :=
  fun s t hi hc hs ho h => (step_laws s t h).order hi (State.ServiceLaw.serves hi hc hs) ho
end

section
/-! SUPPORT. What a request row answers when the host link takes its frame at once (R146 to R149), and the requests that do one thing:
SET_AUTOSTART, SAVE, RESET, and DEFINE_CORRIDOR (R5, R38, R154, R159). -/

-- One proof at a time: elaborated in parallel, each proof that waits for an earlier one holds a thread and its stack.
set_option Elab.async false

namespace Sys2Proof.Machine

variable {s u : State} {kind echo : Byte} {p : List Byte} {r : Result}

/-! ## A frame that is taken at once -/

/-- A request row is the arrival of its frame (Table 10-3). -/
theorem exec_of_frame {i : Instr} {f : HostFrame} (hf : i.frame = some f) (hw : i.wellFormed = true)
    (hk : isRequestKind f.kind = true) : exec i s = .next (s.hostFrame f.kind f.echo f.payload) := by
  cases i with
  | badKind => cases hf; simp [Instr.wellFormed, hk] at hw
  | _ => cases hf <;> rfl

theorem payloadFits_of_frame {i : Instr} {f : HostFrame} (hf : i.frame = some f) (hw : i.wellFormed = true) :
    payloadFits f.payload = true := by
  cases i <;> cases hf <;> simp_all [Instr.wellFormed]

theorem State.heard_begun (h : s.takesAtOnce) : s.heard.begun := h.2.2.2

/-- The payload has the length that its kind calls for, where the kind has a fixed one (R149). -/
def HostFrame.lengthFits (f : HostFrame) : Prop := ∀ n, fixedLength f.kind.toNat = some n → f.payload.length = n

theorem State.serve_of_owner {f : HostFrame} (hk : isRequestKind f.kind = true) (hl : f.lengthFits) :
    s.serve f = s.owner f.kind.toNat f.payload := by
  have hfixed : (fixedLength f.kind.toNat).any (· ≠ f.payload.length) = false := by
    cases hn : fixedLength f.kind.toNat with
    | none => rfl
    | some n => simp [hl n hn]
  rw [State.serve, hk, hfixed]
  rfl

/-- A request of a length its kind allows is served by its owner (R149). -/
theorem exec_served {i : Instr} {f : HostFrame} (h : s.takesAtOnce) (hf : i.frame = some f) (hw : i.wellFormed = true)
    (hk : isRequestKind f.kind = true) (hl : f.lengthFits) (ho : s.heard.owner f.kind.toNat f.payload = (r, u)) (hb : u.begun) :
    exec i s = .next (u.answered f.kind f.echo r) := by
  have hserve : s.heard.serve f = (r, u) := (State.serve_of_owner hk hl).trans ho
  rw [exec_of_frame hf hw hk, State.hostFrame_answers h f.kind f.echo (payloadFits_of_frame hf hw) (by rw [hserve]; exact hb), hserve]

/-- A request that its owner answers without a change. -/
theorem exec_unchanged {i : Instr} {f : HostFrame} (h : s.takesAtOnce) (hf : i.frame = some f) (hw : i.wellFormed = true)
    (hk : isRequestKind f.kind = true) (hl : f.lengthFits) (ho : s.heard.owner f.kind.toNat f.payload = (r, s.heard)) :
    exec i s = .next (s.heard.answered f.kind f.echo r) :=
  exec_served h hf hw hk hl ho (State.heard_begun h)

/-- A request of another length than its kind's is BAD_LENGTH (R149). -/
theorem exec_badLength {i : Instr} {f : HostFrame} {n : Nat} (h : s.takesAtOnce) (hf : i.frame = some f)
    (hw : i.wellFormed = true) (hk : isRequestKind f.kind = true) (hn : fixedLength f.kind.toNat = some n)
    (hl : f.payload.length ≠ n) : exec i s = .next (s.heard.answered f.kind f.echo .badLength) := by
  have hfixed : (fixedLength f.kind.toNat).any (· ≠ f.payload.length) = true := by simp [hn, Ne.symm hl]
  have hserve : s.heard.serve f = (.badLength, s.heard) := by
    rw [State.serve, hk, hfixed]; rfl
  rw [exec_of_frame hf hw hk, State.hostFrame_answers h f.kind f.echo (payloadFits_of_frame hf hw) (by rw [hserve]; exact State.heard_begun h), hserve]

/-! ## Checks taken in order -/

theorem State.checked_nil (serve : Result × State) : s.checked [] serve = serve := rfl

theorem State.checked_fails {l : List (Bool × Result)} (serve : Result × State) : s.checked ((true, r) :: l) serve = (r, s) := rfl

theorem State.checked_passes {l : List (Bool × Result)} (serve : Result × State) :
    s.checked ((false, r) :: l) serve = s.checked l serve := rfl

theorem outside_eq_true {low high x : Nat} : outside low high x = true ↔ x < low ∨ high < x := by
  simp [outside]

/-! ## BUSY (R5, R7, R159) -/

theorem State.checked_busy {l : List (Bool × Result)} (serve : Result × State) (hb : s.busy = true) :
    s.checked (s.busyCheck :: l) serve = (.busy, s) := by
  rw [State.busyCheck, hb, State.checked_fails]

theorem State.checked_notBusy {l : List (Bool × Result)} (serve : Result × State) (hb : s.busy = false) :
    s.checked (s.busyCheck :: l) serve = s.checked l serve := by
  rw [State.busyCheck, hb, State.checked_passes]

theorem State.ownLoadPlan_busy (hb : s.busy = true) (hlen : 17 ≤ p.length) : s.ownLoadPlan p = (.busy, s) := by
  have hbase : planBase p + 8 ≤ 17 := by unfold planBase; split <;> omega
  have hshort : decide (p.length < planBase p + 8) = false := decide_eq_false (by omega)
  simp only [State.ownLoadPlan, State.busyCheck, hshort, hb, firstFailure, Bool.false_eq_true, if_false, if_true]

/-- A configuration-changing request, SAVE or RESET during a save is BUSY, once it is long enough to hold its fixed fields. -/
theorem State.owner_busy {kind : Nat} (hb : s.busy = true) (hk : kind ∈ [0x01, 0x02, 0x03, 0x05, 0x06, 0x0D, 0x0E, 0x0F, 0x17, 0x18])
    (hstation : kind = 0x02 → 3 ≤ p.length) (hplan : kind = 0x03 → 17 ≤ p.length) : s.owner kind p = (.busy, s) := by
  simp only [List.mem_cons, List.not_mem_nil, or_false] at hk
  rcases hk with rfl | rfl | rfl | rfl | rfl | rfl | rfl | rfl | rfl | rfl
  · exact State.checked_busy _ hb
  · have := hstation rfl
    exact (if_neg (by omega)).trans (if_pos hb)
  · exact State.ownLoadPlan_busy hb (hplan rfl)
  · exact State.checked_busy _ hb
  · exact State.checked_busy _ hb
  · exact if_pos hb
  · exact State.checked_busy _ hb
  · exact State.checked_busy _ hb
  · exact if_pos hb
  · exact if_pos hb

theorem exec_busy {i : Instr} {f : HostFrame} (h : s.takesAtOnce) (hb : s.busy = true) (hf : i.frame = some f) (hw : i.wellFormed = true)
    (hk : f.kind.toNat ∈ [0x01, 0x02, 0x03, 0x05, 0x06, 0x0D, 0x0E, 0x0F, 0x17, 0x18]) (hlen : f.lengthFits)
    (hstation : f.kind = 0x02 → 3 ≤ f.payload.length) (hplan : f.kind = 0x03 → 17 ≤ f.payload.length) :
    exec i s = .next (s.heard.answered f.kind f.echo .busy) := by
  have hrequest : isRequestKind f.kind = true := by
    simp only [List.mem_cons, List.not_mem_nil, or_false] at hk
    simp only [isRequestKind, Bool.and_eq_true, decide_eq_true_eq]
    omega
  exact exec_unchanged h hf hw hrequest hlen
    (State.owner_busy hb hk (fun h2 => hstation (BitVec.eq_of_toNat_eq h2)) fun h3 => hplan (BitVec.eq_of_toNat_eq h3))

/-! ## SET_AUTOSTART, SAVE and RESET -/

theorem State.ownSetAutostart_badField {v : Byte} (hb : s.busy = false) (hv : 1 < v.toNat) :
    s.ownSetAutostart [v] = (.badField 1, s) := by
  have hfield : decide (1 < rd8 [v] 0) = true := decide_eq_true hv
  rw [State.ownSetAutostart, State.checked_notBusy _ hb, fieldCheck, hfield, State.checked_fails]

theorem State.ownSetAutostart_ok {v : Byte} (hb : s.busy = false) (hv : v.toNat ≤ 1) :
    s.ownSetAutostart [v] = (.ok [], { s with ps := { s.ps with autostart := decide (v.toNat = 1) } }) := by
  have hfield : decide (1 < rd8 [v] 0) = false := decide_eq_false (Nat.not_lt.2 hv)
  rw [State.ownSetAutostart, State.checked_notBusy _ hb, fieldCheck, hfield, State.checked_passes, State.checked_nil]
  rfl

theorem State.ownSave_ok (hb : s.busy = false) : s.ownSave = (.ok [], { s with cs := { s.cs with saving := some s.now } }) :=
  if_neg (by simp [hb])

theorem State.ownReset_ok (hb : s.busy = false) : s.ownReset = (.ok [], { s with hli := { s.hli with rx := .ignoring } }) :=
  if_neg (by simp [hb])

end Sys2Proof.Machine

open Sys2Proof Sys2Proof.Machine

/-- Settles O53: each owner runs its checks in order, and a save in flight fails the first one. -/
theorem autostartSaveAndResetAnswerOrAreBusy : Obligations.AutostartSaveAndResetAnswerOrAreBusy := by
  refine ⟨⟨fun s echo v h hb => ⟨fun hv => ?badField, fun hv => ?autostart⟩, fun s echo ignored h hb => ?save,
    fun s echo ignored h hb => ?reset⟩, fun i f s h hb hf hw hk hlen hstation hplan => exec_busy h hb hf hw hk hlen hstation hplan⟩
  case badField =>
    exact exec_unchanged (i := .setAutostart echo [v]) h rfl rfl rfl (by rintro _ ⟨⟩; rfl) (State.ownSetAutostart_badField hb hv)
  case autostart =>
    exact exec_served (i := .setAutostart echo [v]) h rfl rfl rfl (by rintro _ ⟨⟩; rfl) (State.ownSetAutostart_ok hb hv)
      (State.heard_begun h)
  case save =>
    exact exec_served (i := .save echo [ignored]) h rfl rfl rfl (by rintro _ ⟨⟩; rfl) (State.ownSave_ok hb) (State.heard_begun h)
  case reset =>
    exact exec_served (i := .reset echo [ignored]) h rfl rfl rfl (by rintro _ ⟨⟩; rfl) (State.ownReset_ok hb) (State.heard_begun h)
end

section
/-! SUPPORT. The geometry requests answered whole: DEFINE_CORRIDOR (R5, R6). -/

-- One proof at a time: elaborated in parallel, each proof that waits for an earlier one holds a thread and its stack.
set_option Elab.async false

namespace Sys2Proof.Machine

variable {s : State} {echo n : Byte}

/-! ## DEFINE_CORRIDOR: the checks (R5) -/

theorem State.ownDefineCorridor_badField (hb : s.busy = false) (hn : n.toNat < 2 ∨ 16 < n.toNat) :
    s.ownDefineCorridor [n] = (.badField 1, s) := by
  have hfield : outside 2 16 (rd8 [n] 0) = true := outside_eq_true.2 hn
  rw [State.ownDefineCorridor, State.checked_notBusy _ hb, fieldCheck, hfield, State.checked_fails]

theorem State.ownDefineCorridor_badState (hb : s.busy = false) (hlow : 2 ≤ n.toNat) (hhigh : n.toNat ≤ 16) (hc : s.ps.corridor ≠ .idle) :
    s.ownDefineCorridor [n] = (.badState, s) := by
  have hfield : outside 2 16 (rd8 [n] 0) = false := outside_eq_false.2 ⟨hlow, hhigh⟩
  rw [State.ownDefineCorridor, State.checked_notBusy _ hb, fieldCheck, hfield, State.checked_passes, decide_eq_true hc,
    State.checked_fails]

theorem State.ownDefineCorridor_ok (hb : s.busy = false) (hlow : 2 ≤ n.toNat) (hhigh : n.toNat ≤ 16) (hc : s.ps.corridor = .idle) :
    s.ownDefineCorridor [n] = (.ok [], s.defineCorridor n.toNat) := by
  have hfield : outside 2 16 (rd8 [n] 0) = false := outside_eq_false.2 ⟨hlow, hhigh⟩
  rw [State.ownDefineCorridor, State.checked_notBusy _ hb, fieldCheck, hfield, State.checked_passes,
    decide_eq_false (not_not.2 hc), State.checked_passes, State.checked_nil]
  rfl

/-! ## DEFINE_CORRIDOR: what is left (R6) -/

theorem State.defineCorridor_st (m : Nat) (k : StationIx) : (s.defineCorridor m).st k = .blank := by
  rw [State.defineCorridor_eq, State.judgeAll_st, State.redefined_st]

theorem Exchange.discardIf_true (x : Exchange) : x.discardIf (fun _ => true) = { x with discarded := true } := by
  simp [Exchange.discardIf]

/-- The whole state after an accepted DEFINE_CORRIDOR, but for the verdicts of the stored plans (R6). -/
theorem State.defineCorridor_parts (m : Nat) : s.defineCorridor m = { s with
    count := some m, stations := .replicate 16 .blank, table := []
    clc := { s.clc with
      urgent := [], nonRoutine := 0, pollPtr := 0, exchange := s.clc.exchange.map fun x => { x with discarded := true } }
    mu := { s.mu with ring := [], accIn := 0, accOut := 0, primed := false }
    eq := (s.emitAll s.redefinition).eq, hli := (s.emitAll s.redefinition).hli
    ps := { s.ps with slots := (s.defineCorridor m).ps.slots } } := by
  rw [State.defineCorridor_eq, State.judgeAll_eq, State.redefined, State.emitAll_eq, funext Exchange.discardIf_true]

/-- Before its first station is loaded a corridor has no valid geometry, and no plan is judged further (R11, R15). -/
theorem State.geometryValid_of_blank (h : s.st 0 = .blank) {m : Nat} (hn : s.count = some m) (hm : 0 < m) : s.geometryValid = false := by
  rw [State.geometryValid, hn]
  refine List.all_eq_false.2 ⟨0, mem_allStations 0, ?_⟩
  simp [h, Station.blank, hm]

theorem State.judge_of_invalid (h : s.geometryValid = false) (x : Plan) :
    s.judge x = .invalid { reason := .geometry, station := none, phase := none } := by
  unfold State.judge
  split
  · rfl
  · rw [h]; rfl

theorem State.defineCorridor_geometryValid {m : Nat} (hm : 0 < m) : (s.defineCorridor m).geometryValid = false :=
  State.geometryValid_of_blank (s.defineCorridor_st m 0) (by rw [State.defineCorridor_parts]) hm

theorem State.defineCorridor_slots {m : Nat} (hm : 0 < m) (g : Fin 8) : (s.defineCorridor m).ps.slots[g]
    = (s.ps.slots[g]).map fun x => { x with verdict := .invalid { reason := .geometry, station := none, phase := none } } := by
  have hvalid : ((s.emitAll s.redefinition).redefined m).geometryValid = false :=
    State.geometryValid_of_blank (State.redefined_st _ m 0) rfl hm
  have hslots : ((s.emitAll s.redefinition).redefined m).ps.slots = s.ps.slots := by
    rw [State.redefined, State.emitAll_eq]
  rw [State.defineCorridor_eq, State.judgeAll_slots, hslots]
  exact congrArg (fun f => (s.ps.slots[g]).map f) (funext fun x => by rw [State.judgeSlot, State.judge_of_invalid hvalid])

end Sys2Proof.Machine

open Sys2Proof Sys2Proof.Machine

/-- Settles O40: the owner's checks run in order, and the accepted request's events, reset and verdicts are read off one after another. -/
theorem defineCorridorStartsAfresh : Obligations.DefineCorridorStartsAfresh := by
  refine ⟨fun s echo n h => ⟨fun hb => ?busy, fun hb hn => ?badField, fun hb hlow hhigh hc => ?badState,
    fun hb hlow hhigh hc => ⟨s.heard.defineCorridor n.toNat, ?ok, ?_⟩⟩, fun s echo p h hp hlen => ?badLength⟩
  case busy =>
    exact exec_unchanged (i := .defineCorridor echo [n]) h rfl rfl rfl (by rintro _ ⟨⟩; rfl) (State.checked_busy _ hb)
  case badField =>
    exact exec_unchanged (i := .defineCorridor echo [n]) h rfl rfl rfl (by rintro _ ⟨⟩; rfl) (State.ownDefineCorridor_badField hb hn)
  case badState =>
    exact exec_unchanged (i := .defineCorridor echo [n]) h rfl rfl rfl (by rintro _ ⟨⟩; rfl)
      (State.ownDefineCorridor_badState hb hlow hhigh hc)
  case ok =>
    have hbegun : (s.heard.defineCorridor n.toNat).begun :=
      (State.defineCorridor_quiet s.heard n.toNat).begun (State.heard_begun h)
    exact exec_served (i := .defineCorridor echo [n]) (f := ⟨0x01, echo, [n]⟩) h rfl rfl rfl (by rintro _ ⟨⟩; rfl)
      (State.ownDefineCorridor_ok hb hlow hhigh hc) hbegun
  case badLength => exact exec_badLength (i := .defineCorridor echo p) (n := 1) h rfl hp rfl rfl hlen
  have hpos : 0 < n.toNat := by omega
  have hparts := State.defineCorridor_parts (s := s.heard) n.toNat
  exact ⟨congrArg (·.count) hparts, State.defineCorridor_st _, congrArg (·.table) hparts, State.defineCorridor_geometryValid hpos,
    congrArg (·.clc) hparts, congrArg (·.mu) hparts, congrArg (·.hl) hparts, State.defineCorridor_slots hpos,
    ⟨congrArg (·.eq) hparts, congrArg (·.hli) hparts⟩, congrArg (·.tb) hparts, congrArg (·.cs) hparts, congrArg (·.pending) hparts,
    congrArg (·.ps) hparts⟩
end

section
/-! SUPPORT. The four queries, item by item (R19, R45, R59, R80, R99, R100, R132, R144, R151). -/

-- One proof at a time: elaborated in parallel, each proof that waits for an earlier one holds a thread and its stack.
set_option Elab.async false

namespace Sys2Proof.Machine

variable (s : State)

theorem be8_toNat (b : Byte) : be8 b.toNat = [b] := by
  simp [be8]

/-! ## QUERY_CORRIDOR (R45) -/

theorem be8_source : be8 s.source = flagByte s.ps.override.isSome := by
  unfold State.source
  cases s.ps.override <;> rfl

theorem State.operatingBytes_eq : s.operatingBytes =
    be8 s.ps.corridor.code ++ flagByte s.ps.enable ++ flagByte s.ps.autostart ++ flagByte s.ps.override.isSome
      ++ optBytes be8 s.ps.active ++ optBytes be8 s.ps.staged ++ optBytes be8 s.ps.override ++ be8 s.schedulePlan ++ be8 s.governing
      ++ optBytes be8 s.ps.rejection
      ++ (if s.ps.corridor = .stopping then be8 (allStations.filter s.releaseOut).length else []) := by
  rw [State.operatingBytes, be8_source]
  rfl

theorem State.timeBytes_eq : s.timeBytes =
    be32 s.tb.tick.toNat ++ flagByte s.tb.clockSet ++ (if s.tb.clockSet then be8 s.tb.day ++ be32 s.tb.time else [])
      ++ (if s.ps.corridor = .idle then [] else (s.activePlan.map fun p => be16 s.tb.m ++ be16 p.cycle).getD []) := by
  unfold State.timeBytes
  congr 1
  cases s.ps.corridor <;> cases s.activePlan <;> rfl

theorem setBytes_eq (f : StationIx → Bool) : setBytes f = be16 ((allStations.filter fun k => f k).map fun k => 2 ^ k.val).sum := by
  have hsum (l : List StationIx) (n : Nat) : l.foldl (fun n k => n + if f k then 2 ^ k.val else 0) n
      = n + ((l.filter fun k => f k).map fun k => 2 ^ k.val).sum := by
    induction l generalizing n with
    | nil => rfl
    | cons k l ih =>
      rw [List.foldl_cons, ih]
      cases hk : f k <;> simp [hk, Nat.add_assoc]
  rw [setBytes, hsum, Nat.zero_add]

theorem State.geometryBytes_eq : s.geometryBytes = optBytes be8 s.count
    ++ be16 ((allStations.filter fun k => (s.st k).config.isSome).map fun k => 2 ^ k.val).sum ++ flagByte s.geometryValid := by
  rw [State.geometryBytes, setBytes_eq]
  rfl

theorem State.termBytes_eq : allTerms.flatMap (fun t => flagByte (s.termHolds t))
    = flagByte s.ps.enable ++ flagByte s.tb.clockSet ++ flagByte s.geometryValid ++ flagByte s.planTerm := rfl

theorem State.corridorBytes_eq : s.corridorBytes = s.operatingBytes ++ flagByte s.ps.enable ++ flagByte s.tb.clockSet
    ++ flagByte s.geometryValid ++ flagByte s.planTerm ++ s.timeBytes ++ s.geometryBytes ++ be8 s.mu.weight
    ++ listBytes (fun k => be8 (s.st k).coord.code) (allStations.filter fun k => s.count.any (k.val < ·)) := by
  rw [State.corridorBytes, State.termBytes_eq]
  simp only [List.append_assoc]
  rfl

/-! ## QUERY_STATION (R59, R80, R99, R100, R132, R144) -/

theorem Station.geometryBytes_eq (t : Station) : t.geometryBytes =
    optBytes (fun c => be8 c.drop ++ be8 c.minimums.length ++ listBytes be16 c.minimums
      ++ be8 c.headwayIn ++ be8 c.headwayOut ++ flagByte c.honourManual ++ flagByte c.incidentGate
      ++ optBytes (fun l => be16 l.distance) c.link ++ optBytes (fun l => be8 l.vIn) c.link
      ++ optBytes (fun l => be8 l.vOut) c.link ++ listBytes be16 c.minimums ++ flagByte t.minsPending
      ++ (if t.minsPending then listBytes be16 t.minsInForce else [])
      ++ (c.link.map fun l => be16 l.tIn ++ be16 l.tOut).getD []) t.config := by
  unfold Station.geometryBytes
  congr 1
  funext c
  congr 1
  cases c.link <;> rfl

theorem State.sourceBytes_eq (k : StationIx) : (s.sources k).flatMap flagByte = flagByte (s.st k).hostHold
    ++ flagByte ((s.st k).manualFlag && (s.st k).honours) ++ flagByte (s.incidentActive && (s.st k).gated)
    ++ flagByte (s.st k).preemptFlag ++ flagByte (s.st k).routeActive := rfl

theorem State.holdFields_eq (k : StationIx) : s.holdFields k =
    be8 (s.st k).link.code ++ be8 (s.st k).misses ++ be8 (s.st k).coord.code ++ flagByte (s.st k).synced
      ++ optBytes (fun m => be8 m.number.toNat ++ sbe32 (tickDiff s.now m.zeroTick)
        ++ optBytes (fun c => be16 c.length) m.basis.course) (s.st k).model
      ++ (s.st k).errorBytes ++ flagByte (s.st k).hold ++ flagByte (s.st k).hostHold
      ++ flagByte ((s.st k).manualFlag && (s.st k).honours) ++ flagByte (s.incidentActive && (s.st k).gated)
      ++ flagByte (s.st k).preemptFlag ++ flagByte (s.st k).routeActive ++ flagByte (s.st k).hostHold
      ++ flagByte (s.st k).manualFlag ++ flagByte (s.st k).preemptFlag ++ flagByte (s.st k).honours ++ flagByte (s.st k).gated
      ++ flagByte s.incidentActive := by
  unfold State.holdFields
  dsimp only
  rw [State.sourceBytes_eq]
  simp only [List.append_assoc]
  rfl

theorem State.partTwo_eq (k : StationIx) : s.partTwo k = s.modelBytes k ++ optBytes be16 (s.st k).raw ++ optBytes be16 (s.st k).target
    ++ flagByte (s.st k).jump ++ (optBytes (·.bytes) (s.st k).order ++ optBytes (·.bytes) (s.st k).revise) := by
  simp only [State.partTwo, Station.targetBytes, List.append_assoc]

theorem State.ownQueryStation_badField1 {i part : Byte} (h : s.count.any (i.toNat < ·) = false) :
    s.ownQueryStation [i, part] = .badField 1 := by
  have hnone : s.stationOf (rd8 [i, part] 0) = none := by
    simp [State.stationOf, rd8, h]
  rw [State.ownQueryStation, hnone]

/-- QUERY_STATION of a station below N, at any part (R151). -/
theorem State.ownQueryStation_eq {i part : Byte} {k : StationIx} (hk : i.toNat = k.val) (h : s.count.any (i.toNat < ·) = true) :
    s.ownQueryStation [i, part] = if outside 1 3 part.toNat then .badField 2
      else .ok ([i, part] ++ s.partBytes k part.toNat) := by
  have hsome : s.stationOf (rd8 [i, part] 0) = some k := State.stationOf_eq_some.2 ⟨hk.symm, h⟩
  have hi : be8 k.val = [i] := hk ▸ be8_toNat i
  have hpart : be8 (rd8 [i, part] 1) = [part] := be8_toNat part
  rw [State.ownQueryStation, hsome]
  dsimp only
  rw [hi, hpart]
  rfl

theorem State.partBytes_eq (k : StationIx) {n : Nat} (hlow : 1 ≤ n) (hhigh : n ≤ 3) :
    s.partBytes k n = if n = 1 then s.partOne k else if n = 2 then s.partTwo k else s.partThree k := by
  obtain rfl | rfl | rfl : n = 1 ∨ n = 2 ∨ n = 3 := by omega
  all_goals rfl

/-! ## QUERY_REQUESTS (R132, R151) -/

theorem presentFor_flag (present v : Bool) :
    presentFor present (flagByte v) = optBytes flagByte (if present then some v else none) := by
  cases present <;> rfl

theorem ReqClass.not_transit (c : ReqClass) : (!decide (c = .transit)) = decide (c = .emergency) := by
  cases c <;> rfl

theorem Entry.bytes_eq (e : Entry) : e.bytes =
    be8 e.slot.val ++ be8 e.cls.code ++ be8 e.level ++ be8 e.origin.code ++ be8 e.station.val ++ be8 e.dir.code
      ++ be16 e.tag.toNat ++ be32 e.arrival.toNat ++ be32 e.eta.toNat ++ optBytes (fun t => be32 t.toNat) e.due
      ++ optBytes flagByte (if decide (e.cls = .transit) = true then some e.masked else none) ++ optBytes (fun g => be8 g.code) e.grant
      ++ optBytes flagByte (if decide (e.cls = .transit) = true then some e.outstanding else none)
      ++ optBytes flagByte (if decide (e.cls = .emergency) = true then some e.seen else none)
      ++ optBytes flagByte (if decide (e.origin = .route) = true then some e.posted else none) ++ be8 e.state.code := by
  unfold Entry.bytes
  dsimp only
  rw [presentFor_flag, presentFor_flag, presentFor_flag, presentFor_flag, ReqClass.not_transit]

theorem State.ownQueryRequests_badField1 {sel start : Byte} (hne : sel.toNat ≠ 0xFF) (h : s.count.any (sel.toNat < ·) = false) :
    s.ownQueryRequests [sel, start] = .badField 1 := by
  have hno : (decide (rd8 [sel, start] 0 ≠ 0xFF) && s.noStation (rd8 [sel, start] 0)) = true := by
    simp [rd8, State.noStation, h, hne]
  exact if_pos hno

theorem State.ownQueryRequests_eq {sel start : Byte} (h : sel.toNat = 0xFF ∨ s.count.any (sel.toNat < ·) = true) :
    s.ownQueryRequests [sel, start] = if 24 ≤ start.toNat then .badField 2
      else .ok (be8 (s.selected sel.toNat).length ++ [start]
        ++ listBytes (·.bytes) (((s.selected sel.toNat).drop start.toNat).take 7)) := by
  have hno : ¬(decide (rd8 [sel, start] 0 ≠ 0xFF) && s.noStation (rd8 [sel, start] 0)) = true := by
    obtain h | h := h <;> simp [rd8, State.noStation, h]
  have hstart : be8 (rd8 [sel, start] 1) = [start] := be8_toNat start
  rw [State.ownQueryRequests]
  dsimp only
  rw [if_neg hno, hstart]
  rfl

/-! ## QUERY_PLAN (R19) -/

theorem State.ownQueryPlan_badField {g : Byte} (h : g.toNat < 1 ∨ 8 < g.toNat) : s.ownQueryPlan [g] = (.badField 1, s) :=
  if_pos (outside_eq_true.2 h)

theorem State.ownQueryPlan_noEntry {g : Byte} (hlow : 1 ≤ g.toNat) (hhigh : g.toNat ≤ 8) (h : s.slot g.toNat = none) :
    s.ownQueryPlan [g] = (.noEntry, s) := by
  have hin : outside 1 8 (rd8 [g] 0) = false := outside_eq_false.2 ⟨hlow, hhigh⟩
  have hslot : s.slot (rd8 [g] 0) = none := h
  rw [State.ownQueryPlan, hin, hslot]
  rfl

theorem State.ownQueryPlan_ok {g : Byte} {x : PlanSlot} (hlow : 1 ≤ g.toNat) (hhigh : g.toNat ≤ 8) (h : s.slot g.toNat = some x) :
    s.ownQueryPlan [g] = (.ok ([g] ++ x.plan.bytes ++ x.verdict.bytes ++ flagByte (s.ps.active = some g.toNat)
      ++ flagByte (s.ps.staged = some g.toNat) ++ flagByte (s.ps.override = some g.toNat)), s) := by
  have hin : outside 1 8 (rd8 [g] 0) = false := outside_eq_false.2 ⟨hlow, hhigh⟩
  have hslot : s.slot (rd8 [g] 0) = some x := h
  have hg : be8 (rd8 [g] 0) = [g] := be8_toNat g
  rw [State.ownQueryPlan, hin, hslot, if_neg Bool.false_ne_true]
  dsimp only
  rw [hg]
  rfl

/-! ## The query rows -/

theorem exec_queryCorridor {s : State} {echo ignored : Byte} (h : s.takesAtOnce) :
    exec (.queryCorridor echo [ignored]) s = .next (s.heard.answered 0x12 echo (.ok s.corridorBytes)) :=
  exec_unchanged (i := .queryCorridor echo [ignored]) h rfl rfl rfl (by rintro _ ⟨⟩; rfl) rfl

theorem exec_queryStation {s : State} {echo i part : Byte} (h : s.takesAtOnce) :
    exec (.queryStation echo [i, part]) s = .next (s.heard.answered 0x13 echo (s.ownQueryStation [i, part])) :=
  exec_unchanged (i := .queryStation echo [i, part]) h rfl rfl rfl (by rintro _ ⟨⟩; rfl) rfl

theorem exec_queryRequests {s : State} {echo sel start : Byte} (h : s.takesAtOnce) :
    exec (.queryRequests echo [sel, start]) s = .next (s.heard.answered 0x14 echo (s.ownQueryRequests [sel, start])) :=
  exec_unchanged (i := .queryRequests echo [sel, start]) h rfl rfl rfl (by rintro _ ⟨⟩; rfl) rfl

theorem exec_queryPlan {s : State} {echo g : Byte} {r : Result} (h : s.takesAtOnce) (ho : s.heard.ownQueryPlan [g] = (r, s.heard)) :
    exec (.queryPlan echo [g]) s = .next (s.heard.answered 0x04 echo r) :=
  exec_unchanged (i := .queryPlan echo [g]) h rfl rfl rfl (by rintro _ ⟨⟩; rfl) ho

end Sys2Proof.Machine

open Sys2Proof Sys2Proof.Machine

/-- Settles O56: each query's owner leaves the state alone, and its content is spelt out part by part. -/
theorem queriesChangeNothing : Obligations.QueriesChangeNothing := by
  refine ⟨fun s echo ignored h => ?corridor, fun s echo i part h => ⟨fun hi => ?badStation, fun k hk hi => ⟨fun hp => ?badPart,
    fun hlow hhigh => ?station⟩⟩, fun s echo sel start h => ⟨fun hne hs => ?badSelector, fun hs => ⟨fun hstart => ?badStart,
    fun hstart => ?requests⟩⟩, fun s echo g h => ⟨fun hg => ?badPlan, fun hlow hhigh hg => ?noPlan, fun x hlow hhigh hg => ?plan⟩⟩
  case corridor =>
    dsimp only
    rw [exec_queryCorridor h, State.corridorBytes_eq, State.operatingBytes_eq, State.timeBytes_eq, State.geometryBytes_eq]
    rfl
  case badStation => rw [exec_queryStation h, State.ownQueryStation_badField1 _ hi]
  case badPart => rw [exec_queryStation h, State.ownQueryStation_eq s hk hi, if_pos (outside_eq_true.2 hp)]
  case station =>
    have hin : ¬outside 1 3 part.toNat = true := Bool.not_eq_true _ ▸ outside_eq_false.2 ⟨hlow, hhigh⟩
    dsimp only
    rw [exec_queryStation h, State.ownQueryStation_eq s hk hi, if_neg hin, State.partBytes_eq s k hlow hhigh, State.partTwo_eq,
      State.partOne, State.holdFields_eq, Station.geometryBytes_eq]
    rfl
  case badSelector => rw [exec_queryRequests h, State.ownQueryRequests_badField1 _ hne hs]
  case badStart => rw [exec_queryRequests h, State.ownQueryRequests_eq s hs, if_pos hstart]
  case requests =>
    dsimp only
    rw [exec_queryRequests h, State.ownQueryRequests_eq s hs, if_neg (by omega), funext Entry.bytes_eq]
    rfl
  case badPlan => exact exec_queryPlan h (State.ownQueryPlan_badField _ hg)
  case noPlan => exact exec_queryPlan h (State.ownQueryPlan_noEntry _ hlow hhigh hg)
  case plan => exact exec_queryPlan h (State.ownQueryPlan_ok _ hlow hhigh hg)
end

section
/-! SUPPORT. The checks of LOAD_STATION in their order (R7, Tables 1-3 and 1-4). -/

-- One proof at a time: elaborated in parallel, each proof that waits for an earlier one holds a thread and its stack.
set_option Elab.async false

namespace Sys2Proof.Machine

/-! ## The first failing check -/

/-- In a list sorted by a key, the item found is the one of the lowest key. -/
theorem find?_of_lowest {α : Type} {key : α → Nat} {q : α → Bool} {a : α} {l : List α} (hsorted : l.Pairwise (key · < key ·)) (ha : a ∈ l)
    (hq : q a = true) (hlow : ∀ b ∈ l, key b < key a → q b = false) : l.find? q = some a := by
  induction l with
  | nil => cases ha
  | cons b l ih =>
    obtain ⟨hb, hsorted⟩ := List.pairwise_cons.1 hsorted
    obtain rfl | hmem := List.mem_cons.1 ha
    · exact List.find?_cons_of_pos hq
    · rw [List.find?_cons_of_neg (by simp [hlow b List.mem_cons_self (hb a hmem)])]
      exact ih hsorted hmem fun c hc => hlow c (List.mem_cons_of_mem b hc)

theorem firstFailure_append (l l' : List (Bool × Result)) : firstFailure (l ++ l') = (firstFailure l).or (firstFailure l') := by
  induction l with
  | nil => rfl
  | cons x l ih =>
    obtain ⟨b, r⟩ := x
    cases b
    · exact ih
    · rfl

theorem firstFailure_fields (l : List (Nat × Bool)) :
    firstFailure (l.map fun x => fieldCheck x.1 x.2) = (l.find? (·.2)).map fun x => .badField x.1 := by
  induction l with
  | nil => rfl
  | cons x l ih =>
    obtain ⟨f, b⟩ := x
    cases b
    · exact ih
    · rfl

section
variable {s : State} {l l' : List (Bool × Result)} {r : Result} {serve : Result × State}

theorem State.checked_append_of_fails (h : firstFailure l = some r) : s.checked (l ++ l') serve = (r, s) := by
  rw [State.checked, firstFailure_append, h]
  rfl

theorem State.checked_append_of_passes (h : firstFailure l = none) : s.checked (l ++ l') serve = s.checked l' serve := by
  rw [State.checked, firstFailure_append, h]
  rfl

end

/-! ## The fields of step 7 (Table 1-3) -/

/-- The fields of a LOAD_STATION payload of the right length, in ascending number, with whether each is out of range. -/
def loadedFields (p : List Byte) (n : Nat) (link : Bool) : List (Nat × Bool) :=
  [(2, outside 1 31 (rd8 p 1))] ++ (List.range n).map (fun i => (4 + i, outside 50 600 (rd16 p (3 + 2 * i))))
    ++ [(10, outside 15 40 (rd8 p (3 + 2 * n))), (11, outside 15 40 (rd8 p (4 + 2 * n))), (12, decide (1 < rd8 p (5 + 2 * n))),
      (13, decide (1 < rd8 p (6 + 2 * n)))]
    ++ (if link then [(14, outside 20 3000 (rd16 p (7 + 2 * n))), (15, outside 15 90 (rd8 p (9 + 2 * n))),
      (16, outside 15 90 (rd8 p (10 + 2 * n)))] else [])

theorem loadedFieldChecks_eq (p : List Byte) (n : Nat) (link : Bool) :
    loadedFieldChecks p n link = (loadedFields p n link).map fun x => fieldCheck x.1 x.2 := by
  unfold loadedFieldChecks loadedFields
  simp only [List.map_append, List.map_map]
  cases link <;> rfl

theorem loadedFields_sorted (p : List Byte) {n : Nat} (link : Bool) (hn : n ≤ 6) :
    (loadedFields p n link).Pairwise (·.1 < ·.1) := by
  have hrange : ((List.range n).map fun i => ((4 + i, outside 50 600 (rd16 p (3 + 2 * i))) : Nat × Bool)).Pairwise (·.1 < ·.1) :=
    List.pairwise_map.2 (List.pairwise_lt_range.imp fun h => by dsimp only; omega)
  unfold loadedFields
  refine List.pairwise_append.2 ⟨List.pairwise_append.2 ⟨List.pairwise_append.2 ⟨List.pairwise_singleton _ _, hrange, ?_⟩, by simp, ?_⟩, ?_, ?_⟩
  · simp only [List.mem_singleton, List.mem_map, forall_eq]
    rintro _ ⟨i, -, rfl⟩
    dsimp only; omega
  · simp only [List.mem_append, List.mem_map, List.mem_range, List.mem_cons, List.not_mem_nil, or_false]
    rintro _ (rfl | ⟨i, hi, rfl⟩) _ (rfl | rfl | rfl | rfl) <;> dsimp only <;> omega
  · cases link <;> simp
  · cases link with
    | false => simp
    | true =>
      simp only [List.mem_append, List.mem_map, List.mem_range, List.mem_cons, List.not_mem_nil, or_false, if_true]
      rintro _ ((rfl | ⟨i, hi, rfl⟩) | rfl | rfl | rfl | rfl) _ (rfl | rfl | rfl) <;> dsimp only <;> omega

/-- Field `f` of a payload is out of its range of Table 1-3. -/
def WrongField (p : List Byte) (n : Nat) (link : Prop) (f : Nat) : Prop :=
  (f = 2 ∧ outside 1 31 (rd8 p 1) = true)
    ∨ (∃ i : Fin 6, i.val < n ∧ f = 4 + i.val ∧ outside 50 600 (rd16 p (3 + 2 * i.val)) = true)
    ∨ (f = 10 ∧ outside 15 40 (rd8 p (3 + 2 * n)) = true) ∨ (f = 11 ∧ outside 15 40 (rd8 p (4 + 2 * n)) = true)
    ∨ (f = 12 ∧ 1 < rd8 p (5 + 2 * n)) ∨ (f = 13 ∧ 1 < rd8 p (6 + 2 * n))
    ∨ (link ∧ ((f = 14 ∧ outside 20 3000 (rd16 p (7 + 2 * n)) = true)
      ∨ (f = 15 ∧ outside 15 90 (rd8 p (9 + 2 * n)) = true) ∨ (f = 16 ∧ outside 15 90 (rd8 p (10 + 2 * n)) = true)))

theorem mem_minimumFields {p : List Byte} {n f : Nat} (hn : n ≤ 6) :
    (f, true) ∈ (List.range n).map (fun i => ((4 + i, outside 50 600 (rd16 p (3 + 2 * i))) : Nat × Bool))
      ↔ ∃ i : Fin 6, i.val < n ∧ f = 4 + i.val ∧ outside 50 600 (rd16 p (3 + 2 * i.val)) = true := by
  simp only [List.mem_map, List.mem_range, Prod.mk.injEq]
  constructor
  · rintro ⟨i, hi, rfl, h⟩; exact ⟨⟨i, by omega⟩, hi, rfl, h⟩
  · rintro ⟨i, hi, rfl, h⟩; exact ⟨i.val, hi, rfl, h⟩

theorem mem_loadedFields {p : List Byte} {n f : Nat} {link : Prop} [Decidable link] (hn : n ≤ 6) :
    (f, true) ∈ loadedFields p n link ↔ WrongField p n link f := by
  unfold loadedFields WrongField
  rw [List.mem_append, List.mem_append, List.mem_append, mem_minimumFields hn]
  by_cases h : link <;>
    simp [h, or_assoc, eq_comm (a := true)]

theorem firstFailure_wrongField {p : List Byte} {n f : Nat} {link : Prop} [Decidable link] (hn : n ≤ 6) (hf : WrongField p n link f)
    (hlow : ∀ g, g < f → ¬WrongField p n link g) : firstFailure (loadedFieldChecks p n link) = some (.badField f) := by
  rw [loadedFieldChecks_eq, firstFailure_fields, find?_of_lowest (a := (f, true)) (loadedFields_sorted p link hn)
    ((mem_loadedFields hn).2 hf) rfl fun b hb hlt => ?_]
  · rfl
  · obtain ⟨g, w⟩ := b
    cases w with
    | false => rfl
    | true => exact absurd ((mem_loadedFields hn).1 hb) (hlow g hlt)

theorem firstFailure_noWrongField {p : List Byte} {n : Nat} {link : Prop} [Decidable link] (hn : n ≤ 6)
    (h : ∀ f, ¬WrongField p n link f) : firstFailure (loadedFieldChecks p n link) = none := by
  rw [loadedFieldChecks_eq, firstFailure_fields, Option.map_eq_none_iff, List.find?_eq_none]
  rintro ⟨f, w⟩ hf hw
  obtain rfl : w = true := hw
  exact h f ((mem_loadedFields hn).1 hf)

/-! ## Steps 1 to 6 (Table 1-4) -/

section
variable {s : State} {p : List Byte} {N : Nat} {k : StationIx}

theorem State.ownLoadStation_short (hlen : p.length < 3) : s.ownLoadStation p = (.badLength, s) := if_pos hlen

theorem State.ownLoadStation_busy (hlen : 3 ≤ p.length) (hb : s.busy = true) : s.ownLoadStation p = (.busy, s) :=
  (if_neg (Nat.not_lt.2 hlen)).trans (if_pos hb)

theorem State.ownLoadStation_undefined (hlen : 3 ≤ p.length) (hb : s.busy = false) (hcount : s.count = none) :
    s.ownLoadStation p = (.badState, s) := by
  rw [State.ownLoadStation, if_neg (Nat.not_lt.2 hlen), hb, hcount]
  rfl

theorem State.ownLoadStation_noStation (hlen : 3 ≤ p.length) (hb : s.busy = false) (hcount : s.count = some N) (hN : N ≤ rd8 p 0) :
    s.ownLoadStation p = (.badField 1, s) := by
  have hnone : s.stationOf (rd8 p 0) = none := by
    simp only [State.stationOf, hcount, Option.any_some, decide_eq_true_eq, Nat.not_lt.2 hN, if_false, dite_eq_ite, ite_self]
  rw [State.ownLoadStation, if_neg (Nat.not_lt.2 hlen), hb, hcount, hnone]
  rfl

theorem State.ownLoadStation_at (hlen : 3 ≤ p.length) (hb : s.busy = false) (hcount : s.count = some N) (hk : k.val = rd8 p 0)
    (hkN : k.val < N) : s.ownLoadStation p = s.loadStationAt p k (k.val + 1 < N) := by
  have hsome : s.stationOf (rd8 p 0) = some k := State.stationOf_eq_some.2 ⟨hk, by rw [hcount]; simpa [← hk] using hkN⟩
  rw [State.ownLoadStation, if_neg (Nat.not_lt.2 hlen), hb, hcount, hsome]
  rfl

variable {link : Prop} [Decidable link] {n : Nat}

theorem State.loadStationAt_badCount (hn : outside 2 6 (rd8 p 2) = true) : s.loadStationAt p k link = (.badField 3, s) := by
  rw [State.loadStationAt, fieldCheck, hn]
  rfl

theorem State.loadStationAt_badLength (hn : outside 2 6 (rd8 p 2) = false)
    (hlen : p.length ≠ 7 + 2 * rd8 p 2 + (if link then 4 else 0)) : s.loadStationAt p k link = (.badLength, s) := by
  have hfails : decide (p.length ≠ 7 + 2 * rd8 p 2 + (if decide link = true then 4 else 0)) = true := by simpa using hlen
  rw [State.loadStationAt, fieldCheck, hn, hfails]
  rfl

/-- What the checks of steps 7 to 10 lead to, once n and the length are right. -/
def State.loadChecked (s : State) (p : List Byte) (k : StationIx) (n : Nat) (link : Bool) (checks : List (Bool × Result)) : Result × State :=
  s.checked checks (.ok (((loadedConfig p n link).link.map (·.bytes)).getD []), s.loadStation k (loadedConfig p n link))

theorem State.loadStationAt_eq (hn : outside 2 6 (rd8 p 2) = false) (hlen : p.length = 7 + 2 * rd8 p 2 + (if link then 4 else 0)) :
    s.loadStationAt p k link = s.loadChecked p k (rd8 p 2) link (s.loadChecks p k (rd8 p 2) link) := by
  have hpasses : decide (p.length ≠ 7 + 2 * rd8 p 2 + (if decide link = true then 4 else 0)) = false := by simpa using hlen
  rw [State.loadStationAt, fieldCheck, hn, hpasses]
  rfl

/-! ## Steps 7 to 10 -/

theorem State.loadChecked_wrongField {f : Nat} (hn : n ≤ 6) (hf : WrongField p n link f) (hlow : ∀ g, g < f → ¬WrongField p n link g) :
    s.loadChecked p k n link (s.loadChecks p k n link) = (.badField f, s) :=
  State.checked_append_of_fails (firstFailure_wrongField hn hf hlow)

/-- The checks of steps 8 to 10. -/
def State.standingChecks (s : State) (p : List Byte) (k : StationIx) (n : Nat) : List (Bool × Result) :=
  [(s.ps.corridor ≠ .idle && (s.st k).config.any (fun c => c.drop ≠ rd8 p 1 || c.phases ≠ n), .badState),
    match s.dropHolder k (rd8 p 1) with
    | some j => (true, .conflict j.val)
    | none => (false, .badState),
    match s.spoiledPlan k (loadedMinimums p n) with
    | some g => (s.ps.corridor ≠ .idle, .conflict g)
    | none => (false, .badState)]

theorem State.loadChecked_fields (hn : n ≤ 6) (h : ∀ f, ¬WrongField p n link f) :
    s.loadChecked p k n link (s.loadChecks p k n link) = s.loadChecked p k n link (s.standingChecks p k n) :=
  State.checked_append_of_passes (firstFailure_noWrongField hn h)

theorem State.loadChecked_moving (hc : s.ps.corridor ≠ .idle) (h : ∃ c ∈ (s.st k).config, c.drop ≠ rd8 p 1 ∨ c.minimums.length ≠ n) :
    s.loadChecked p k n link (s.standingChecks p k n) = (.badState, s) := by
  have hfails : (decide (s.ps.corridor ≠ .idle) && (s.st k).config.any (fun c => c.drop ≠ rd8 p 1 || c.phases ≠ n)) = true := by
    obtain ⟨c, hconfig, hdiffers⟩ := h
    rw [decide_eq_true hc, Option.mem_def.1 hconfig]
    rw [Bool.true_and, Option.any_some, Bool.or_eq_true, decide_eq_true_eq, decide_eq_true_eq]
    exact hdiffers
  rw [State.standingChecks, hfails]
  rfl

/-- In IDLE, or with the address and n of a loaded station repeated, step 8 passes. -/
def State.Repeats (s : State) (p : List Byte) (k : StationIx) (n : Nat) : Prop :=
  s.ps.corridor = .idle ∨ ∀ c ∈ (s.st k).config, c.drop = rd8 p 1 ∧ c.minimums.length = n

theorem State.loadChecked_repeats (h : s.Repeats p k n) : s.loadChecked p k n link (s.standingChecks p k n)
    = s.loadChecked p k n link (s.standingChecks p k n).tail := by
  have hpasses : (decide (s.ps.corridor ≠ .idle) && (s.st k).config.any (fun c => c.drop ≠ rd8 p 1 || c.phases ≠ n)) = false := by
    obtain hidle | hsame := h
    · rw [decide_eq_false (not_not.2 hidle), Bool.false_and]
    · cases hconfig : (s.st k).config with
      | none => simp
      | some c =>
        obtain ⟨hdrop, hphases⟩ := hsame c hconfig
        simp [hdrop, StationConfig.phases, hphases]
  rw [State.standingChecks, hpasses]
  rfl

/-- Station `j` is another loaded one, with a drop address. -/
def State.holdsDrop (s : State) (k : StationIx) (drop : Nat) (j : StationIx) : Bool := j ≠ k && (s.st j).config.any (·.drop = drop)

theorem State.dropHolder_of_lowest {drop : Nat} {j : StationIx} (hj : s.holdsDrop k drop j = true)
    (hlow : ∀ i, i < j → s.holdsDrop k drop i = false) : s.dropHolder k drop = some j :=
  find?_of_lowest (key := Fin.val) (by decide) (mem_allStations j) hj fun i _ hlt => hlow i hlt

theorem State.dropHolder_eq_none {drop : Nat} (h : ∀ j, s.holdsDrop k drop j = false) : s.dropHolder k drop = none :=
  List.find?_eq_none.2 fun j _ => Bool.not_eq_true _ ▸ h j

theorem State.loadChecked_held {j : StationIx} (h : s.Repeats p k n) (hj : s.dropHolder k (rd8 p 1) = some j) :
    s.loadChecked p k n link (s.standingChecks p k n) = (.conflict j.val, s) := by
  rw [State.loadChecked_repeats h, State.standingChecks, hj]
  rfl

/-- With the requested minimums at station `k`, the record in a slot would not be valid. -/
def State.Spoils (s : State) (k : StationIx) (mins : List Nat) (g : Nat) : Prop :=
  ∃ x ∈ s.slot g, (s.modSt k fun t => { t with config := t.config.map fun c => { c with minimums := mins } }).judge x.plan ≠ .valid

theorem State.spoiledPlan_eq_find? (mins : List Nat) [DecidablePred (s.Spoils k mins)] :
    s.spoiledPlan k mins = (s.ps.active.toList ++ s.ps.staged.toList).find? fun g => s.Spoils k mins g := by
  unfold State.spoiledPlan
  dsimp only
  congr 1
  funext g
  rw [Bool.eq_iff_iff, Option.any_eq_true, decide_eq_true_eq, State.Spoils]
  simp only [decide_eq_true_eq]
  exact exists_congr fun x => Iff.rfl

theorem State.spoiledPlan_active {mins : List Nat} {g : Nat} (hg : g ∈ s.ps.active) (h : s.Spoils k mins g) :
    s.spoiledPlan k mins = some g := by
  classical
  rw [State.spoiledPlan_eq_find?, Option.mem_def.1 hg]
  exact List.find?_cons_of_pos (decide_eq_true h)

theorem State.spoiledPlan_staged {mins : List Nat} {g : Nat} (hg : g ∈ s.ps.staged) (h : s.Spoils k mins g)
    (hactive : ∀ a ∈ s.ps.active, ¬s.Spoils k mins a) : s.spoiledPlan k mins = some g := by
  classical
  rw [State.spoiledPlan_eq_find?, Option.mem_def.1 hg, List.find?_append, List.find?_eq_none.2 fun a ha => ?_]
  · simpa using h
  · simpa using hactive a (Option.mem_toList.1 ha)

theorem State.loadChecked_spoiled {g : Nat} (h : s.Repeats p k n) (hfree : ∀ j, s.holdsDrop k (rd8 p 1) j = false)
    (hc : s.ps.corridor ≠ .idle) (hg : s.spoiledPlan k (loadedMinimums p n) = some g) :
    s.loadChecked p k n link (s.standingChecks p k n) = (.conflict g, s) := by
  rw [State.loadChecked_repeats h, State.standingChecks, State.dropHolder_eq_none hfree, hg, decide_eq_true hc]
  rfl

/-! ## The row -/

theorem exec_loadStation_refused {echo : Byte} {r : Result} (h : s.takesAtOnce) (hlow : 1 ≤ p.length) (hhigh : p.length ≤ 250)
    (ho : s.heard.ownLoadStation p = (r, s.heard)) : exec (.loadStation echo p) s = .next (s.heard.answered 0x02 echo r) := by
  have hw : Instr.wellFormed (.loadStation echo p) = true := by simp [Instr.wellFormed, payloadFits, hlow, hhigh]
  exact exec_unchanged (i := .loadStation echo p) h rfl hw rfl (by rintro _ ⟨⟩) ho

end

end Sys2Proof.Machine

open Sys2Proof Sys2Proof.Machine

/-- Settles O42: each check is reached once the ones before it pass, and none of them is reached by a change. -/
theorem loadStationRefusalsRunInOrder : Obligations.LoadStationRefusalsRunInOrder := by
  intro s echo p h hlow hhigh refused drop n mins outside
  have refuse {r : Result} (ho : s.heard.ownLoadStation p = (r, s.heard)) : refused r := exec_loadStation_refused h hlow hhigh ho
  refine ⟨fun hlen => refuse (State.ownLoadStation_short hlen), fun hlen hb => refuse (State.ownLoadStation_busy hlen ?busy),
    fun hlen hb => ?_⟩
  case busy => exact Option.isSome_iff_ne_none.2 hb
  have hfree : s.heard.busy = false := congrArg Option.isSome hb
  refine ⟨fun hcount => refuse (State.ownLoadStation_undefined hlen hfree hcount), fun N hcount hN16 =>
    ⟨fun hN => refuse (State.ownLoadStation_noStation hlen hfree hcount hN), fun k hk hkN => ?_⟩⟩
  intro wrong held u spoiled
  have hat : s.heard.ownLoadStation p = s.heard.loadStationAt p k (k.val + 1 < N) := State.ownLoadStation_at hlen hfree hcount hk hkN
  refine ⟨fun hn => refuse (hat.trans (State.loadStationAt_badCount hn)), fun hn =>
    ⟨fun hl => refuse (hat.trans (State.loadStationAt_badLength hn hl)), fun hl => ?_⟩⟩
  have hn6 : n ≤ 6 := (outside_eq_false.1 hn).2
  have hchecks := hat.trans (State.loadStationAt_eq (s := s.heard) (k := k) hn hl)
  refine ⟨fun f hf hfirst => refuse (hchecks.trans (State.loadChecked_wrongField hn6 hf hfirst)), fun hfields => ?_⟩
  have hstanding := hchecks.trans (State.loadChecked_fields hn6 hfields)
  refine ⟨fun hc hdiffers => refuse (hstanding.trans (State.loadChecked_moving hc hdiffers)), fun hrepeats => ⟨fun j hj hfirst => ?_,
    fun hnone hc => ⟨fun g hg hspoiled => ?_, fun g hg hspoiled hactive => ?_⟩⟩⟩
  · exact refuse (hstanding.trans (State.loadChecked_held hrepeats (State.dropHolder_of_lowest hj hfirst)))
  · exact refuse (hstanding.trans (State.loadChecked_spoiled hrepeats hnone hc (State.spoiledPlan_active hg hspoiled)))
  · exact refuse (hstanding.trans (State.loadChecked_spoiled hrepeats hnone hc (State.spoiledPlan_staged hg hspoiled hactive)))
end

section
/-! SUPPORT. A LOAD_STATION payload as the tables lay it out is read back as the configuration part it carries, and passes every check
(R7, Tables 1-3, 1-4 and 10-3). -/

-- One proof at a time: elaborated in parallel, each proof that waits for an earlier one holds a thread and its stack.
set_option Elab.async false

namespace Sys2Proof.Machine

/-! ## Reading bytes back -/

theorem rd8_append_right (l l' : List Byte) (i : Nat) : rd8 (l ++ l') (l.length + i) = rd8 l' i := by
  rw [rd8, List.getD_append_right _ _ _ _ (Nat.le_add_right _ _), Nat.add_sub_cancel_left]
  rfl

theorem rd16_append_right (l l' : List Byte) (i : Nat) : rd16 (l ++ l') (l.length + i) = rd16 l' i := by
  rw [rd16, Nat.add_assoc, rd8_append_right, rd8_append_right]
  rfl

theorem rd8_be8 {n : Nat} (hn : n < 256) (l : List Byte) : rd8 (be8 n ++ l) 0 = n :=
  (BitVec.toNat_ofNat n 8).trans (Nat.mod_eq_of_lt hn)

theorem rd16_be16 {n : Nat} (hn : n < 65536) (l : List Byte) : rd16 (be16 n ++ l) 0 = n := by
  have hhigh : rd8 (be16 n ++ l) 0 = n / 256 := (BitVec.toNat_ofNat _ 8).trans (Nat.mod_eq_of_lt (by omega))
  have hlow : rd8 (be16 n ++ l) 1 = n % 256 := BitVec.toNat_ofNat _ 8
  rw [rd16, hhigh, hlow]
  omega

theorem length_flatMap_be16 (l : List Nat) : (l.flatMap be16).length = 2 * l.length := by
  induction l with
  | nil => rfl
  | cons x l ih => rw [List.flatMap_cons, List.length_append, ih, List.length_cons]; simp [be16]; omega

theorem rd16_flatMap_be16 {l : List Nat} (h : ∀ x ∈ l, x < 65536) (q : List Byte) {i : Nat} (hi : i < l.length) :
    rd16 (l.flatMap be16 ++ q) (2 * i) = l[i] := by
  induction l generalizing i with
  | nil => cases hi
  | cons x l ih =>
    rw [List.flatMap_cons, List.append_assoc]
    cases i with
    | zero => exact rd16_be16 (h x List.mem_cons_self) _
    | succ i =>
      rw [show 2 * (i + 1) = (be16 x).length + 2 * i by simp [be16]; omega, rd16_append_right]
      exact ih (fun y hy => h y (List.mem_cons_of_mem x hy)) (Nat.lt_of_succ_lt_succ hi)

theorem rd8_flagByte (b : Bool) (l : List Byte) : rd8 (flagByte b ++ l) 0 = b.toNat := rd8_be8 (by cases b <;> decide) l

/-! ## The fields of a configuration part's payload (Table 10-3) -/

section
variable {c : StationConfig} {k : StationIx}

/-- The bytes of a link's three fields, none without a link. -/
def linkBytes : Option LinkFields → List Byte
  | some l => be16 l.distance ++ be8 l.vIn ++ be8 l.vOut
  | none => []

/-- The bytes after the minimums. -/
def StationConfig.tailBytes (c : StationConfig) : List Byte :=
  be8 c.headwayIn ++ (be8 c.headwayOut ++ (flagByte c.honourManual ++ (flagByte c.incidentGate ++ linkBytes c.link)))

theorem StationConfig.payload_eq (c : StationConfig) (k : StationIx) : c.payload k
    = (be8 k.val ++ be8 c.drop ++ be8 c.minimums.length) ++ (c.minimums.flatMap be16 ++ c.tailBytes) := by
  unfold StationConfig.payload StationConfig.tailBytes
  cases c.link <;> simp only [linkBytes, List.append_assoc]

theorem StationConfig.payload_length : (c.payload k).length = 7 + 2 * c.minimums.length + (if c.link.isSome then 4 else 0) := by
  rw [StationConfig.payload_eq, List.length_append, List.length_append (as := c.minimums.flatMap be16), length_flatMap_be16,
    StationConfig.tailBytes]
  cases c.link <;> simp [be8, be16, flagByte, linkBytes] <;> omega

theorem StationConfig.payload_station : rd8 (c.payload k) 0 = k.val := by
  rw [StationConfig.payload_eq, List.append_assoc, List.append_assoc]
  exact rd8_be8 (by omega) _

theorem StationConfig.payload_drop (hc : c.fits) : rd8 (c.payload k) 1 = c.drop := by
  obtain ⟨-, hdrop, -⟩ := hc
  rw [StationConfig.payload_eq, List.append_assoc, List.append_assoc]
  exact (rd8_append_right (be8 k.val) _ 0).trans (rd8_be8 (by omega) _)

theorem StationConfig.payload_phases (hc : c.fits) : rd8 (c.payload k) 2 = c.minimums.length := by
  obtain ⟨-, -, -, hn, -⟩ := hc
  rw [StationConfig.payload_eq, List.append_assoc]
  exact (rd8_append_right (be8 k.val ++ be8 c.drop) _ 0).trans (rd8_be8 (by omega) _)

theorem StationConfig.payload_minimum (hc : c.fits) {i : Nat} (hi : i < c.minimums.length) :
    rd16 (c.payload k) (3 + 2 * i) = c.minimums[i] := by
  obtain ⟨-, -, -, -, hmins, -⟩ := hc
  rw [StationConfig.payload_eq]
  exact (rd16_append_right (be8 k.val ++ be8 c.drop ++ be8 c.minimums.length) _ (2 * i)).trans
    (rd16_flatMap_be16 (fun x hx => by have := (hmins x hx).2; omega) _ hi)

theorem StationConfig.payload_minimums (hc : c.fits) : loadedMinimums (c.payload k) c.minimums.length = c.minimums :=
  List.ext_getElem (by simp [loadedMinimums]) fun i h1 h2 => by
    simp only [loadedMinimums, List.getElem_map, List.getElem_range]
    exact StationConfig.payload_minimum hc h2

/-- A byte after the minimums. -/
theorem StationConfig.payload_tail (i : Nat) : rd8 (c.payload k) (3 + 2 * c.minimums.length + i) = rd8 c.tailBytes i := by
  rw [StationConfig.payload_eq, Nat.add_assoc]
  refine (rd8_append_right (be8 k.val ++ be8 c.drop ++ be8 c.minimums.length) _ _).trans ?_
  rw [← length_flatMap_be16]
  exact rd8_append_right _ _ i

theorem StationConfig.payload_headwayIn (hc : c.fits) : rd8 (c.payload k) (3 + 2 * c.minimums.length) = c.headwayIn := by
  obtain ⟨-, -, -, -, -, -, hh, -⟩ := hc
  exact (StationConfig.payload_tail 0).trans (rd8_be8 (by omega) _)

theorem StationConfig.payload_headwayOut (hc : c.fits) : rd8 (c.payload k) (4 + 2 * c.minimums.length) = c.headwayOut := by
  obtain ⟨-, -, -, -, -, -, -, -, hh, -⟩ := hc
  rw [show 4 + 2 * c.minimums.length = 3 + 2 * c.minimums.length + 1 by omega]
  exact (StationConfig.payload_tail 1).trans ((rd8_append_right (be8 c.headwayIn) _ 0).trans (rd8_be8 (by omega) _))

theorem StationConfig.payload_honourManual : rd8 (c.payload k) (5 + 2 * c.minimums.length) = c.honourManual.toNat := by
  rw [show 5 + 2 * c.minimums.length = 3 + 2 * c.minimums.length + 2 by omega]
  exact (StationConfig.payload_tail 2).trans ((rd8_append_right (be8 c.headwayIn ++ be8 c.headwayOut) _ 0).trans (rd8_flagByte _ _))

theorem StationConfig.payload_incidentGate : rd8 (c.payload k) (6 + 2 * c.minimums.length) = c.incidentGate.toNat := by
  rw [show 6 + 2 * c.minimums.length = 3 + 2 * c.minimums.length + 3 by omega]
  exact (StationConfig.payload_tail 3).trans
    ((rd8_append_right (be8 c.headwayIn ++ be8 c.headwayOut ++ flagByte c.honourManual) _ 0).trans (rd8_flagByte _ _))

/-- The three fields of a link. -/
theorem StationConfig.payload_link (hc : c.fits) {l : LinkFields} (hl : c.link = some l) :
    rd16 (c.payload k) (7 + 2 * c.minimums.length) = l.distance ∧ rd8 (c.payload k) (9 + 2 * c.minimums.length) = l.vIn
      ∧ rd8 (c.payload k) (10 + 2 * c.minimums.length) = l.vOut := by
  obtain ⟨-, -, -, -, -, -, -, -, -, hlink⟩ := hc
  obtain ⟨-, hdistance, -, hin, -, hout⟩ := hlink l hl
  have htail (i : Nat) : rd8 (c.payload k) (7 + i + 2 * c.minimums.length) = rd8 (be16 l.distance ++ be8 l.vIn ++ be8 l.vOut) i := by
    rw [show 7 + i + 2 * c.minimums.length = 3 + 2 * c.minimums.length + (4 + i) by omega, StationConfig.payload_tail,
      StationConfig.tailBytes, hl]
    simp [rd8, be8, flagByte, linkBytes, Nat.add_comm 4 i]
  have hvIn := (htail 2).trans ((rd8_append_right (be16 l.distance) (be8 l.vIn ++ be8 l.vOut) 0).trans (rd8_be8 (by omega) _))
  have hvOut := (htail 3).trans ((rd8_append_right (be16 l.distance ++ be8 l.vIn) (be8 l.vOut ++ []) 0).trans (rd8_be8 (by omega) _))
  refine ⟨?_, hvIn, hvOut⟩
  have h0 := htail 0
  have h1 := htail 1
  rw [rd16, Nat.add_right_comm 7, h0, h1]
  exact rd16_be16 (by omega) (be8 l.vIn ++ be8 l.vOut)

/-- The payload is read back as the configuration part that it carries. -/
theorem loadedConfig_payload (hc : c.fits) : loadedConfig (c.payload k) c.minimums.length c.link.isSome = c := by
  have hflag (b : Bool) : decide (b.toNat = 1) = b := by cases b <;> rfl
  have hlink : (if c.link.isSome then some (LinkFields.mk (rd16 (c.payload k) (7 + 2 * c.minimums.length))
      (rd8 (c.payload k) (9 + 2 * c.minimums.length)) (rd8 (c.payload k) (10 + 2 * c.minimums.length))) else none) = c.link := by
    cases hl : c.link with
    | none => rfl
    | some l =>
      obtain ⟨hdistance, hin, hout⟩ := StationConfig.payload_link (k := k) hc hl
      rw [hdistance, hin, hout]
      rfl
  rw [loadedConfig, StationConfig.payload_drop hc, StationConfig.payload_minimums hc, StationConfig.payload_headwayIn hc,
    StationConfig.payload_headwayOut hc, StationConfig.payload_honourManual, StationConfig.payload_incidentGate, hflag, hflag, hlink]

/-! ## The checks pass (Table 1-4) -/

theorem noWrongField_payload {link : Prop} (hc : c.fits) (hlinked : link → c.link.isSome = true) (f : Nat) :
    ¬WrongField (c.payload k) c.minimums.length link f := by
  have hin {low high x : Nat} (hl : low ≤ x) (hh : x ≤ high) : ¬outside low high x = true := by
    rw [outside_eq_false.2 ⟨hl, hh⟩]; exact Bool.false_ne_true
  have hflag (b : Bool) : ¬1 < b.toNat := by cases b <;> decide
  have hc' := hc
  obtain ⟨hd1, hd2, -, -, hmins, hi1, hi2, ho1, ho2, hlink⟩ := hc'
  unfold WrongField
  rw [StationConfig.payload_drop hc, StationConfig.payload_headwayIn hc, StationConfig.payload_headwayOut hc,
    StationConfig.payload_honourManual, StationConfig.payload_incidentGate]
  rintro (⟨-, h⟩ | ⟨i, hi, -, h⟩ | ⟨-, h⟩ | ⟨-, h⟩ | ⟨-, h⟩ | ⟨-, h⟩ | ⟨hsome, h⟩)
  · exact hin hd1 hd2 h
  · rw [StationConfig.payload_minimum hc hi] at h
    obtain ⟨h1, h2⟩ := hmins _ (List.getElem_mem hi)
    exact hin h1 h2 h
  · exact hin hi1 hi2 h
  · exact hin ho1 ho2 h
  · exact hflag _ h
  · exact hflag _ h
  · obtain ⟨l, hl⟩ := Option.isSome_iff_exists.1 (hlinked hsome)
    obtain ⟨hdistance, hvIn, hvOut⟩ := StationConfig.payload_link (k := k) hc hl
    obtain ⟨hx1, hx2, hx3, hx4, hx5, hx6⟩ := hlink l hl
    rw [hdistance, hvIn, hvOut] at h
    obtain ⟨-, h⟩ | ⟨-, h⟩ | ⟨-, h⟩ := h
    · exact hin hx1 hx2 h
    · exact hin hx3 hx4 h
    · exact hin hx5 hx6 h

theorem State.loadChecked_served {s : State} {p : List Byte} {n : Nat} {link : Prop} [Decidable link] (h : s.Repeats p k n)
    (hfree : ∀ j, s.holdsDrop k (rd8 p 1) j = false) (hspoils : s.ps.corridor = .idle ∨ s.spoiledPlan k (loadedMinimums p n) = none) :
    s.loadChecked p k n link (s.standingChecks p k n)
      = (.ok (((loadedConfig p n link).link.map (·.bytes)).getD []), s.loadStation k (loadedConfig p n link)) := by
  rw [State.loadChecked_repeats h, State.standingChecks, State.dropHolder_eq_none hfree]
  obtain hidle | hnone := hspoils
  · rw [decide_eq_false (not_not.2 hidle)]
    cases s.spoiledPlan k (loadedMinimums p n) <;> rfl
  · rw [hnone]
    rfl

/-- LOAD_STATION of a fitting configuration part is served (Table 1-4). -/
theorem State.ownLoadStation_payload {s : State} {N : Nat} (hb : s.busy = false) (hcount : s.count = some N) (hk : k.val < N)
    (hc : c.fits) (hlink : c.link.isSome = true ↔ k.val + 1 < N)
    (hfree : ∀ (j : StationIx) (c' : StationConfig), j ≠ k → (s.st j).config = some c' → c'.drop ≠ c.drop)
    (hrepeats : s.ps.corridor = .idle ∨ ∀ c0 ∈ (s.st k).config, c0.drop = c.drop ∧ c0.minimums.length = c.minimums.length)
    (hspoils : s.ps.corridor = .idle ∨ s.spoiledPlan k c.minimums = none) :
    s.ownLoadStation (c.payload k) = (.ok ((c.link.map (·.bytes)).getD []), s.loadStation k c) := by
  have hlen : (c.payload k).length = 7 + 2 * rd8 (c.payload k) 2 + (if k.val + 1 < N then 4 else 0) := by
    rw [StationConfig.payload_length, StationConfig.payload_phases hc, if_congr hlink rfl rfl]
  obtain ⟨-, -, hlow, hn6, -⟩ := id hc
  have hn : outside 2 6 (rd8 (c.payload k) 2) = false := by
    rw [StationConfig.payload_phases hc]; exact outside_eq_false.2 ⟨hlow, hn6⟩
  have hrepeats' : s.Repeats (c.payload k) k c.minimums.length := by
    unfold State.Repeats
    rwa [StationConfig.payload_drop hc]
  have hfree' (j : StationIx) : s.holdsDrop k (rd8 (c.payload k) 1) j = false := by
    rw [StationConfig.payload_drop hc, State.holdsDrop]
    by_cases hj : j = k
    · simp [hj]
    · cases hconfig : (s.st j).config with
      | none => simp
      | some c' => simp [hfree j c' hj hconfig]
  have hlinked : decide (k.val + 1 < N) = c.link.isSome := by rw [Bool.eq_iff_iff, decide_eq_true_eq, hlink]
  rw [State.ownLoadStation_at (by omega) hb hcount StationConfig.payload_station.symm hk, State.loadStationAt_eq hn hlen,
    StationConfig.payload_phases hc, State.loadChecked_fields hn6 (noWrongField_payload hc hlink.2),
    State.loadChecked_served hrepeats' hfree' (by rwa [StationConfig.payload_minimums hc]), hlinked, loadedConfig_payload hc]

end

end Sys2Proof.Machine
end

section
/-! SUPPORT. What withdrawals, grants, holds and departures leave alone: of a station everything but its coordination, its waiting order
and REVISE, its lockout and its hold (R47 to R58, R106, R110 to R131). -/

-- One proof at a time: elaborated in parallel, each proof that waits for an earlier one holds a thread and its stack.
set_option Elab.async false

namespace Sys2Proof.Machine

/-- A station's record with the fields blanked that a withdrawal, a grant, a hold or a departure can change. -/
def Station.core (t : Station) : Station :=
  { t with
    coord := .free, synced := false, lastError := none, correction := none, order := none, revise := none, lockout := 0
    jump := false, hold := false, routeActive := false }

/-- The state but for its stations, the Command Link Controller, the request table, the events and the host link. -/
def State.core (s : State) : State :=
  { s with stations := .replicate 16 .blank, clc := State.reset.clc, table := [], eq := State.reset.eq, hli := State.reset.hli }

/-- From `s` to `t` nothing but coordination, waiting orders, holds and requests has changed; no jump flag outside RUNNING; and, where
`kept` holds, no hold. -/
structure Aside (kept : Prop) (s t : State) : Prop where
  core : t.core = s.core
  station : ∀ j : StationIx, (t.st j).core = (s.st j).core
  jump : s.ps.corridor ≠ .running → ∀ j : StationIx, (t.st j).jump = (s.st j).jump
  hold : kept → ∀ j : StationIx, (t.st j).hold = (s.st j).hold ∧ (t.st j).routeActive = (s.st j).routeActive

namespace Aside

variable {kept : Prop} {s t u : State}

theorem refl (s : State) : Aside kept s s := ⟨rfl, fun _ => rfl, fun _ _ => rfl, fun _ _ => ⟨rfl, rfl⟩⟩

theorem ps (h : Aside kept s t) : t.ps = s.ps := show t.core.ps = s.core.ps from congrArg State.ps h.core
theorem hl (h : Aside kept s t) : t.hl = s.hl := show t.core.hl = s.core.hl from congrArg State.hl h.core

/-- A field that the blanked record keeps. -/
theorem field {α : Type} (f : Station → α) (hf : ∀ x, f (Station.core x) = f x) (h : Aside kept s t) (j : StationIx) :
    f (t.st j) = f (s.st j) := by
  rw [← hf (t.st j), h.station j, hf]

theorem trans (h : Aside kept s t) (h' : Aside kept t u) : Aside kept s u where
  core := h'.core.trans h.core
  station j := (h'.station j).trans (h.station j)
  jump hr j := (h'.jump (by rw [h.ps]; exact hr) j).trans (h.jump hr j)
  hold hk j := ⟨((h'.hold hk j).1).trans (h.hold hk j).1, ((h'.hold hk j).2).trans (h.hold hk j).2⟩

theorem of_stations (hcore : t.core = s.core) (hst : t.stations = s.stations) : Aside kept s t where
  core := hcore
  station j := by rw [State.st_congr hst]
  jump _ j := by rw [State.st_congr hst]
  hold _ j := by rw [State.st_congr hst]; exact ⟨rfl, rfl⟩

theorem modSt {k : StationIx} {f : Station → Station} (hcore : (f (s.st k)).core = (s.st k).core)
    (hjump : s.ps.corridor ≠ .running → (f (s.st k)).jump = (s.st k).jump)
    (hhold : kept → (f (s.st k)).hold = (s.st k).hold ∧ (f (s.st k)).routeActive = (s.st k).routeActive) : Aside kept s (s.modSt k f) where
  core := rfl
  station j := by
    rw [State.st_modSt]
    split
    · next h => subst h; exact hcore
    · rfl
  jump hr j := by
    rw [State.st_modSt]
    split
    · next h => subst h; exact hjump hr
    · rfl
  hold hk j := by
    rw [State.st_modSt]
    split
    · next h => subst h; exact hhold hk
    · exact ⟨rfl, rfl⟩

/-- A change of coordination, a waiting order or a REVISE, or the lockout. -/
theorem modSt_rest {k : StationIx} {f : Station → Station} (hcore : (f (s.st k)).core = (s.st k).core)
    (hjump : (f (s.st k)).jump = (s.st k).jump) (hhold : (f (s.st k)).hold = (s.st k).hold)
    (hroute : (f (s.st k)).routeActive = (s.st k).routeActive) : Aside kept s (s.modSt k f) :=
  .modSt hcore (fun _ => hjump) fun _ => ⟨hhold, hroute⟩

end Aside

/-! ## Events, requests and frames -/

section
variable {kept : Prop} (s : State)

theorem State.emit_aside (b : EventBody) : Aside kept s (s.emit b) := .of_stations (by rw [s.emit_eq]; rfl) (by simp)
theorem State.modEntry_aside (i : SlotIx) (f : Entry → Entry) : Aside kept s (s.modEntry i f) := .of_stations rfl rfl
theorem State.removeEntry_aside (i : SlotIx) : Aside kept s (s.removeEntry i) := .of_stations rfl rfl
theorem State.dropUrgent_aside (p : UrgentFrame → Bool) : Aside kept s (s.dropUrgent p) := .of_stations rfl rfl
theorem State.placeUrgent_aside (k : StationIx) (x : UrgentKind) : Aside kept s (s.placeUrgent k x) := .of_stations rfl rfl
theorem State.setLockout_aside (k : StationIx) (n : Nat) : Aside kept s (s.setLockout k n) := .modSt_rest rfl rfl rfl rfl

/-! ## Grants -/

theorem State.grantEntry_aside (e : Entry) (g : GrantKind) (b : Bool) : Aside kept s (s.grantEntry e g b) :=
  (s.modEntry_aside _ _).trans (State.emit_aside _ _)

theorem State.tryGrant_aside {k : StationIx} {p : Plan} {m : CycleModel} {c : Course} {e : Entry} {t : State}
    (h : s.tryGrant k p m c e = some t) : Aside kept s t := by
  unfold State.tryGrant at h
  dsimp only at h
  split at h
  · cases h; exact s.grantEntry_aside _ _ _
  · cases h
  · split at h
    · cases h
    · simp only [Option.map_eq_some_iff] at h
      obtain ⟨r, -, rfl⟩ := h
      have hrevise : Aside kept s (s.modSt k fun t => { t with revise := some r }) := .modSt_rest rfl rfl rfl rfl
      exact ((hrevise.trans (State.placeUrgent_aside _ _ _)).trans (State.setLockout_aside _ _ _)).trans (State.grantEntry_aside _ _ _ _)

theorem State.grantFirst_aside (k : StationIx) (p : Plan) (m : CycleModel) (c : Course) (l : List Entry) :
    Aside kept s (s.grantFirst k p m c l) := by
  induction l with
  | nil => exact .refl s
  | cons e es ih =>
    unfold State.grantFirst
    cases h : s.tryGrant k p m c e with
    | none => exact ih
    | some t => exact s.tryGrant_aside h

theorem State.evaluateTransit_aside (k : StationIx) : Aside kept s (s.evaluateTransit k) := by
  unfold State.evaluateTransit
  dsimp only
  split
  · split
    · split
      · exact s.grantFirst_aside k _ _ _ _
      · exact .refl s
    · exact .refl s
  · exact .refl s

theorem State.withdrawGrant_aside (i : SlotIx) : Aside kept s (s.withdrawGrant i) := by
  unfold State.withdrawGrant
  split
  · split
    · exact (((s.modEntry_aside _ _).trans (State.setLockout_aside _ _ _)).trans (State.emit_aside _ _)).trans
        (State.evaluateTransit_aside _ _)
    · exact .refl s
  · exact .refl s

theorem State.foldLost_aside (f : Option Fold) : Aside kept s (s.foldLost f) := by
  cases f
  · exact .refl s
  · exact s.withdrawGrant_aside _

/-! ## Coordination states and holds -/

theorem State.withdrawOrder_aside (k : StationIx) : Aside kept s (s.withdrawOrder k) := by
  unfold State.withdrawOrder
  split
  · exact Aside.trans (.modSt_rest rfl rfl rfl rfl) (State.foldLost_aside _ _)
  · exact .refl s

theorem State.clearRevise_aside (k : StationIx) : Aside kept s (s.clearRevise k) :=
  Aside.trans (.modSt_rest rfl rfl rfl rfl) (State.dropUrgent_aside _ _)

theorem State.withdrawRevise_aside (k : StationIx) : Aside kept s (s.withdrawRevise k) := by
  unfold State.withdrawRevise
  split
  · exact (s.clearRevise_aside k).trans (State.withdrawGrant_aside _ _)
  · exact .refl s

theorem State.setCoord_aside (k : StationIx) (c : Coord) (x : StateCause) : Aside kept s (s.setCoord k c x) := by
  unfold State.setCoord
  split
  · exact .refl s
  · exact Aside.trans (.modSt_rest rfl rfl rfl rfl) (State.emit_aside _ _)

theorem State.uncoordinate_aside (k : StationIx) (c : Coord) (x : StateCause) :
    Aside kept s ((((s.setCoord k c x).modSt k (·.unsynced)).withdrawOrder k).withdrawRevise k) := by
  have hunsynced (u : State) : Aside kept u (u.modSt k (·.unsynced)) := .modSt_rest rfl rfl rfl rfl
  exact (((s.setCoord_aside k c x).trans (hunsynced _)).trans (State.withdrawOrder_aside _ k)).trans (State.withdrawRevise_aside _ k)

theorem State.enterFree_aside (k : StationIx) (x : StateCause) : Aside kept s (s.enterFree k x) := s.uncoordinate_aside k .free x

theorem State.holdChanged_aside (k : StationIx) : Aside kept s (s.holdChanged k) := by
  unfold State.holdChanged
  dsimp only
  split
  · next h =>
    simp only [Bool.and_eq_true, decide_eq_true_eq] at h
    obtain ⟨hrunning, -⟩ := h
    split
    · split
      · exact s.uncoordinate_aside k _ _
      · exact .refl s
    · split
      · refine Aside.trans (.modSt rfl (fun hne => absurd hrunning hne) fun _ => ⟨rfl, rfl⟩) (State.setCoord_aside _ _ _ _)
      · exact .refl s
  · exact .refl s

theorem State.rehold_aside (k : StationIx) : Aside False s (s.rehold k) := by
  unfold State.rehold
  dsimp only
  split
  · exact .refl s
  · exact Aside.trans (.modSt rfl (fun _ => rfl) False.elim) (State.holdChanged_aside _ k)

/-- The hold that a recomputation leaves is the OR of the sources as it leaves them (R53). -/
theorem Aside.anySource {t : State} {s : State} (h : Aside True s t) (k : StationIx) : t.anySource k = s.anySource k := by
  have hhost := h.field (·.hostHold) (fun _ => rfl) k
  have hmanual := h.field (·.manualFlag) (fun _ => rfl) k
  have hpreempt := h.field (·.preemptFlag) (fun _ => rfl) k
  have hconfig := h.field (·.config) (fun _ => rfl) k
  obtain ⟨-, hroute⟩ := h.hold trivial k
  simp only [State.anySource, State.sources, State.incidentActive, Station.honours, Station.gated, h.hl, hhost, hmanual, hpreempt,
    hconfig, hroute]

theorem State.rehold_hold (k : StationIx) : ((s.rehold k).st k).hold = (s.rehold k).anySource k := by
  unfold State.rehold
  dsimp only
  split
  · next h => exact h
  · have haside := State.holdChanged_aside (kept := True) (s.modSt k fun t => { t with hold := s.anySource k }) k
    rw [haside.anySource k, (haside.hold trivial k).1, State.st_modSt_same]
    simp [State.anySource, State.sources, State.incidentActive, Station.honours, Station.gated]

/-! ## Departures and emergencies -/

theorem State.letGo_aside (e : Entry) : Aside kept s (s.letGo e) := by
  have hfold (u : State) : Aside kept u (u.modSt e.station fun t =>
      { t with order := t.order.map fun o => { o with body := o.body.map (·.dropFold e.slot) } }) := .modSt_rest rfl rfl rfl rfl
  unfold State.letGo
  split
  · dsimp only
    split
    · exact (s.clearRevise_aside _).trans (hfold _)
    · exact hfold _
  · exact .refl s

theorem State.leave_aside (e : Entry) (o : ReqOutcome) : Aside kept s (s.leave e o) := by
  have hgone : Aside kept s ((s.emit (.requestEnd e.station o e.grant e.tag)).letGo e) :=
    (s.emit_aside _).trans (State.letGo_aside _ _)
  unfold State.leave
  dsimp only
  split
  · exact (hgone.trans (State.dropUrgent_aside _ _)).trans (State.removeEntry_aside _ _)
  · exact hgone.trans (State.removeEntry_aside _ _)

theorem State.routeEnded_aside (k : StationIx) : Aside False s (s.routeEnded k) :=
  Aside.trans (.modSt rfl (fun _ => rfl) False.elim) (State.rehold_aside _ k)

theorem State.supersede_aside (k : StationIx) : Aside False s (s.supersede k) := by
  unfold State.supersede
  split
  · unfold State.endEntry
    dsimp only
    split
    · exact (s.leave_aside _ _).trans (State.routeEnded_aside _ _)
    · exact s.leave_aside _ _
  · exact .refl s

theorem State.takeUp_aside (k : StationIx) : Aside False s (s.takeUp k) := by
  unfold State.takeUp State.takeUp?
  split
  · split
    · exact .refl s
    · split
      · exact (s.supersede_aside _).trans (State.modEntry_aside _ _ _)
      · split
        · exact (s.placeUrgent_aside _ _).trans (State.modEntry_aside _ _ _)
        · exact .refl s
  · exact .refl s

theorem State.unpostAt_aside (k : StationIx) : Aside False s (s.unpostAt k) := by
  unfold State.unpostAt
  split
  · exact ((s.dropUrgent_aside _).trans (State.modEntry_aside _ _ _)).trans (State.takeUp_aside _ k)
  · exact .refl s

end

end Sys2Proof.Machine
end

section
/-! SUPPORT. What LOAD_STATION leaves of the station, the others and the stored plans (R3, R8, R9, R16, R53). -/

-- One proof at a time: elaborated in parallel, each proof that waits for an earlier one holds a thread and its stack.
set_option Elab.async false

namespace Sys2Proof.Machine

/-! ## A reset link, in IDLE (R8, R141) -/

/-- What a station's record says of its configuration: the stored part, the minimums in force, and whether a change of them is pending. -/
def Station.load (t : Station) : Option StationConfig × List Nat × Bool := (t.config, t.minsInForce, t.minsPending)

/-- From `s` to `t` every station's configuration stands, and so does all but the stations, the Measurement Unit, the Command Link
Controller, the request table, the events and the host link. -/
structure Relinks (s t : State) : Prop where
  core : { t.core with mu := State.reset.mu } = { s.core with mu := State.reset.mu }
  load : ∀ j : StationIx, (t.st j).load = (s.st j).load

namespace Relinks

variable {s t u : State}

theorem refl (s : State) : Relinks s s := ⟨rfl, fun _ => rfl⟩

theorem trans (h : Relinks s t) (h' : Relinks t u) : Relinks s u := ⟨h'.core.trans h.core, fun j => (h'.load j).trans (h.load j)⟩

theorem of_aside {kept : Prop} (h : Aside kept s t) : Relinks s t where
  core := by rw [h.core]
  load j := h.field Station.load (fun _ => rfl) j

theorem of_stations (hcore : { t.core with mu := State.reset.mu } = { s.core with mu := State.reset.mu })
    (hst : t.stations = s.stations) : Relinks s t := ⟨hcore, fun j => by rw [State.st_congr hst]⟩

theorem modSt {k : StationIx} {f : Station → Station} (h : (f (s.st k)).load = (s.st k).load) : Relinks s (s.modSt k f) where
  core := rfl
  load j := by
    rw [State.st_modSt]
    split
    · next hj => subst hj; exact h
    · rfl

/-- A part of the state that the change spares. -/
theorem part {α : Type} (f : State → α) (hf : ∀ x : State, f { x.core with mu := State.reset.mu } = f x) (h : Relinks s t) : f t = f s := by
  rw [← hf t, h.core, hf]

theorem ps (h : Relinks s t) : t.ps = s.ps := h.part (·.ps) fun _ => rfl

end Relinks

section
variable {s : State} {k : StationIx}

theorem State.settle_of_idle (h : s.ps.corridor = .idle) : s.settle = s := by
  rw [State.settle, h]
  rfl

theorem State.linkGone_relinks (c : LossCause) : Relinks s (s.linkGone k c) := by
  have hlost : Relinks s (s.modSt k fun t => { t with link := .lost, misses := Config.missLimit }) := .modSt rfl
  have hmodel (u : State) : Relinks u (u.modSt k fun t => { t with model := none }) := .modSt rfl
  exact ((hlost.trans (.of_aside (State.emit_aside (kept := True) _ _))).trans
    (.of_aside (State.enterFree_aside (kept := True) _ k .linkLost))).trans (hmodel _)

theorem State.dropFrames_relinks (h : s.ps.corridor = .idle) : Relinks s (s.dropFrames k) := by
  have horder : Relinks s (s.modSt k fun t => { t with order := none }) := .modSt rfl
  have hage (u : State) : Relinks u (u.modSt k fun t => { t with age := Config.sampleLife }) := .modSt rfl
  have hdropped := horder.trans (.of_aside (State.dropUrgent_aside (kept := True) _ (·.station = k)))
  unfold State.dropFrames
  rw [State.settle_of_idle (by rw [hdropped.ps]; exact h)]
  exact hdropped.trans (hage _)

theorem State.emptyRing_relinks : Relinks s s.emptyRing := .of_stations rfl rfl

theorem State.loseLink_relinks (c : LossCause) (h : s.ps.corridor = .idle) : Relinks s (s.loseLink k c) := by
  have hfree : Relinks s ((s.linkGone k c).unpostAt k) := (State.linkGone_relinks c).trans (.of_aside (State.unpostAt_aside _ k))
  have hall := hfree.trans (State.dropFrames_relinks (k := k) (by rw [hfree.ps]; exact h))
  rw [State.loseLink_eq]
  split
  · exact hall.trans State.emptyRing_relinks
  · exact hall

/-- A reset link's record: LOST at 3 misses, its mark clear and no last failure (R8). -/
def State.linkReset (s : State) (k : StationIx) : State := (s.modSt k fun t =>
  { t with link := .lost, misses := Config.missLimit, ackMark := false, lastFailure := none }).discardExchange (· = k)

theorem State.resetLink_eq (c : LossCause) :
    s.resetLink k c = (if (s.st k).link = .online then s.loseLink k c else s).linkReset k := rfl

theorem State.linkReset_relinks : Relinks s (s.linkReset k) := by
  have hreset : Relinks s (s.modSt k fun t =>
      { t with link := .lost, misses := Config.missLimit, ackMark := false, lastFailure := none }) := .modSt rfl
  exact hreset.trans (.of_stations rfl rfl)

theorem State.linkReset_st : ((s.linkReset k).st k).link = .lost ∧ ((s.linkReset k).st k).misses = 3
    ∧ ((s.linkReset k).st k).ackMark = false ∧ ((s.linkReset k).st k).lastFailure = none := by
  have hst : (s.linkReset k).st k = (s.modSt k fun t =>
      { t with link := .lost, misses := Config.missLimit, ackMark := false, lastFailure := none }).st k := rfl
  rw [hst, State.st_modSt_same]
  exact ⟨rfl, rfl, rfl, rfl⟩

theorem State.resetLink_relinks (c : LossCause) (h : s.ps.corridor = .idle) : Relinks s (s.resetLink k c) := by
  rw [State.resetLink_eq]
  split
  · exact (State.loseLink_relinks c h).trans State.linkReset_relinks
  · exact State.linkReset_relinks

theorem State.relinked_relinks {again : Bool} (h : s.ps.corridor = .idle) : Relinks s (s.relinked k again) := by
  unfold State.relinked
  split
  · exact State.resetLink_relinks _ h
  · exact .refl s

theorem State.relinked_st : ((s.relinked k true).st k).link = .lost ∧ ((s.relinked k true).st k).misses = 3
    ∧ ((s.relinked k true).st k).ackMark = false ∧ ((s.relinked k true).st k).lastFailure = none := State.linkReset_st

theorem State.restructured_relinks {changed : Bool} : Relinks s (s.restructured k changed) := by
  unfold State.restructured
  split
  · exact .modSt rfl
  · exact .refl s

/-! ## The hold and the verdicts taken afresh (R9, R53) -/

/-- What ends an accepted LOAD_STATION: the station's hold is recomputed, and every plan judged. -/
def State.reviewed (s : State) (k : StationIx) : State := (s.rehold k).judgeAll

theorem State.loadStation_reviewed (c : StationConfig) : s.loadStation k c =
    (((s.stored k c).relinked k (s.ps.corridor = .idle && (s.st k).config.all (·.drop ≠ c.drop))).restructured k
      (s.ps.corridor = .idle && (s.st k).config.any (·.phases ≠ c.phases))).reviewed k := s.loadStation_eq k c

theorem State.reviewed_st (j : StationIx) : (s.reviewed k).st j = (s.rehold k).st j := State.judgeAll_st _ j

/-- A field of a station's record that the review spares. -/
theorem State.reviewed_field {α : Type} (f : Station → α) (hf : ∀ x, f (Station.core x) = f x) (j : StationIx) :
    f ((s.reviewed k).st j) = f (s.st j) := by
  rw [State.reviewed_st]
  exact (s.rehold_aside k).field f hf j

theorem State.reviewed_jump (h : s.ps.corridor ≠ .running) (j : StationIx) : ((s.reviewed k).st j).jump = (s.st j).jump := by
  rw [State.reviewed_st]
  exact (s.rehold_aside k).jump h j

/-- A part of the state that the review spares. -/
theorem State.reviewed_part {α : Type} (f : State → α) (hcore : ∀ x : State, f x.core = f x)
    (hps : ∀ (x : State) (p : PlanStore), f { x with ps := p } = f x) : f (s.reviewed k) = f s := by
  rw [State.reviewed, State.judgeAll_eq, hps, ← hcore, (s.rehold_aside k).core, hcore]

theorem State.reviewed_ps : (s.reviewed k).ps = { s.ps with slots := (s.reviewed k).ps.slots } := by
  have hps : (s.reviewed k).ps = { (s.rehold k).ps with slots := (s.reviewed k).ps.slots } := congrArg (·.ps) (s.rehold k).judgeAll_eq
  rwa [(s.rehold_aside k).ps] at hps

theorem State.reviewed_plans (g : Fin 8) : ((s.reviewed k).ps.slots[g]).map (·.plan) = (s.ps.slots[g]).map (·.plan) := by
  rw [State.reviewed, State.judgeAll_plans, (s.rehold_aside k).ps]

theorem State.reviewed_verdict {g : Fin 8} {x : PlanSlot} (hx : (s.reviewed k).ps.slots[g] = some x) :
    x.verdict = (s.reviewed k).judge x.plan := by
  rw [State.reviewed, State.judgeAll_slots, Option.map_eq_some_iff] at hx
  obtain ⟨y, -, rfl⟩ := hx
  rw [State.reviewed, State.judgeAll_judge]
  rfl

theorem State.reviewed_hold : ((s.reviewed k).st k).hold = (s.reviewed k).anySource k := by
  have hsource : (s.reviewed k).anySource k = (s.rehold k).anySource k := by
    simp only [State.anySource, State.sources, State.incidentActive, State.reviewed_st]
    rw [State.reviewed, State.judgeAll_eq]
  rw [hsource, State.reviewed_st, State.rehold_hold]

end

end Sys2Proof.Machine
end

section
/-! SUPPORT. LOAD_STATION answered whole (R2 to R9, R60, R72, R81, R136, R141, R143). -/

-- One proof at a time: elaborated in parallel, each proof that waits for an earlier one holds a thread and its stack.
set_option Elab.async false

namespace Sys2Proof.Machine

/-- What a station's record says of its link. -/
def Station.linkFields (t : Station) : LinkState × Nat × Bool × Option FailureCause := (t.link, t.misses, t.ackMark, t.lastFailure)

/-- What a station's record says of its targets, its queue sample and its cycle model, but for the jump flag. -/
def Station.measured (t : Station) : Option Nat × Option Nat × Nat × Nat × Option Byte × Nat × Option CycleModel :=
  (t.raw, t.target, t.queueIn, t.queueOut, t.sampleNo, t.age, t.model)

section
variable {s : State} {k : StationIx} {c : StationConfig}

theorem State.stored_st : (s.stored k c).st k = { s.st k with
    config := some c
    minsInForce := if decide (s.ps.corridor = .idle) then c.minimums else (s.st k).minsInForce
    minsPending := !decide (s.ps.corridor = .idle) && ((s.st k).minsPending || (s.st k).config.any (·.minimums ≠ c.minimums)) } := by
  rw [State.stored, State.st_modSt_same, Station.loadMinimums_eq]

theorem State.stored_st_ne {j : StationIx} (h : j ≠ k) : (s.stored k c).st j = s.st j := s.st_modSt_ne h _

theorem State.loadStation_standing (h : s.ps.corridor ≠ .idle) : s.loadStation k c = (s.stored k c).reviewed k := by
  rw [State.loadStation_reviewed, decide_eq_false h]
  rfl

theorem State.loadStation_idle (h : s.ps.corridor = .idle) : s.loadStation k c =
    (((s.stored k c).relinked k ((s.st k).config.all (·.drop ≠ c.drop))).restructured k
      ((s.st k).config.any (·.phases ≠ c.phases))).reviewed k := by
  rw [State.loadStation_reviewed, decide_eq_true h, Bool.true_and, Bool.true_and]

/-- The state that the review ends, in IDLE. -/
theorem State.loadStation_relinks (h : s.ps.corridor = .idle) {again changed : Bool} :
    Relinks (s.stored k c) (((s.stored k c).relinked k again).restructured k changed) :=
  (State.relinked_relinks (s := s.stored k c) h).trans State.restructured_relinks

theorem State.loadStation_load (h : s.ps.corridor = .idle) (j : StationIx) :
    ((s.loadStation k c).st j).load = ((s.stored k c).st j).load := by
  rw [State.loadStation_idle h, State.reviewed_field Station.load fun _ => rfl]
  exact (State.loadStation_relinks h).load j

theorem State.restructured_st : (s.restructured k true).st k = (s.st k).restructure := by
  rw [State.restructured, if_pos rfl, State.st_modSt_same]

theorem State.restructured_linkFields {changed : Bool} : ((s.restructured k changed).st k).linkFields = (s.st k).linkFields := by
  cases changed
  · rfl
  · rw [State.restructured_st]; rfl

theorem State.restructured_measured : ((s.restructured k true).st k).measured
    = (none, none, 0, 0, none, 3, (s.st k).model.map fun m => { m with basis := .none, next := none }) := by
  rw [State.restructured_st]; rfl

theorem State.restructured_jump : ((s.restructured k true).st k).jump = true := by
  rw [State.restructured_st]; rfl

/-- A load with another drop address, or the first one, resets the link (R8, R136, R141, R143). -/
theorem State.loadStation_link_of_readdressed (h : s.ps.corridor = .idle) (hdrop : ∀ c0, (s.st k).config = some c0 → c0.drop ≠ c.drop) :
    ((s.loadStation k c).st k).linkFields = (.lost, 3, false, none) := by
  have hagain : (s.st k).config.all (·.drop ≠ c.drop) = true := by
    rw [Option.all_eq_true]; exact fun c0 hc0 => decide_eq_true (hdrop c0 hc0)
  obtain ⟨hlink, hmisses, hmark, hfailure⟩ := State.relinked_st (s := s.stored k c) (k := k)
  rw [State.loadStation_idle h, hagain, State.reviewed_field Station.linkFields fun _ => rfl, State.restructured_linkFields,
    Station.linkFields, hlink, hmisses, hmark, hfailure]

section
variable (h : s.ps.corridor = .idle) {c0 : StationConfig} (hc0 : (s.st k).config = some c0)
include h hc0

theorem State.loadStation_of_sameDrop (hdrop : c0.drop = c.drop) : s.loadStation k c
    = ((s.stored k c).restructured k ((s.st k).config.any (·.phases ≠ c.phases))).reviewed k := by
  rw [State.loadStation_idle h, hc0, Option.all_some, decide_eq_false (not_not.2 hdrop)]
  rfl

theorem State.loadStation_link_of_sameDrop (hdrop : c0.drop = c.drop) :
    ((s.loadStation k c).st k).linkFields = (s.st k).linkFields := by
  rw [State.loadStation_of_sameDrop h hc0 hdrop, State.reviewed_field Station.linkFields fun _ => rfl, State.restructured_linkFields,
    State.stored_st]
  rfl

/-- A change of n clears the targets, the sample and the cycle model's course (R8, R60, R72, R81). -/
theorem State.loadStation_measured_of_changed (hphases : c0.phases ≠ c.phases) :
    ∃ model, ((s.loadStation k c).st k).measured = (none, none, 0, 0, none, 3, model) ∧ ((s.loadStation k c).st k).jump = true
      ∧ (c0.drop = c.drop → model = (s.st k).model.map fun m => { m with basis := .none, next := none }) := by
  have hchanged : (s.st k).config.any (·.phases ≠ c.phases) = true := by rw [hc0]; exact decide_eq_true hphases
  have hidle : ∀ b, (((s.stored k c).relinked k b).restructured k true).ps.corridor ≠ .running := fun b => by
    rw [(State.loadStation_relinks h).ps]
    show s.ps.corridor ≠ .running
    rw [h]; decide
  rw [State.loadStation_idle h, hchanged, State.reviewed_field Station.measured fun _ => rfl, State.restructured_measured,
    State.reviewed_jump (hidle _), State.restructured_jump]
  refine ⟨_, rfl, rfl, fun hdrop => ?_⟩
  rw [hc0, Option.all_some, decide_eq_false (not_not.2 hdrop)]
  exact congrArg (fun t : Station => t.model.map fun m => { m with basis := .none, next := none }) State.stored_st

theorem State.loadStation_measured_of_same (hphases : c0.phases = c.phases) (hdrop : c0.drop = c.drop) :
    ((s.loadStation k c).st k).measured = (s.st k).measured ∧ ((s.loadStation k c).st k).jump = (s.st k).jump := by
  have hsame : (s.st k).config.any (·.phases ≠ c.phases) = false := by rw [hc0]; exact decide_eq_false (not_not.2 hphases)
  have hidle : (s.stored k c).ps.corridor ≠ .running := by
    show s.ps.corridor ≠ .running
    rw [h]; decide
  rw [State.loadStation_of_sameDrop h hc0 hdrop, hsame, State.reviewed_field Station.measured fun _ => rfl]
  have hnot : (s.stored k c).restructured k false = s.stored k c := rfl
  rw [hnot, State.reviewed_jump hidle, State.stored_st]
  exact ⟨rfl, rfl⟩

end

/-- The parts of the state that an accepted LOAD_STATION spares (R8). -/
theorem State.eq_of_parts {s u : State} (hpending : u.pending = s.pending) (hcount : u.count = s.count) (htb : u.tb = s.tb)
    (hhl : u.hl = s.hl) (hcs : u.cs = s.cs) : u = { s with
      ps := u.ps, mu := u.mu, stations := u.stations, clc := u.clc, table := u.table, eq := u.eq, hli := u.hli } := by
  rw [← hpending, ← hcount, ← htb, ← hhl, ← hcs]

theorem State.loadStation_load_same (h : s.ps.corridor = .idle) : ((s.loadStation k c).st k).load = (some c, c.minimums, false) := by
  rw [State.loadStation_load h, State.stored_st, h]
  rfl

theorem State.loadStation_load_ne (h : s.ps.corridor = .idle) {j : StationIx} (hj : j ≠ k) :
    ((s.loadStation k c).st j).load = (s.st j).load := by
  rw [State.loadStation_load h, State.stored_st_ne hj]

/-- The review ends every accepted LOAD_STATION, and finds the plan store as it was. -/
theorem State.loadStation_ends (s : State) (k : StationIx) (c : StationConfig) :
    ∃ v : State, s.loadStation k c = v.reviewed k ∧ v.ps = s.ps := by
  by_cases h : s.ps.corridor = .idle
  · exact ⟨_, State.loadStation_idle h, (State.loadStation_relinks h).ps⟩
  · exact ⟨_, State.loadStation_standing h, rfl⟩

theorem State.loadStation_hold : ((s.loadStation k c).st k).hold = (s.loadStation k c).anySource k := by
  obtain ⟨v, hv, -⟩ := s.loadStation_ends k c
  rw [hv, State.reviewed_hold]

theorem State.loadStation_verdict {g : Fin 8} {x : PlanSlot} (hx : (s.loadStation k c).ps.slots[g] = some x) :
    x.verdict = (s.loadStation k c).judge x.plan := by
  obtain ⟨v, hv, -⟩ := s.loadStation_ends k c
  rw [hv] at hx ⊢
  exact State.reviewed_verdict hx

theorem State.loadStation_plans (g : Fin 8) :
    ((s.loadStation k c).ps.slots[g]).map (·.plan) = (s.ps.slots[g]).map (·.plan) := by
  obtain ⟨v, hv, hps⟩ := s.loadStation_ends k c
  rw [hv, State.reviewed_plans, hps]

theorem State.loadStation_ps : (s.loadStation k c).ps = { s.ps with slots := (s.loadStation k c).ps.slots } := by
  obtain ⟨v, hv, hps⟩ := s.loadStation_ends k c
  have hreviewed := v.reviewed_ps (k := k)
  rwa [← hv, hps] at hreviewed

/-- In IDLE the Measurement Unit can change too: a station that loses its link empties the tidal ring (R77, R141). -/
theorem State.loadStation_frame_idle (h : s.ps.corridor = .idle) : s.loadStation k c = { s with
    ps := (s.loadStation k c).ps, mu := (s.loadStation k c).mu, stations := (s.loadStation k c).stations
    clc := (s.loadStation k c).clc, table := (s.loadStation k c).table, eq := (s.loadStation k c).eq
    hli := (s.loadStation k c).hli } := by
  have hpart {α : Type} (f : State → α) (hcore : ∀ x : State, f { x.core with mu := State.reset.mu } = f x)
      (haside : ∀ x : State, f x.core = f x) (hps : ∀ (x : State) (p : PlanStore), f { x with ps := p } = f x)
      (hstored : f (s.stored k c) = f s) : f (s.loadStation k c) = f s := by
    rw [State.loadStation_idle h, State.reviewed_part f haside hps, (State.loadStation_relinks h).part f hcore, hstored]
  exact State.eq_of_parts (hpart (·.pending) (fun _ => rfl) (fun _ => rfl) (fun _ _ => rfl) rfl)
    (hpart (·.count) (fun _ => rfl) (fun _ => rfl) (fun _ _ => rfl) rfl) (hpart (·.tb) (fun _ => rfl) (fun _ => rfl) (fun _ _ => rfl) rfl)
    (hpart (·.hl) (fun _ => rfl) (fun _ => rfl) (fun _ _ => rfl) rfl) (hpart (·.cs) (fun _ => rfl) (fun _ => rfl) (fun _ _ => rfl) rfl)

section
variable (h : s.ps.corridor ≠ .idle)
include h

theorem State.loadStation_load_standing : ((s.loadStation k c).st k).load
    = (some c, (s.st k).minsInForce, (s.st k).minsPending || (s.st k).config.any (·.minimums ≠ c.minimums)) := by
  rw [State.loadStation_standing h, State.reviewed_field Station.load fun _ => rfl, State.stored_st, decide_eq_false h]
  rfl

theorem State.loadStation_link_standing : ((s.loadStation k c).st k).linkFields = (s.st k).linkFields := by
  rw [State.loadStation_standing h, State.reviewed_field Station.linkFields fun _ => rfl, State.stored_st]
  rfl

theorem State.loadStation_frame_standing : s.loadStation k c = { s with
    ps := (s.loadStation k c).ps, stations := (s.loadStation k c).stations, clc := (s.loadStation k c).clc
    table := (s.loadStation k c).table, eq := (s.loadStation k c).eq, hli := (s.loadStation k c).hli } := by
  have hpart {α : Type} (f : State → α) (haside : ∀ x : State, f x.core = f x)
      (hps : ∀ (x : State) (p : PlanStore), f { x with ps := p } = f x) (hstored : f (s.stored k c) = f s) :
      f (s.loadStation k c) = f s := by
    rw [State.loadStation_standing h, State.reviewed_part f haside hps, hstored]
  have hframe := State.eq_of_parts (hpart (·.pending) (fun _ => rfl) (fun _ _ => rfl) rfl)
    (hpart (·.count) (fun _ => rfl) (fun _ _ => rfl) rfl) (hpart (·.tb) (fun _ => rfl) (fun _ _ => rfl) rfl)
    (hpart (·.hl) (fun _ => rfl) (fun _ _ => rfl) rfl) (hpart (·.cs) (fun _ => rfl) (fun _ _ => rfl) rfl)
  rwa [hpart (·.mu) (fun _ => rfl) (fun _ _ => rfl) rfl] at hframe

end

end

/-! ## The row -/

theorem exec_loadStation_payload {s : State} {echo : Byte} {k : StationIx} {c : StationConfig} {N : Nat} (h : s.takesAtOnce)
    (hb : s.busy = false) (hcount : s.count = some N) (hk : k.val < N) (hc : c.fits) (hlink : c.link.isSome = true ↔ k.val + 1 < N)
    (hfree : ∀ (j : StationIx) (c' : StationConfig), j ≠ k → (s.st j).config = some c' → c'.drop ≠ c.drop)
    (hrepeats : s.ps.corridor = .idle ∨ ∀ c0 ∈ (s.st k).config, c0.drop = c.drop ∧ c0.minimums.length = c.minimums.length)
    (hspoils : s.ps.corridor = .idle ∨ s.spoiledPlan k c.minimums = none) :
    exec (.loadStation echo (c.payload k)) s
      = .next ((s.heard.loadStation k c).answered 0x02 echo (.ok ((c.link.map (·.bytes)).getD []))) := by
  have hw : Instr.wellFormed (.loadStation echo (c.payload k)) = true := by
    obtain ⟨-, -, -, hn, -⟩ := hc
    have hlen : 1 ≤ (c.payload k).length ∧ (c.payload k).length ≤ 250 := by
      rw [StationConfig.payload_length]
      split <;> omega
    simpa [Instr.wellFormed, payloadFits] using hlen
  have hbegun : (s.heard.loadStation k c).begun := (s.heard.loadStation_quiet k c).begun (State.heard_begun h)
  exact exec_served (i := .loadStation echo (c.payload k)) (f := ⟨0x02, echo, c.payload k⟩) h rfl hw rfl (by rintro _ ⟨⟩)
    (State.ownLoadStation_payload (s := s.heard) hb hcount hk hc hlink hfree hrepeats hspoils) hbegun

theorem StationConfig.times_eq (c : StationConfig) : (match c.link with
      | some l => be16 ((72 * l.distance + l.vIn) / (2 * l.vIn)) ++ be16 ((72 * l.distance + l.vOut) / (2 * l.vOut))
      | none => []) = (c.link.map (·.bytes)).getD [] := by
  cases c.link <;> rfl

end Sys2Proof.Machine

open Sys2Proof Sys2Proof.Machine

/-- Settles O41: the payload is read back as the part it carries, and the record, the link, the targets and the verdicts are followed
through the steps of R8. -/
theorem loadStationStoresTheConfiguration : Obligations.LoadStationStoresTheConfiguration := by
  intro s echo k N c h hb hcount _ hk hc hlink hfree times
  have htimes : times = (c.link.map (·.bytes)).getD [] := c.times_eq
  rw [htimes]
  refine ⟨fun hidle => ⟨s.heard.loadStation k c,
    exec_loadStation_payload h hb hcount hk hc hlink hfree (.inl hidle) (.inl hidle), ?_⟩, fun c0 hmoving hc0 hdrop hphases hspoiled =>
    ⟨s.heard.loadStation k c, exec_loadStation_payload h hb hcount hk hc hlink hfree (.inr fun x hx => ?repeats) (.inr hspoiled), ?_⟩⟩
  case repeats =>
    obtain rfl : c0 = x := Option.some.inj (hc0.symm.trans hx)
    exact ⟨hdrop, hphases⟩
  · obtain ⟨hconfig, hload⟩ := Prod.mk.inj (State.loadStation_load_same (s := s.heard) (k := k) (c := c) hidle)
    obtain ⟨hmins, hpending⟩ := Prod.mk.inj hload
    refine ⟨hconfig, hmins, hpending, State.loadStation_hold, fun j hj => ?others, fun g x => State.loadStation_verdict,
      fun hnew => ?lost, fun c0 hc0 hdrop => ?link, fun c0 hc0 hphases => ?changed, fun c0 hc0 hphases hdrop => ?same,
      State.loadStation_plans, State.loadStation_ps, ?idle, State.loadStation_frame_idle hidle⟩
    case others => exact (Prod.mk.inj (State.loadStation_load_ne (s := s.heard) (c := c) hidle hj)).1
    case lost => simpa [Station.linkFields] using State.loadStation_link_of_readdressed (s := s.heard) hidle hnew
    case link =>
      have hfields := State.loadStation_link_of_sameDrop (s := s.heard) hidle hc0 hdrop
      simp only [Station.linkFields, Prod.mk.injEq] at hfields
      obtain ⟨hlink, hmisses, hmark, -⟩ := hfields
      exact ⟨hlink, hmisses, hmark⟩
    case changed =>
      obtain ⟨model, hfields, hjump, hmodel⟩ := State.loadStation_measured_of_changed (s := s.heard) hidle hc0 hphases
      simp only [Station.measured, Prod.mk.injEq] at hfields
      obtain ⟨hraw, htarget, hqueueIn, hqueueOut, hsample, hage, rfl⟩ := hfields
      exact ⟨hraw, htarget, hjump, hqueueIn, hqueueOut, hsample, hage, hmodel⟩
    case same =>
      obtain ⟨hfields, hjump⟩ := State.loadStation_measured_of_same (s := s.heard) hidle hc0 hphases hdrop
      simp only [Station.measured, Prod.mk.injEq] at hfields
      obtain ⟨hraw, htarget, -, -, hsample, hage, hmodel⟩ := hfields
      exact ⟨hraw, htarget, hjump, hsample, hage, hmodel⟩
    case idle =>
      rw [State.loadStation_ps]
      exact hidle
  · obtain ⟨hconfig, hload⟩ := Prod.mk.inj (State.loadStation_load_standing (s := s.heard) (k := k) (c := c) hmoving)
    obtain ⟨hmins, hpending⟩ := Prod.mk.inj hload
    have hlinked := State.loadStation_link_standing (s := s.heard) (k := k) (c := c) hmoving
    simp only [Station.linkFields, Prod.mk.injEq] at hlinked
    obtain ⟨hlink', -⟩ := hlinked
    have hany : (s.st k).config.any (·.minimums ≠ c.minimums) = decide (c0.minimums ≠ c.minimums) := by rw [hc0]; rfl
    refine ⟨hconfig, hmins, hpending.trans (congrArg _ hany), State.loadStation_hold, hlink', ?active,
      fun g => ⟨State.loadStation_plans g, fun x => State.loadStation_verdict⟩, State.loadStation_frame_standing hmoving⟩
    rw [State.loadStation_ps]
    rfl
end

section
/-! SUPPORT. The state after a reset: the stored items taken as working values, and the may-run condition evaluated (R12, R16, R24, R39,
R40, R53, R160). -/

-- One proof at a time: elaborated in parallel, each proof that waits for an earlier one holds a thread and its stack.
set_option Elab.async false

namespace Sys2Proof.Machine

variable {s : State} {k : StationIx}

/-! ## Holds outside RUNNING (R49, R53) -/

/-- The OR of a station's sources, under the level of the incident input (R53). -/
def Station.sourced (incident : Bool) (t : Station) : Bool :=
  [t.hostHold, t.manualFlag && t.honours, incident && t.gated, t.preemptFlag, t.routeActive].any id

theorem State.anySource_eq : s.anySource k = (s.st k).sourced s.incidentActive := rfl

theorem State.holdChanged_of_still (h : s.ps.corridor ≠ .running) : s.holdChanged k = s := by
  rw [State.holdChanged, decide_eq_false h]
  rfl

theorem State.rehold_of_still (h : s.ps.corridor ≠ .running) :
    s.rehold k = s.modSt k fun t => { t with hold := t.sourced s.incidentActive } := by
  unfold State.rehold
  dsimp only
  split
  · next heq =>
    refine (s.modSt_self ?_).symm
    rw [← State.anySource_eq, ← heq]
  · exact State.holdChanged_of_still (s := s.modSt k fun t => { t with hold := s.anySource k }) h

theorem State.reholdAll_of_still (h : s.ps.corridor ≠ .running) :
    s.reholdAll = s.modAll fun t => { t with hold := t.sourced s.incidentActive } := by
  have hfold (l : List StationIx) (u : State) (hu : u.ps.corridor ≠ .running) (hl : u.incidentActive = s.incidentActive) :
      l.foldl State.rehold u = l.foldl (fun u k => u.modSt k fun t => { t with hold := t.sourced s.incidentActive }) u := by
    induction l generalizing u with
    | nil => rfl
    | cons k l ih =>
      rw [List.foldl_cons, List.foldl_cons, State.rehold_of_still hu, hl]
      exact ih _ hu hl
  exact hfold allStations s h rfl

/-! ## The state that a reset evaluates (R160) -/

/-- The state of a reset whose items are handed over, with the may-run condition still to be evaluated. -/
def State.readied (s : State) (image : Image) (tb : TimeBase) (level : Bool) : State :=
  ((s.reloaded image tb).judgeAll.enabled level).reholdAll

theorem State.afterReset_eq (image : Image) (tb : TimeBase) (level : Bool) :
    s.afterReset image tb level = (s.readied image tb level).evaluate .reset := rfl

section
variable {image : Image} {tb : TimeBase} {level : Bool}

theorem State.reloaded_eq : s.reloaded image tb = { State.reset with
    pending := s.pending, tb, cs := { image, saving := none }, count := image.loaded.count, stations := (s.reloaded image tb).stations
    ps := { State.reset.ps with
      slots := (s.reloaded image tb).ps.slots, schedule := image.loaded.schedule, autostart := image.loaded.autostart }
    hl := { State.reset.hl with polarity := image.loaded.polarity } } :=
  State.restore_eq _ _

theorem State.enabled_eq : (s.reloaded image tb).judgeAll.enabled level = { State.reset with
    pending := s.pending, tb, cs := { image, saving := none }, count := image.loaded.count, stations := (s.reloaded image tb).stations
    ps := { State.reset.ps with
      slots := (s.reloaded image tb).judgeAll.ps.slots, schedule := image.loaded.schedule, autostart := image.loaded.autostart
      enable := image.loaded.autostart }
    hl := { polarity := image.loaded.polarity, level } } := by
  rw [State.enabled, State.judgeAll_eq, State.reloaded_eq]

theorem State.enabled_still : ((s.reloaded image tb).judgeAll.enabled level).ps.corridor ≠ .running := by
  rw [State.enabled_eq]
  exact CorridorState.noConfusion

/-- Every part of the readied state but its stations and the verdicts. -/
theorem State.readied_eq : s.readied image tb level = { State.reset with
    pending := s.pending, tb, cs := { image, saving := none }, count := image.loaded.count
    stations := (s.readied image tb level).stations
    ps := { State.reset.ps with
      slots := (s.readied image tb level).ps.slots, schedule := image.loaded.schedule, autostart := image.loaded.autostart
      enable := image.loaded.autostart }
    hl := { polarity := image.loaded.polarity, level } } := by
  rw [State.readied, State.reholdAll_of_still State.enabled_still, State.modAll_eq, State.enabled_eq]

theorem State.reloaded_st (j : StationIx) : (s.reloaded image tb).st j = .restored image.loaded.configs[j] image.loaded.masks[j] := by
  rw [State.reloaded, State.restore_st]

theorem State.enabled_st (s : State) (level : Bool) (j : StationIx) : (s.enabled level).st j = s.st j := rfl

theorem State.readied_incident :
    (s.readied image tb level).incidentActive = ((s.reloaded image tb).judgeAll.enabled level).incidentActive := by
  simp only [State.readied, State.reholdAll_of_still State.enabled_still, State.incidentActive]
  rw [State.modAll_eq]

/-- The sources do not read the effective hold. -/
theorem Station.sourced_hold (incident hold : Bool) (c : Option StationConfig) (m : Bool × Bool) :
    ({ Station.restored c m with hold }).sourced incident = (Station.restored c m).sourced incident := rfl

theorem State.readied_st (j : StationIx) : (s.readied image tb level).st j = { Station.blank with
    config := image.loaded.configs[j], minsInForce := (image.loaded.configs[j].map (·.minimums)).getD []
    maskIn := image.loaded.masks[j].1, maskOut := image.loaded.masks[j].2, hold := (s.readied image tb level).anySource j } := by
  have hst : (s.readied image tb level).st j = { Station.restored image.loaded.configs[j] image.loaded.masks[j] with
      hold := (Station.restored image.loaded.configs[j] image.loaded.masks[j]).sourced (s.readied image tb level).incidentActive } := by
    rw [State.readied_incident, State.readied, State.reholdAll_of_still State.enabled_still, State.modAll_st, State.enabled_st,
      State.judgeAll_st, State.reloaded_st]
  have hsource : (s.readied image tb level).anySource j
      = (Station.restored image.loaded.configs[j] image.loaded.masks[j]).sourced (s.readied image tb level).incidentActive := by
    rw [State.anySource_eq, hst, Station.sourced_hold]
  rw [hsource, hst]
  rfl

/-- The verdict reads the station count and the configurations alone (R15). -/
theorem State.judge_congr_config {s t : State} (hcount : t.count = s.count) (hconfig : ∀ j : StationIx, (t.st j).config = (s.st j).config)
    (p : Plan) : t.judge p = s.judge p := by
  simp only [State.judge, State.geometryValid, hcount, hconfig]

theorem State.readied_slots (g : Fin 8) : (s.readied image tb level).ps.slots[g]
    = (image.loaded.plans[g]).map fun p => { plan := p, verdict := (s.readied image tb level).judge p } := by
  have hslots : (s.readied image tb level).ps.slots = (s.reloaded image tb).judgeAll.ps.slots := by
    rw [State.readied, State.reholdAll_of_still State.enabled_still, State.modAll_eq]
    rfl
  have hjudge (p : Plan) : (s.readied image tb level).judge p = (s.reloaded image tb).judge p := by
    refine State.judge_congr_config ?_ (fun j => ?_) p
    · rw [State.readied_eq, State.reloaded_eq]
    · rw [State.readied_st, State.reloaded_st]
      rfl
  rw [hslots, State.judgeAll_slots, State.reloaded, State.restore_slots, Option.map_map]
  exact congrArg (fun f => (image.loaded.plans[g]).map f) (funext fun p => congrArg (PlanSlot.mk p) (hjudge p).symm)

end

/-! ## The evaluation (R23, R24, R39, R40) -/

/-- An event written while notices are disabled joins the queue, and nothing else changes (R152, R156). -/
theorem State.emit_of_room (h : s.eq.records.length < Config.eventLimit) (hn : s.hli.notice = false) (b : EventBody) :
    s.emit b = { s with eq := { s.eq with records := s.eq.records ++ [s.record b] } } := by
  rw [State.emit, if_pos h]
  dsimp only
  split
  · rw [State.noticeReport, hn]; rfl
  · rfl

/-- A corridor at its reset values but for its items, its clock and the INCIDENT level: IDLE with no plan in service, no event, no
notice, every link LOST, and every jump flag set. -/
structure State.Fresh (s : State) : Prop where
  idle : s.ps.corridor = .idle
  active : s.ps.active = none
  staged : s.ps.staged = none
  override : s.ps.override = none
  rejection : s.ps.rejection = none
  eq : s.eq = State.reset.eq
  hli : s.hli = State.reset.hli
  mu : s.mu = State.reset.mu
  link : ∀ k : StationIx, (s.st k).link = .lost
  jump : ∀ k : StationIx, (s.st k).jump = true

theorem State.readied_fresh (image : Image) (tb : TimeBase) (level : Bool) : (s.readied image tb level).Fresh := by
  refine ⟨?_, ?_, ?_, ?_, ?_, ?_, ?_, ?_, fun k => ?_, fun k => ?_⟩
  case refine_9 => rw [State.readied_st]; rfl
  case refine_10 => rw [State.readied_st]; rfl
  all_goals rw [State.readied_eq] <;> rfl

theorem State.clearRejection_of_none (h : s.ps.rejection = none) : s.clearRejection = s := by
  rw [State.clearRejection, ← h]

theorem State.modAll_jump (h : ∀ k : StationIx, (s.st k).jump = true) : s.modAll (fun t => { t with jump := true }) = s :=
  List.foldl_fixed' (fun k => s.modSt_self (by rw [← h k])) allStations

/-- A station whose link is LOST stays FREE (R47). -/
theorem State.leaveFree_of_lost (h : (s.st k).link = .lost) (x : StateCause) : s.leaveFree k x = s := by
  simp [State.leaveFree, h]

theorem State.planValid_iff {g : Nat} : s.planValid g = true ↔ ∃ x, s.slot g = some x ∧ x.verdict = .valid := by
  simp [State.planValid, Option.any_eq_true]

theorem State.planValid_zero : s.planValid 0 = false := by simp [State.planValid, State.slot]

/-- The conditions under which the corridor enters RUNNING from its reset values (R39). -/
def State.Starts (s : State) : Prop :=
  s.ps.enable = true ∧ s.tb.clockSet = true ∧ s.geometryValid = true ∧ s.planValid s.schedulePlan = true

/-- The corridor RUNNING under a plan in a slot, as the entry to RUNNING sets it before its events (R40). -/
def State.underway (s : State) (g : Nat) (p : Plan) : State := { s with
  ps := { s.ps with corridor := .running, active := some g, staged := none }
  tb := { s.tb with m := s.tb.time % p.cycle } }

/-- The corridor underway from its reset values, with its two events (R40). -/
def State.announced (s : State) (g : Nat) (p : Plan) : State := { s.underway g p with
  eq := { records := [s.record (.corridorState .running .reset), s.record (.planTaken g 0)], overflow := false } }

/-- The corridor as it enters RUNNING from its reset values, under a plan in a slot (R40). -/
def State.started (s : State) (g : Nat) (p : Plan) : State :=
  { s.announced g p with mu := { State.reset.mu with weight := p.weight } }

/-- The entry to RUNNING, step by step (R40). -/
theorem State.enterRunning_eq {x : PlanSlot} (hx : s.slot s.governing = some x) (r : Reason) : s.enterRunning r
    = (((((((s.underway s.governing x.plan).emit (.corridorState .running r)).emit (.planTaken s.governing 0)).modAll fun t =>
      { t with jump := true }).emptyRing).takeWeight x.plan).eachStation fun s k => s.leaveFree k .run) := by
  rw [State.enterRunning, hx]
  rfl

/-- The corridor as a schedule plan that is empty or INVALID is rejected after a reset (R24). -/
def State.rejected (s : State) (g : Nat) (reason : PlanReason) (station : Option Nat) : State := { s with
  ps := { s.ps with rejection := some g }
  eq := { records := [s.record (.planRejected g reason station)], overflow := false } }

/-- The first event after a reset. -/
theorem State.emit_first (heq : s.eq = State.reset.eq) (hhli : s.hli = State.reset.hli) (b : EventBody) :
    s.emit b = { s with eq := { records := [s.record b], overflow := false } } := by
  rw [State.emit_of_room (by rw [heq]; decide) (by rw [hhli]; rfl), heq]
  rfl

section
variable (h : s.Fresh)
include h

theorem State.Fresh.governing_eq : s.governing = s.schedulePlan := by rw [State.governing, h.override]; rfl

theorem State.Fresh.mayRun_iff : s.mayRun = true ↔ s.Starts := by
  have hplan : s.planTerm = true ↔ s.planValid s.schedulePlan = true := by
    rw [State.planTerm, h.idle, h.governing_eq]
    by_cases hg : s.schedulePlan = 0
    · simp [hg, State.planValid_zero]
    · simp [hg]
  simp only [State.mayRun, allTerms, List.all_cons, List.all_nil, Bool.and_true, Bool.and_eq_true, State.termHolds, hplan, State.Starts]

theorem State.Fresh.planEvaluation_accepts (hg : s.schedulePlan = 0 ∨ s.planValid s.schedulePlan = true) : s.planEvaluation = s := by
  have hcond : (decide (s.schedulePlan = 0) || s.planValid s.schedulePlan) = true := by simpa using hg
  rw [State.planEvaluation, h.idle, h.governing_eq]
  exact (if_pos hcond).trans (State.clearRejection_of_none h.rejection)

theorem State.Fresh.events_eq (g : Nat) (p : Plan) :
    ((s.underway g p).emit (.corridorState .running .reset)).emit (.planTaken g 0) = s.announced g p := by
  have hfirst := State.emit_first (s := s.underway g p) h.eq h.hli (.corridorState .running .reset)
  have hroom : ((s.underway g p).emit (.corridorState .running .reset)).eq.records.length < Config.eventLimit := by
    rw [hfirst]; show 1 < 32; decide
  have hnotice : ((s.underway g p).emit (.corridorState .running .reset)).hli.notice = false := by
    rw [hfirst]; exact congrArg (·.notice) h.hli
  rw [State.emit_of_room hroom hnotice, hfirst]
  rfl

theorem State.Fresh.enterRunning_eq {x : PlanSlot} (hx : s.slot s.schedulePlan = some x) :
    s.enterRunning .reset = s.started s.schedulePlan x.plan := by
  have hjump : ∀ k : StationIx, ((s.announced s.schedulePlan x.plan).st k).jump = true := h.jump
  have hmu : ((s.announced s.schedulePlan x.plan).emptyRing).takeWeight x.plan = s.started s.schedulePlan x.plan := by
    have : (s.announced s.schedulePlan x.plan).mu = State.reset.mu := h.mu
    rw [State.takeWeight, State.emptyRing, this, State.started]
    rfl
  rw [State.enterRunning_eq (by rw [h.governing_eq]; exact hx), h.governing_eq, h.events_eq, State.modAll_jump hjump, hmu]
  have hlink : ∀ k : StationIx, ((s.started s.schedulePlan x.plan).st k).link = .lost := h.link
  exact List.foldl_fixed' (fun k => State.leaveFree_of_lost (hlink k) _) allStations

theorem State.Fresh.evaluate_starts (hs : s.Starts) :
    ∃ x, s.slot s.schedulePlan = some x ∧ s.evaluate .reset = s.started s.schedulePlan x.plan := by
  obtain ⟨-, -, -, hvalid⟩ := id hs
  obtain ⟨x, hx, -⟩ := State.planValid_iff.1 hvalid
  refine ⟨x, hx, ?_⟩
  rw [State.evaluate, h.planEvaluation_accepts (.inr hvalid), h.idle]
  exact (if_pos (h.mayRun_iff.2 hs)).trans (h.enterRunning_eq hx)

theorem State.Fresh.evaluate_stays (hs : ¬s.Starts) (hg : s.schedulePlan = 0 ∨ s.planValid s.schedulePlan = true) :
    s.evaluate .reset = s := by
  rw [State.evaluate, h.planEvaluation_accepts hg, h.idle]
  exact if_neg (mt h.mayRun_iff.1 hs)

section
variable (hg : s.schedulePlan ≠ 0) (hv : s.planValid s.schedulePlan = false)
include hv

theorem State.Fresh.rejected_mayRun (reason : PlanReason) (station : Option Nat) :
    (s.rejected s.schedulePlan reason station).mayRun = false := by
  have hgoverning : (s.rejected s.schedulePlan reason station).governing = s.schedulePlan := h.governing_eq
  have hvalid : (s.rejected s.schedulePlan reason station).planValid s.schedulePlan = false := hv
  have hidle : (s.rejected s.schedulePlan reason station).ps.corridor = .idle := h.idle
  have hterm : (s.rejected s.schedulePlan reason station).planTerm = false := by
    rw [State.planTerm, hidle, hgoverning, hvalid]
    exact Bool.and_false _
  simp [State.mayRun, allTerms, State.termHolds, hterm]

include hg

/-- A plan that plan evaluation rejects leaves the corridor IDLE (R24, R39). -/
theorem State.Fresh.evaluate_of_reject {reason : PlanReason} {station : Option Nat}
    (hr : s.reject s.schedulePlan = { s.emit (.planRejected s.schedulePlan reason station) with
      ps := { (s.emit (.planRejected s.schedulePlan reason station)).ps with rejection := some s.schedulePlan } }) :
    s.evaluate .reset = s.rejected s.schedulePlan reason station := by
  have hcond : ¬(decide (s.schedulePlan = 0) || s.planValid s.schedulePlan) = true := by simp [hg, hv]
  have hplan : s.planEvaluation = s.rejected s.schedulePlan reason station := by
    rw [State.planEvaluation, h.idle, h.governing_eq]
    refine (if_neg hcond).trans ?_
    rw [hr, State.emit_first h.eq h.hli]
    rfl
  have hidle : (s.rejected s.schedulePlan reason station).ps.corridor = .idle := h.idle
  rw [State.evaluate, hplan, hidle]
  exact if_neg (by rw [h.rejected_mayRun hv]; exact Bool.false_ne_true)

/-- A schedule plan that is empty or INVALID is rejected, for the reason of its first failing item (R24). -/
theorem State.Fresh.evaluate_rejects :
    ∃ reason station, s.evaluate .reset = s.rejected s.schedulePlan reason station
      ∧ (s.slot s.schedulePlan = none → reason = .empty ∧ station = none)
      ∧ ∀ x ∈ s.slot s.schedulePlan, ∀ item ∈ x.verdict.item, reason = item.reason ∧ station = item.station := by
  have hmark : s.ps.rejection ≠ some s.schedulePlan := by rw [h.rejection]; simp
  cases hslot : s.slot s.schedulePlan with
  | none => exact ⟨.empty, none, h.evaluate_of_reject hg hv (by rw [State.reject, if_neg hmark, hslot]), fun _ => ⟨rfl, rfl⟩, nofun⟩
  | some x =>
    cases hverdict : x.verdict with
    | valid => exact absurd (State.planValid_iff.2 ⟨x, hslot, hverdict⟩) (by rw [hv]; exact Bool.false_ne_true)
    | invalid item =>
      have hr : s.reject s.schedulePlan = { s.emit (.planRejected s.schedulePlan item.reason item.station) with
          ps := { (s.emit (.planRejected s.schedulePlan item.reason item.station)).ps with rejection := some s.schedulePlan } } := by
        rw [State.reject, if_neg hmark, hslot]
        dsimp only
        rw [hverdict]
      refine ⟨item.reason, item.station, h.evaluate_of_reject hg hv hr, nofun, fun y hy item' hitem => ?_⟩
      obtain rfl := Option.some.inj hy
      rw [hverdict] at hitem
      obtain rfl := Option.some.inj hitem
      exact ⟨rfl, rfl⟩

end

end

end Sys2Proof.Machine
end

section
/-! SUPPORT. Both resets answered whole (R12, R24, R31, R32, R37, R40, R154, R156, R160). -/

-- One proof at a time: elaborated in parallel, each proof that waits for an earlier one holds a thread and its stack.
set_option Elab.async false

namespace Sys2Proof.Machine

variable {s t : State} {k : StationIx}

/-! ## What the evaluation leaves alone -/

/-- From `s` to `t` nothing but the corridor's running has changed: its state, the active plan, the rejection mark, m, the Measurement
Unit and the events. -/
abbrev State.Evaluated (s t : State) : Prop := t = { s with
  ps := { s.ps with corridor := t.ps.corridor, active := t.ps.active, rejection := t.ps.rejection }
  tb := { s.tb with m := t.tb.m }, mu := t.mu, eq := t.eq }

theorem State.started_evaluated (h : s.ps.staged = none) (g : Nat) (p : Plan) : s.Evaluated (s.started g p) := by
  unfold State.Evaluated
  rw [State.started, State.announced, State.underway, ← h]

namespace State.Evaluated

variable (h : s.Evaluated t)
include h

theorem st (k : StationIx) : t.st k = s.st k := State.st_congr (congrArg (·.stations) h) k

theorem anySource (k : StationIx) : t.anySource k = s.anySource k := by
  have hhl : t.hl = s.hl := congrArg (·.hl) h
  rw [State.anySource_eq, State.anySource_eq, st h, State.incidentActive, State.incidentActive, hhl]

theorem judge (p : Plan) : t.judge p = s.judge p :=
  State.judge_congr_config (congrArg (·.count) h) (fun j => by rw [st h]) p

theorem geometryValid : t.geometryValid = s.geometryValid := by
  have hcount : t.count = s.count := congrArg (·.count) h
  simp only [State.geometryValid, hcount, st h]

theorem tb : t.tb = { s.tb with m := t.tb.m } := congrArg (·.tb) h

theorem hl : t.hl = s.hl := congrArg (·.hl) h

theorem cs : t.cs = s.cs := congrArg (·.cs) h

theorem pending : t.pending = s.pending := congrArg (·.pending) h

theorem slots : t.ps.slots = s.ps.slots := congrArg (·.ps.slots) h

theorem slot (g : Nat) : t.slot g = s.slot g := by rw [State.slot, State.slot, slots h]

theorem planValid (g : Nat) : t.planValid g = s.planValid g := by rw [State.planValid, State.planValid, slot h]

theorem schedulePlan : t.schedulePlan = s.schedulePlan := by
  have hset : t.tb.clockSet = s.tb.clockSet := congrArg (·.tb.clockSet) h
  have hday : t.tb.day = s.tb.day := congrArg (·.tb.day) h
  have htime : t.tb.time = s.tb.time := congrArg (·.tb.time) h
  have htable : t.ps.schedule = s.ps.schedule := congrArg (·.ps.schedule) h
  rw [State.schedulePlan, State.schedulePlan, hset, hday, htime, htable]

theorem starts_iff : t.Starts ↔ s.Starts := by
  have henable : t.ps.enable = s.ps.enable := congrArg (·.ps.enable) h
  have hset : t.tb.clockSet = s.tb.clockSet := congrArg (·.tb.clockSet) h
  rw [State.Starts, State.Starts, henable, hset, geometryValid h, planValid h, schedulePlan h]

end State.Evaluated

theorem State.Fresh.evaluated (h : s.Fresh) : s.Evaluated (s.evaluate .reset) := by
  by_cases hs : s.Starts
  · obtain ⟨x, -, heq⟩ := h.evaluate_starts hs
    rw [heq]
    exact State.started_evaluated h.staged _ _
  · by_cases hg : s.schedulePlan = 0 ∨ s.planValid s.schedulePlan = true
    · rw [h.evaluate_stays hs hg]
    · obtain ⟨hzero, hinvalid⟩ := not_or.1 hg
      obtain ⟨reason, station, heq, -⟩ := h.evaluate_rejects hzero (Bool.not_eq_true _ ▸ hinvalid)
      rw [heq]
      rfl

/-! ## How the corridor stands after a reset (R24, R39, R40) -/

/-- The corridor runs under the schedule plan, with the two events of R40, W_eff and m taken from it. -/
def State.RunsAfresh (t : State) : Prop :=
  t.ps.corridor = .running ∧ t.ps.active = some t.schedulePlan ∧ t.ps.rejection = none
    ∧ (∀ p ∈ t.activePlan, t.tb.m = t.tb.time % p.cycle ∧ t.mu = { State.reset.mu with weight := p.weight })
    ∧ t.eq.records = [t.record (.corridorState .running .reset), t.record (.planTaken t.schedulePlan 0)]

/-- The corridor is IDLE, and a schedule plan that is empty or INVALID is rejected. -/
def State.IdlesAfresh (t : State) : Prop :=
  t.ps.corridor = .idle ∧ t.ps.active = none ∧ t.tb.m = 0 ∧ t.mu = State.reset.mu
    ∧ (t.schedulePlan = 0 ∨ t.planValid t.schedulePlan = true → t.ps.rejection = none ∧ t.eq.records = [])
    ∧ (t.schedulePlan ≠ 0 → t.planValid t.schedulePlan = false → t.ps.rejection = some t.schedulePlan
      ∧ (t.slot t.schedulePlan = none → t.eq.records = [t.record (.planRejected t.schedulePlan .empty none)])
      ∧ ∀ x ∈ t.slot t.schedulePlan, ∀ item ∈ x.verdict.item,
        t.eq.records = [t.record (.planRejected t.schedulePlan item.reason item.station)])

section
variable (h : s.Fresh)
include h

theorem State.Fresh.runsAfresh (hs : s.Starts) : (s.evaluate .reset).RunsAfresh := by
  obtain ⟨x, hx, heq⟩ := h.evaluate_starts hs
  rw [heq]
  refine ⟨rfl, rfl, h.rejection, fun p hp => ?_, rfl⟩
  obtain ⟨g, y, hg, hy, rfl⟩ := State.activePlan_eq_some.1 hp
  obtain rfl := Option.some.inj hg
  obtain rfl := Option.some.inj (hx.symm.trans hy)
  exact ⟨rfl, rfl⟩

theorem State.Fresh.idlesAfresh (hm : s.tb.m = 0) (hs : ¬s.Starts) : (s.evaluate .reset).IdlesAfresh := by
  by_cases hg : s.schedulePlan = 0 ∨ s.planValid s.schedulePlan = true
  · rw [h.evaluate_stays hs hg]
    refine ⟨h.idle, h.active, hm, h.mu, fun _ => ⟨h.rejection, congrArg (·.records) h.eq⟩, fun hzero hinvalid => ?_⟩
    exact absurd (hg.resolve_left hzero) (by rw [hinvalid]; exact Bool.false_ne_true)
  · obtain ⟨hzero, hinvalid⟩ := not_or.1 hg
    obtain ⟨reason, station, heq, hempty, hitem⟩ := h.evaluate_rejects hzero (Bool.not_eq_true _ ▸ hinvalid)
    rw [heq]
    refine ⟨h.idle, h.active, hm, h.mu, fun hg' => absurd hg' hg, fun _ _ => ⟨rfl, fun hnone => ?_, fun x hx item hi => ?_⟩⟩
    · obtain ⟨rfl, rfl⟩ := hempty hnone
      rfl
    · obtain ⟨rfl, rfl⟩ := hitem x hx item hi
      rfl

end

/-! ## The whole state after a reset -/

theorem State.Evaluated.loadedFrom {i : StoredItems} (h : s.Evaluated t) (hi : s.loadedFrom i) : t.loadedFrom i := by
  obtain ⟨hcount, hst, hslots, hschedule, hpolarity, hautostart, henable⟩ := hi
  refine ⟨(congrArg (·.count) h).trans hcount, fun j => ?_, fun g => ?_, (congrArg (·.ps.schedule) h).trans hschedule,
    (congrArg (·.hl.polarity) h).trans hpolarity, (congrArg (·.ps.autostart) h).trans hautostart,
    (congrArg (·.ps.enable) h).trans henable⟩
  · rw [h.st]; exact hst j
  · simp only [h.judge]
    rw [h.slots]; exact hslots g

theorem State.Evaluated.freshStation (h : s.Evaluated t) (hs : s.freshStation k) : t.freshStation k := by
  unfold State.freshStation
  rw [h.anySource, h.st]
  exact hs

/-- What a reset's evaluation finds besides the items: every other part at its reset value, and m at 0 (R160). -/
structure State.Untouched (s : State) : Prop where
  fresh : s.Fresh
  station : ∀ k : StationIx, s.freshStation k
  table : s.table = []
  clc : s.clc = State.reset.clc
  saving : s.cs.saving = none
  minuteDue : s.tb.minuteDue = false
  masterDue : s.tb.masterDue = false
  master : s.tb.m = 0

theorem State.Untouched.overflow (h : s.Untouched) : (s.evaluate .reset).eq.overflow = false := by
  by_cases hs : s.Starts
  · obtain ⟨x, -, heq⟩ := h.fresh.evaluate_starts hs
    rw [heq]; rfl
  · by_cases hg : s.schedulePlan = 0 ∨ s.planValid s.schedulePlan = true
    · rw [h.fresh.evaluate_stays hs hg, h.fresh.eq]; rfl
    · obtain ⟨hzero, hinvalid⟩ := not_or.1 hg
      obtain ⟨reason, station, heq, -⟩ := h.fresh.evaluate_rejects hzero (Bool.not_eq_true _ ▸ hinvalid)
      rw [heq]; rfl

theorem State.Untouched.freshParts (h : s.Untouched) : (s.evaluate .reset).freshParts := by
  have he := h.fresh.evaluated
  refine ⟨fun k => he.freshStation (h.station k), (congrArg (·.table) he).trans h.table, (congrArg (·.clc) he).trans h.clc,
    (congrArg (·.hli) he).trans h.fresh.hli, (congrArg (·.cs.saving) he).trans h.saving,
    (congrArg (·.tb.minuteDue) he).trans h.minuteDue, (congrArg (·.tb.masterDue) he).trans h.masterDue, h.overflow,
    (congrArg (·.ps.staged) he).trans h.fresh.staged, (congrArg (·.ps.override) he).trans h.fresh.override, ?_⟩
  by_cases hs : s.Starts
  · exact (if_pos (he.starts_iff.2 hs)).mpr (h.fresh.runsAfresh hs)
  · exact (if_neg (mt he.starts_iff.1 hs)).mpr (h.fresh.idlesAfresh h.master hs)

section
variable {image : Image} {tb : TimeBase} {level : Bool}

theorem State.readied_loadedFrom (s : State) (image : Image) (tb : TimeBase) (level : Bool) :
    (s.readied image tb level).loadedFrom image.loaded := by
  have hq := s.readied_eq (image := image) (tb := tb) (level := level)
  refine ⟨congrArg (·.count) hq, fun j => ?_, fun g => State.readied_slots g, congrArg (·.ps.schedule) hq,
    congrArg (·.hl.polarity) hq, congrArg (·.ps.autostart) hq, congrArg (·.ps.enable) hq⟩
  rw [State.readied_st]
  exact ⟨rfl, rfl, rfl, rfl⟩

theorem State.readied_untouched (s : State) (image : Image) {tb : TimeBase} (level : Bool) (hminute : tb.minuteDue = false)
    (hmaster : tb.masterDue = false) (hm : tb.m = 0) : (s.readied image tb level).Untouched := by
  have hq := s.readied_eq (image := image) (tb := tb) (level := level)
  refine ⟨State.readied_fresh image tb level, fun k => ?_, congrArg (·.table) hq, congrArg (·.clc) hq, congrArg (·.cs.saving) hq,
    (congrArg (·.tb.minuteDue) hq).trans hminute, (congrArg (·.tb.masterDue) hq).trans hmaster, (congrArg (·.tb.m) hq).trans hm⟩
  unfold State.freshStation
  rw [State.readied_st]

theorem State.afterReset_parts (s : State) (image : Image) {tb : TimeBase} (level : Bool) (hminute : tb.minuteDue = false)
    (hmaster : tb.masterDue = false) (hm : tb.m = 0) :
    (s.afterReset image tb level).loadedFrom image.loaded ∧ (s.afterReset image tb level).freshParts := by
  have hready := s.readied_untouched image level hminute hmaster hm
  rw [State.afterReset_eq]
  exact ⟨hready.fresh.evaluated.loadedFrom (s.readied_loadedFrom image tb level), hready.freshParts⟩

theorem State.afterReset_evaluated (s : State) (image : Image) (tb : TimeBase) (level : Bool) :
    (s.readied image tb level).Evaluated (s.afterReset image tb level) := by
  rw [State.afterReset_eq]
  exact (State.readied_fresh image tb level).evaluated

/-- What a reset carries over besides the items: the clock it is given, the INCIDENT level, the image and the queue of commands. -/
theorem State.afterReset_carried (s : State) (image : Image) (tb : TimeBase) (level : Bool) :
    (s.afterReset image tb level).tb = { tb with m := (s.afterReset image tb level).tb.m }
      ∧ (s.afterReset image tb level).hl.level = level ∧ (s.afterReset image tb level).cs.image = image
      ∧ (s.afterReset image tb level).pending = s.pending := by
  have h := s.afterReset_evaluated image tb level
  have hq := s.readied_eq (image := image) (tb := tb) (level := level)
  have htb : (s.readied image tb level).tb = tb := congrArg (·.tb) hq
  have hhl : (s.readied image tb level).hl = { polarity := image.loaded.polarity, level } := congrArg (·.hl) hq
  have hcs : (s.readied image tb level).cs = { image, saving := none } := congrArg (·.cs) hq
  have hpending : (s.readied image tb level).pending = s.pending := congrArg (·.pending) hq
  refine ⟨?_, ?_, ?_, ?_⟩
  · exact h.tb.trans (by rw [htb])
  · rw [h.hl, hhl]
  · rw [h.cs, hcs]
  · rw [h.pending, hpending]

/-- With the clock not set the corridor stays IDLE after a reset, under no schedule plan (R30, R31, R39). -/
theorem State.afterReset_unset (s : State) (image : Image) {tb : TimeBase} (level : Bool) (hset : tb.clockSet = false) :
    s.afterReset image tb level = s.readied image tb level := by
  have hunset : (s.readied image tb level).tb.clockSet = false :=
    (congrArg (·.tb.clockSet) (s.readied_eq (image := image) (tb := tb) (level := level))).trans hset
  have hzero : (s.readied image tb level).schedulePlan = 0 := by
    rw [State.schedulePlan, hunset]; rfl
  have hstays : ¬(s.readied image tb level).Starts := fun ⟨_, hclock, _⟩ => by rw [hunset] at hclock; cases hclock
  rw [State.afterReset_eq]
  exact (State.readied_fresh image tb level).evaluate_stays hstays (.inl hzero)

/-- Power-on leaves the plan store, the Measurement Unit and the events at their reset values but for the items (R160). -/
theorem State.readied_rest (s : State) (image : Image) (tb : TimeBase) (level : Bool) :
    (s.readied image tb level).ps = { State.reset.ps with
        slots := (s.readied image tb level).ps.slots, schedule := (s.readied image tb level).ps.schedule
        enable := (s.readied image tb level).ps.enable, autostart := (s.readied image tb level).ps.autostart }
      ∧ (s.readied image tb level).mu = State.reset.mu ∧ (s.readied image tb level).eq = State.reset.eq
      ∧ (s.readied image tb level).tb = tb := by
  have hq := s.readied_eq (image := image) (tb := tb) (level := level)
  have hschedule : (s.readied image tb level).ps.schedule = image.loaded.schedule := congrArg (·.ps.schedule) hq
  have henable : (s.readied image tb level).ps.enable = image.loaded.autostart := congrArg (·.ps.enable) hq
  have hautostart : (s.readied image tb level).ps.autostart = image.loaded.autostart := congrArg (·.ps.autostart) hq
  exact ⟨(congrArg (·.ps) hq).trans (by rw [hschedule, henable, hautostart]), congrArg (·.mu) hq, congrArg (·.eq) hq, congrArg (·.tb) hq⟩

end

/-! ## The rows -/

theorem exec_powerOnReset {level : Bool} (hb : s.busy = false) :
    exec (.powerOnReset level) s = .next (s.afterReset s.cs.image State.reset.tb level) := by
  have himage : s.imageAtPowerLoss = s.cs.image := by rw [State.imageAtPowerLoss, hb]; rfl
  rw [← himage]
  rfl

theorem exec_resetCarriedOut_due {level : Bool} (hd : s.resetDue = true) :
    exec (.resetCarriedOut level) s = .next (s.afterReset s.cs.image s.tb.afterRequest level) := if_pos hd

theorem exec_resetCarriedOut_early {level : Bool} (hd : s.resetDue = false) : exec (.resetCarriedOut level) s = .next s :=
  if_neg (by rw [hd]; exact Bool.false_ne_true)

end Sys2Proof.Machine

open Sys2Proof Sys2Proof.Machine

/-- Settles O12: a reset hands its items over to a state at its reset values, and the evaluation that ends it has three outcomes: the
corridor starts, it stays IDLE, or it rejects its schedule plan. -/
theorem resetsLoadAGoodImage : Obligations.ResetsLoadAGoodImage := by
  refine ⟨fun s level hb hpass => ⟨_, exec_powerOnReset hb, ?_⟩, fun s level hemptied hover => ⟨_, exec_resetCarriedOut_due ?due, ?_⟩,
    fun s level h => exec_resetCarriedOut_early ?early⟩
  case due => rw [State.resetDue, hemptied, hover]; rfl
  case early => obtain h | h := h <;> simp [State.resetDue, h]
  · have hitems : s.cs.image.loaded = s.cs.image.items := if_pos hpass
    obtain ⟨hloaded, hfresh⟩ := s.afterReset_parts s.cs.image (tb := State.reset.tb) level rfl rfl rfl
    obtain ⟨-, hlevel, himage, hpending⟩ := s.afterReset_carried s.cs.image State.reset.tb level
    obtain ⟨hps, hmu, hevents, htb⟩ := s.readied_rest s.cs.image State.reset.tb level
    rw [← s.afterReset_unset s.cs.image level rfl] at hps hmu hevents htb
    exact ⟨hitems ▸ hloaded, hfresh, htb, hlevel, himage, hpending, hps, hmu, hevents⟩
  · obtain ⟨hloaded, hfresh⟩ := s.afterReset_parts s.cs.image (tb := s.tb.afterRequest) level rfl rfl rfl
    obtain ⟨htb, hlevel, himage, hpending⟩ := s.afterReset_carried s.cs.image s.tb.afterRequest level
    exact ⟨hloaded, hfresh, congrArg (·.tick) htb, congrArg (·.time) htb, congrArg (·.day) htb, congrArg (·.clockSet) htb, hlevel, himage,
      hpending⟩
end

section
/-! SUPPORT. What the actions on stations, requests and the corridor link leave of the Plan Store, of the coordination states outside
RUNNING, and of the waiting RELEASE orders (R20, R43, R46, R51). -/

-- One proof at a time: elaborated in parallel, each proof that waits for an earlier one holds a thread and its stack.
set_option Elab.async false

namespace Sys2Proof.Machine

/-! ## Station records -/

/-- The station's RELEASE, if it has one waiting (Table 7-1). -/
def Station.waitingRelease (t : Station) : Option WaitingOrder := t.order.filter (·.release)

theorem Station.waitingRelease_of_cycle {t : Station} {o : WaitingOrder} (h : t.order = some o) (ho : o.release = false) :
    t.waitingRelease = none := by
  simp [Station.waitingRelease, h, ho]

theorem WaitingOrder.release_of_body {o : WaitingOrder} {b : OrderBody} (h : o.body = some b) : o.release = false := by
  rw [WaitingOrder.release, h]; rfl

/-- A station keeps the corridor law while the corridor's state is `c` (R43, R46, R51). -/
structure Station.Accords (c : CorridorState) (t : Station) : Prop where
  idle : c = .idle → t.coord = .free
  stopping : c = .stopping → t.coord ≠ .free → t.waitingRelease ≠ none
  synced : t.synced = true → t.coordinated = true

/-- From the record `a` to the record `b` of a station in a corridor of state `c`: outside RUNNING the coordination state stands, and so
does a waiting RELEASE, or its absence; the station is not newly synchronised without being coordinated. -/
structure Station.Stays (c : CorridorState) (a b : Station) : Prop where
  coord : c ≠ .running → b.coord = a.coord
  release : c ≠ .running → b.waitingRelease = a.waitingRelease
  synced : (a.synced = true → a.coordinated = true) → b.synced = true → b.coordinated = true

namespace Station.Stays

variable {c : CorridorState} {a b d : Station}

theorem refl (a : Station) : a.Stays c a := ⟨fun _ => rfl, fun _ => rfl, id⟩

theorem trans (h : a.Stays c b) (h' : b.Stays c d) : a.Stays c d where
  coord hc := (h'.coord hc).trans (h.coord hc)
  release hc := (h'.release hc).trans (h.release hc)
  synced hs := h'.synced (h.synced hs)

/-- A record whose coordination state, synchronised flag and order stand. -/
theorem of_same (coord : b.coord = a.coord := by rfl) (synced : b.synced = a.synced := by rfl)
    (order : b.order = a.order := by rfl) : a.Stays c b where
  coord _ := coord
  release _ := by rw [Station.waitingRelease, order, Station.waitingRelease]
  synced h := by simpa [Station.coordinated, coord, synced] using h

/-- A record whose order alone changes, from one that is no RELEASE, or its fold or absence. -/
theorem of_order (release : b.waitingRelease = a.waitingRelease) (coord : b.coord = a.coord := by rfl)
    (synced : b.synced = a.synced := by rfl) : a.Stays c b where
  coord _ := coord
  release _ := release
  synced h := by simpa [Station.coordinated, coord, synced] using h

/-- A record that changes while RUNNING. -/
theorem of_running (hc : c = .running) (synced : (a.synced = true → a.coordinated = true) → b.synced = true → b.coordinated = true) :
    a.Stays c b := ⟨fun h => absurd hc h, fun h => absurd hc h, synced⟩

theorem accords (h : a.Stays c b) (ha : a.Accords c) : b.Accords c where
  idle hc := (h.coord (by rw [hc]; decide)).trans (ha.idle hc)
  stopping hc hb := by
    have hne : c ≠ .running := by rw [hc]; decide
    rw [h.release hne]
    exact ha.stopping hc (by rwa [h.coord hne] at hb)
  synced := h.synced ha.synced

end Station.Stays

theorem State.releaseOut_iff (s : State) (k : StationIx) : s.releaseOut k = true ↔ (s.st k).waitingRelease ≠ none := by
  unfold State.releaseOut Station.waitingRelease
  cases (s.st k).order <;> simp [Option.filter]

/-! ## States -/

/-- From `s` to `t` the Plan Store, the geometry and m stand, and every station's record stays. -/
structure Stays (s t : State) : Prop where
  count : t.count = s.count := by simp
  ps : t.ps = s.ps := by simp
  master : t.tb.m = s.tb.m := by simp
  config : ∀ k : StationIx, (t.st k).config = (s.st k).config
  station : ∀ k : StationIx, (s.st k).Stays s.ps.corridor (t.st k)

namespace Stays

variable {s t u : State}

theorem trans (h : Stays s t) (h' : Stays t u) : Stays s u where
  count := h'.count.trans h.count
  ps := h'.ps.trans h.ps
  master := h'.master.trans h.master
  config k := (h'.config k).trans (h.config k)
  station k := (h.station k).trans (h.ps ▸ h'.station k)

/-- The station records stand. -/
theorem of_stations (stations : t.stations = s.stations := by simp) (count : t.count = s.count := by simp)
    (ps : t.ps = s.ps := by simp) (master : t.tb.m = s.tb.m := by simp) : Stays s t where
  count := count
  ps := ps
  master := master
  config k := by rw [State.st_congr stations]
  station k := by rw [State.st_congr stations]; exact .refl _

theorem refl (s : State) : Stays s s := of_stations

theorem foldl {α : Type} {f : State → α → State} (hf : ∀ s a, Stays s (f s a)) (l : List α) (s : State) :
    Stays s (l.foldl f s) := by
  induction l generalizing s with
  | nil => exact .refl s
  | cons a l ih => exact (hf s a).trans (ih _)

theorem modSt {k : StationIx} {f : Station → Station} (h : (s.st k).Stays s.ps.corridor (f (s.st k)))
    (config : (f (s.st k)).config = (s.st k).config := by rfl) : Stays s (s.modSt k f) where
  config j := by
    rw [State.st_modSt]
    split
    · next hj => subst hj; exact config
    · rfl
  station j := by
    rw [State.st_modSt]
    split
    · next hj => subst hj; exact h
    · exact .refl _

/-- One station's record changes while RUNNING, and the others stand. -/
theorem of_station (k : StationIx) (hs : ∀ j : StationIx, j ≠ k → t.st j = s.st j)
    (hk : (s.st k).Stays s.ps.corridor (t.st k)) (config : (t.st k).config = (s.st k).config) (count : t.count = s.count := by simp)
    (ps : t.ps = s.ps := by simp) (master : t.tb.m = s.tb.m := by simp) : Stays s t where
  count := count
  ps := ps
  master := master
  config j := by
    by_cases hj : j = k
    · subst hj; exact config
    · rw [hs j hj]
  station j := by
    by_cases hj : j = k
    · subst hj; exact hk
    · rw [hs j hj]; exact .refl _

theorem of_aside {kept : Prop} (h : Aside kept s t) (hs : SameOrders s t) : Stays s t where
  count := show t.core.count = s.core.count from congrArg State.count h.core
  ps := h.ps
  master := show t.core.tb.m = s.core.tb.m from congrArg (·.tb.m) h.core
  config k := h.field (·.config) (fun _ => rfl) k
  station k := by
    obtain ⟨hcoord, hsynced, horder⟩ := hs k
    exact .of_same hcoord hsynced horder

end Stays

variable (s : State)

theorem State.emit_stays (b : EventBody) : Stays s (s.emit b) := .of_stations
theorem State.modEntry_stays (i : SlotIx) (f : Entry → Entry) : Stays s (s.modEntry i f) := .of_stations
theorem State.dropUrgent_stays (p : UrgentFrame → Bool) : Stays s (s.dropUrgent p) := .of_stations
theorem State.placeUrgent_stays (k : StationIx) (x : UrgentKind) : Stays s (s.placeUrgent k x) := .of_stations
theorem State.modModel_stays (k : StationIx) (f : CycleModel → CycleModel) : Stays s (s.modModel k f) := .modSt .of_same
theorem State.setLockout_stays (k : StationIx) (n : Nat) : Stays s (s.setLockout k n) := .modSt .of_same
theorem State.eachStation_stays {f : State → StationIx → State} (hf : ∀ s k, Stays s (f s k)) : Stays s (s.eachStation f) :=
  .foldl hf _ s

theorem State.addEntry_stays (mk : SlotIx → Entry) : Stays s (s.addEntry mk) := by
  obtain ⟨i, -, -, h⟩ | h := State.addEntry_cases s mk <;> rw [h]
  · exact .of_stations
  · exact .refl s

/-! ## Grants -/

theorem State.grantEntry_stays (e : Entry) (g : GrantKind) (b : Bool) : Stays s (s.grantEntry e g b) :=
  (s.modEntry_stays _ _).trans (State.emit_stays _ _)

theorem State.evaluateTransit_stays (k : StationIx) : Stays s (s.evaluateTransit k) :=
  .of_aside (s.evaluateTransit_aside (kept := True) k) (s.evaluateTransit_sameOrders k)

theorem State.withdrawGrant_stays (i : SlotIx) : Stays s (s.withdrawGrant i) :=
  .of_aside (s.withdrawGrant_aside (kept := True) i) (s.withdrawGrant_sameOrders i)

theorem State.foldLost_stays (f : Option Fold) : Stays s (s.foldLost f) := by
  cases f
  · exact .refl s
  · exact s.withdrawGrant_stays _

theorem State.foldDelivered_stays (f : Option Fold) : Stays s (s.foldDelivered f) := by
  cases f
  · exact .refl s
  · exact s.modEntry_stays _ _

theorem State.foldFirst_stays (k : StationIx) (p : Plan) (z : Tick) (ivs : List Nat) (l : List Entry) :
    Stays s (s.foldFirst k p z ivs l).1 := by
  induction l with
  | nil => exact .refl s
  | cons e es ih =>
    unfold State.foldFirst
    dsimp only
    split
    · exact s.grantEntry_stays _ _ _
    · exact ih
    · split
      · exact .refl s
      · exact (s.setLockout_stays _ _).trans (State.grantEntry_stays _ _ _ _)

theorem State.offerFold_stays (k : StationIx) (p : Plan) (z : Tick) (ivs : List Nat) : Stays s (s.offerFold k p z ivs).1 := by
  unfold State.offerFold
  split
  · exact s.foldFirst_stays _ _ _ _ _
  · exact .refl s

theorem State.refold_stays (k : StationIx) (p : Plan) (z : Tick) (ivs : List Nat) (f : Fold) : Stays s (s.refold k p z ivs f).1 := by
  unfold State.refold
  split
  · exact .refl s
  · dsimp only
    split
    · exact s.withdrawGrant_stays _
    · split
      · exact s.modEntry_stays _ _
      · exact (s.modEntry_stays _ _).trans (State.setLockout_stays _ _ _)

theorem State.refolded_stays (k : StationIx) (p : Plan) (z : Tick) (ivs : List Nat) (f : Option Fold) :
    Stays s (s.refolded k p z ivs f).1 := by
  cases f
  · exact s.offerFold_stays k p z ivs
  · exact s.refold_stays k p z ivs _

/-! ## Coordination states and holds -/

/-- The loss of a waiting cycle order takes no RELEASE (R106). -/
@[simp] theorem Station.withoutCycleOrder_waitingRelease (t : Station) : t.withoutCycleOrder.waitingRelease = t.waitingRelease := by
  unfold Station.withoutCycleOrder
  split
  · next h =>
    obtain ⟨b, hb⟩ := Option.isSome_iff_exists.1 h
    obtain ⟨o, ho, hbody⟩ := Option.bind_eq_some_iff.1 hb
    rw [Station.waitingRelease_of_cycle ho (WaitingOrder.release_of_body hbody)]; rfl
  · rfl

theorem State.withdrawOrder_stays (k : StationIx) : Stays s (s.withdrawOrder k) := by
  rw [State.withdrawOrder_eq]
  refine (Stays.modSt (.of_order (by simp) ?_ ?_) ?_).trans (State.foldLost_stays _ _) <;> rw [Station.withoutCycleOrder_eq]

theorem State.clearRevise_stays (k : StationIx) : Stays s (s.clearRevise k) :=
  (Stays.modSt .of_same).trans (State.dropUrgent_stays _ _)

theorem State.withdrawRevise_stays (k : StationIx) : Stays s (s.withdrawRevise k) := by
  unfold State.withdrawRevise
  split
  · exact (s.clearRevise_stays k).trans (State.withdrawGrant_stays _ _)
  · exact .refl s

@[simp] theorem State.setCoord_count (k : StationIx) (c : Coord) (x : StateCause) : (s.setCoord k c x).count = s.count :=
  (s.setCoord_frame k c x).count

@[simp] theorem State.setCoord_master (k : StationIx) (c : Coord) (x : StateCause) : (s.setCoord k c x).tb.m = s.tb.m :=
  (s.setCoord_frame k c x).master

@[simp] theorem State.setCoord_ps (k : StationIx) (c : Coord) (x : StateCause) : (s.setCoord k c x).ps = s.ps :=
  (s.setCoord_aside (kept := True) k c x).ps

/-- While RUNNING a station takes a coordination state that its synchronised flag allows. -/
theorem State.setCoord_stays {k : StationIx} {c : Coord} (x : StateCause) (hr : s.ps.corridor = .running)
    (hc : (s.st k).synced = true → { s.st k with coord := c }.coordinated = true) : Stays s (s.setCoord k c x) := by
  refine .of_station k (fun j hj => by rw [State.setCoord_st, if_neg hj]) ?_ (by rw [State.setCoord_st, if_pos rfl])
  rw [State.setCoord_st, if_pos rfl]
  exact .of_running hr fun _ => hc

theorem State.leaveFree_stays (k : StationIx) (x : StateCause) : Stays s (s.leaveFree k x) := by
  unfold State.leaveFree
  dsimp only
  split
  · next h =>
    simp only [Bool.and_eq_true, decide_eq_true_eq] at h
    have hunsynced : Stays s (s.modSt k fun t => { t.unsynced with jump := true }) :=
      .modSt (.of_running h.1.1 fun _ h => by cases h)
    exact hunsynced.trans (State.setCoord_stays _ x h.1.1 fun h => by rw [State.st_modSt_same] at h; cases h)
  · exact .refl s

theorem State.holdChanged_stays (k : StationIx) : Stays s (s.holdChanged k) := by
  unfold State.holdChanged
  dsimp only
  split
  · next h =>
    simp only [Bool.and_eq_true, decide_eq_true_eq] at h
    obtain ⟨hr, -⟩ := h
    split
    · split
      · have hheld : Stays s ((s.setCoord k .held .hold).modSt k (·.unsynced)) := by
          refine .of_station k (fun j hj => ?_) (.of_running hr fun _ h => ?_) ?_
          · rw [State.st_modSt_ne _ hj, State.setCoord_st, if_neg hj]
          · rw [State.st_modSt_same] at h; cases h
          · rw [State.st_modSt_same, State.setCoord_st, if_pos rfl]; rfl
        exact (hheld.trans (State.withdrawOrder_stays _ k)).trans (State.withdrawRevise_stays _ k)
      · exact .refl s
    · split
      · have hunsynced : Stays s (s.modSt k fun t => { t with synced := false, jump := true }) :=
          .modSt (.of_running hr fun _ h => by cases h)
        exact hunsynced.trans (State.setCoord_stays _ _ hr fun h => by rw [State.st_modSt_same] at h; cases h)
      · exact .refl s
  · exact .refl s

theorem State.rehold_stays (k : StationIx) : Stays s (s.rehold k) := by
  unfold State.rehold
  dsimp only
  split
  · exact .refl s
  · exact (Stays.modSt .of_same).trans (State.holdChanged_stays _ _)

theorem State.reholdAll_stays : Stays s s.reholdAll := s.eachStation_stays fun s k => s.rehold_stays k

/-! ## Departures and emergencies -/

theorem State.letGo_stays (e : Entry) : Stays s (s.letGo e) := by
  have hfold (s : State) (k : StationIx) : Stays s (s.modSt k fun t =>
      { t with order := t.order.map fun o => { o with body := o.body.map (·.dropFold e.slot) } }) := by
    refine .modSt (.of_order ?_)
    unfold Station.waitingRelease WaitingOrder.release
    cases (s.st k).order with
    | none => rfl
    | some o => obtain ⟨n, _ | b, d, p⟩ := o <;> rfl
  unfold State.letGo
  split
  · dsimp only
    split
    · exact (s.clearRevise_stays _).trans (hfold _ _)
    · exact hfold _ _
  · exact .refl s

theorem State.leave_stays (e : Entry) (o : ReqOutcome) : Stays s (s.leave e o) := by
  have hgone : Stays s ((s.emit (.requestEnd e.station o e.grant e.tag)).letGo e) :=
    (s.emit_stays _).trans (State.letGo_stays _ _)
  have hremoved (u : State) : Stays u (u.removeEntry e.slot) := .of_stations
  unfold State.leave
  dsimp only
  split
  · exact (hgone.trans (State.dropUrgent_stays _ _)).trans (hremoved _)
  · exact hgone.trans (hremoved _)

theorem State.routeEnded_stays (k : StationIx) : Stays s (s.routeEnded k) :=
  (Stays.modSt .of_same).trans (State.rehold_stays _ _)

theorem State.endEntry_stays (e : Entry) (o : ReqOutcome) : Stays s (s.endEntry e o) := by
  unfold State.endEntry
  dsimp only
  split
  · exact (s.leave_stays e o).trans (State.routeEnded_stays _ _)
  · exact s.leave_stays e o

theorem State.supersede_stays (k : StationIx) : Stays s (s.supersede k) := by
  unfold State.supersede
  split
  · exact s.endEntry_stays _ _
  · exact .refl s

theorem State.post_stays (e : Entry) : Stays s (s.post e) := (s.placeUrgent_stays _ _).trans (State.modEntry_stays _ _ _)

theorem State.unpost_stays (e : Entry) : Stays s (s.unpost e) := (s.dropUrgent_stays _).trans (State.modEntry_stays _ _ _)

theorem State.activateEmergency_stays (e : Entry) : Stays s (s.activateEmergency e) :=
  (s.supersede_stays _).trans (State.modEntry_stays _ _ _)

theorem State.takeUp?_stays {k : StationIx} {t : State} (h : s.takeUp? k = some t) : Stays s t := by
  unfold State.takeUp? at h
  split at h
  · split at h
    · cases h
    · split at h
      · cases h; exact s.activateEmergency_stays _
      · split at h
        · cases h; exact s.post_stays _
        · cases h
  · cases h

theorem State.takeUp_stays (k : StationIx) : Stays s (s.takeUp k) := by
  unfold State.takeUp
  cases h : s.takeUp? k with
  | none => exact .refl s
  | some t => exact s.takeUp?_stays h

theorem State.resume_stays (k : StationIx) (a b : Bool) : Stays s (s.resume k a b) := by
  unfold State.resume
  split
  · split
    · next h => exact s.takeUp?_stays h
    · exact s.evaluateTransit_stays k
  · split
    · exact s.takeUp_stays k
    · exact .refl s

theorem State.leaveSlot_stays (i : SlotIx) (o : ReqOutcome) : Stays s (s.leaveSlot i o) := by
  unfold State.leaveSlot
  split
  · exact s.leave_stays _ _
  · exact .refl s

theorem State.depart_stays (i : SlotIx) (o : ReqOutcome) : Stays s (s.depart i o) := by
  unfold State.depart
  split
  · exact (s.endEntry_stays _ _).trans (State.resume_stays _ _ _ _)
  · exact .refl s

theorem State.departAll_stays (p : Entry → Bool) (o : ReqOutcome) : Stays s (s.departAll p o) := by
  have hleft (l : List SlotIx) : Stays s (l.foldl (fun s i => s.leaveSlot i o) s) := .foldl (fun s i => s.leaveSlot_stays i o) l s
  refine ((hleft _).trans (State.eachStation_stays _ fun s k => ?_)).trans (State.eachStation_stays _ fun s k => s.resume_stays _ _ _)
  split
  · exact s.routeEnded_stays k
  · exact .refl s

theorem State.displace_stays (n : Nat) : Stays s (s.displace n) := .foldl (fun s i => s.depart_stays i _) _ s

end Sys2Proof.Machine
end

section
/-! SUPPORT. What the cycles of the stations and the slots of the corridor link leave of the Plan Store, of the coordination states
outside RUNNING, and of the waiting RELEASE orders (R83 to R88, R96 to R107, R112, R116 to R129, R133 to R143). -/

-- One proof at a time: elaborated in parallel, each proof that waits for an earlier one holds a thread and its stack.
set_option Elab.async false

namespace Sys2Proof.Machine

variable (s : State)

/-! ## Local zeros and order points (R78, R79, R84, R85, R101) -/

theorem State.tidalEvaluation_stays : Stays s s.tidalEvaluation := by
  unfold State.tidalEvaluation
  dsimp only
  split
  · exact .refl s
  · split
    · exact Stays.trans (.of_stations (t := { s with mu := _ })) (State.emit_stays _ _)
    · exact .refl s

theorem State.tidalZero_stays : Stays s s.tidalZero := by
  unfold State.tidalZero
  dsimp only
  split
  · exact Stays.trans (.of_stations (t := { s with mu := _ })) (State.tidalEvaluation_stays _)
  · exact .of_stations

theorem State.handOn_stays (k : StationIx) : Stays s (s.handOn k) := by
  have hage : Stays s (s.modSt k fun t => { t with age := min Config.sampleLife (t.age + 1) }) := .modSt .of_same
  have hend (u : State) : Stays u ((u.modSt k fun t => { t with lockout := t.lockout - 1 }).evaluateTransit k) :=
    Stays.trans (.modSt .of_same) (State.evaluateTransit_stays _ _)
  unfold State.handOn
  dsimp only
  split
  · exact (hage.trans (State.tidalZero_stays _)).trans (hend _)
  · exact hage.trans (hend _)

theorem State.takeZero_stays (k : StationIx) (m : CycleModel) (n : Byte) (t : Tick) : Stays s (s.takeZero k m n t) := by
  have hmodel : Stays s (s.modSt k fun x => { x with model := some (m.zero n t) }) := .modSt .of_same
  unfold State.takeZero
  dsimp only
  split
  · exact hmodel
  · exact hmodel.trans (State.handOn_stays _ _)

theorem State.modSt_enterMins_stays (k : StationIx) : Stays s (s.modSt k (·.enterMins)) := by
  refine .modSt (.of_same ?_ ?_ ?_) (by simp) <;> rw [Station.enterMins_eq]

theorem State.buildOrder_stays (k : StationIx) (plan : Nat) (p : Plan) (number : Byte) (zero : Tick)
    (hr : s.ps.corridor = .running) : Stays s (s.buildOrder k plan p number zero) := by
  have haimed : Stays s (s.aimed k p) := by
    unfold State.aimed State.moveTarget
    exact (s.modSt_enterMins_stays k).trans (.modSt .of_same)
  have hproject (u : State) (d : Nat) (tr : Transition) (hu : u.ps.corridor = .running) : Stays u (u.project k p d tr) := by
    refine Stays.trans (.modSt .of_same) (State.setCoord_stays _ _ hu fun _ => ?_)
    split <;> rfl
  obtain ⟨d, target, h⟩ := s.buildOrder_eq k plan p number zero
  rw [h]
  have hprojected := haimed.trans (hproject _ d (transition p k ((s.aimed k p).st k).minsInForce d) (by rw [haimed.ps]; exact hr))
  have hfolded := hprojected.trans
    (State.offerFold_stays _ k p zero (transition p k ((s.aimed k p).st k).minsInForce d).intervals)
  exact hfolded.trans (.modSt (.of_running (by rw [hfolded.ps]; exact hr) id))

theorem State.raiseOrderPoint_stays (k : StationIx) (n : Byte) (z : Tick) : Stays s (s.raiseOrderPoint k n z) := by
  unfold State.raiseOrderPoint
  split
  · next h =>
    simp only [Bool.and_eq_true, decide_eq_true_eq] at h
    split
    · exact s.buildOrder_stays k _ _ n z h.1
    · exact .refl s
  · exact s.modSt_enterMins_stays k

/-! ## Orders and models after a resynchronisation (R83, R96 to R98, R107, R112) -/

/-- A station's order is changed or ends where it is a cycle order, and is none that is a RELEASE afterwards. -/
theorem State.modSt_cycleOrder_stays {k : StationIx} {o : Option WaitingOrder} (h : (s.st k).waitingRelease = none)
    (ho : o.filter (·.release) = none) : Stays s (s.modSt k fun t => { t with order := o }) := .modSt (.of_order (ho.trans h.symm))

theorem State.rebuildOrder_stays {k : StationIx} {o : WaitingOrder} {b : OrderBody} (p : Plan) (z : Tick)
    (h : (s.st k).waitingRelease = none) : Stays s (s.rebuildOrder k o b p z) := by
  obtain ⟨d, heq⟩ := s.rebuildOrder_eq k o b p z
  rw [heq]
  have hnoted (c : Option Correction) : Stays s (s.modSt k fun t => { t with lastError := some d, correction := c }) := .modSt .of_same
  have hrefolded := State.refolded_stays (s.modSt k fun t => { t with
    lastError := some d, correction := some (transition p k (s.st k).minsInForce d).correction }) k p z
    (transition p k (s.st k).minsInForce d).intervals b.fold
  have hsame := State.refolded_sameOrders (s.modSt k fun t => { t with
    lastError := some d, correction := some (transition p k (s.st k).minsInForce d).correction }) k p z
    (transition p k (s.st k).minsInForce d).intervals b.fold k
  refine ((hnoted _).trans hrefolded).trans (State.modSt_cycleOrder_stays _ ?_ rfl)
  rw [Station.waitingRelease, hsame.2.2, State.st_modSt_same]
  exact h

theorem State.orderAfterResync_stays (k : StationIx) : Stays s (s.orderAfterResync k) := by
  unfold State.orderAfterResync
  dsimp only
  split
  · next o m ho hm =>
    split
    · exact .refl s
    · next b hb =>
      have hcycle : (s.st k).waitingRelease = none := Station.waitingRelease_of_cycle ho (WaitingOrder.release_of_body hb)
      have hlate (n : Byte) (c : LateCause) (f : Option Fold) :
          Stays s (((s.modSt k fun t => { t with order := none }).emit (.orderLate k n c)).foldLost f) :=
        ((s.modSt_cycleOrder_stays hcycle rfl).trans (State.emit_stays _ _)).trans (State.foldLost_stays _ _)
      split
      · exact hlate _ _ _
      · split
        · exact .refl s
        · split
          · exact hlate _ _ _
          · split
            · exact s.modSt_cycleOrder_stays hcycle (by simp [WaitingOrder.release, hb])
            · split
              · exact s.rebuildOrder_stays _ _ hcycle
              · exact .refl s
  · exact .refl s

theorem State.reviseAfterResync_stays (k : StationIx) : Stays s (s.reviseAfterResync k) := by
  unfold State.reviseAfterResync
  dsimp only
  split
  · split
    · exact s.withdrawRevise_stays k
    · exact .modSt .of_same
  · exact .refl s

/-- The synchronising reply of a SEEKING station sets its flag (R51). -/
theorem Station.Stays.of_synchronised {c : CorridorState} {a b : Station} (synced : b.synced = (a.synced || a.coord = .seeking))
    (coord : b.coord = a.coord := by rfl) (order : b.order = a.order := by rfl) : a.Stays c b where
  coord _ := coord
  release _ := by rw [Station.waitingRelease, order, Station.waitingRelease]
  synced h hb := by
    rw [synced, Bool.or_eq_true, decide_eq_true_eq] at hb
    obtain hb | hb := hb
    · simpa [Station.coordinated, coord] using h hb
    · simp [Station.coordinated, coord, hb]

theorem State.resync_stays (k : StationIx) (m : CycleModel) (t : Tick) (n : Byte) (c : Nat) (w : Bool) :
    Stays s (s.resync k m t n c w) := by
  have hend (u : State) : Stays u (((((u.modSt k fun t => { t with synced := t.synced || t.coord = .seeking }).markResync k t)
      ).orderAfterResync k).reviseAfterResync k) := by
    have hsync : Stays u (u.modSt k fun t => { t with synced := t.synced || t.coord = .seeking }) := .modSt (.of_synchronised rfl)
    have hmark (v : State) : Stays v (v.markResync k t) := .of_stations
    exact ((hsync.trans (hmark _)).trans (State.orderAfterResync_stays _ k)).trans (State.reviseAfterResync_stays _ k)
  have hstepped : Stays s (if 0 < numberStep n m.number then s.takeZero k m n t
      else if numberStep n m.number < 0 then s.modModel k fun m => { m with number := n, next := none } else s) := by
    split
    · exact s.takeZero_stays k m n t
    · split
      · exact s.modModel_stays _ _
      · exact .refl s
  unfold State.resync
  dsimp only
  refine Stays.trans ?_ (hend _)
  split
  · exact (hstepped.trans (State.modModel_stays _ _ _)).trans (State.emit_stays _ _)
  · exact hstepped.trans (State.modModel_stays _ _ _)

theorem State.cyclePart_stays (k : StationIx) (t : Tick) (n : Byte) (c : Nat) (w : Bool) : Stays s (s.cyclePart k t n c w) := by
  have hcreated : Stays s (s.createModel k t n c) := by
    unfold State.createModel
    exact .modSt (.of_synchronised rfl)
  unfold State.cyclePart
  dsimp only
  split
  · exact hcreated
  · split
    · exact s.resync_stays k _ t n c w
    · exact .refl s

/-! ## Deliveries (R86, R87, R104, R112, R127) -/

/-- A delivered cycle order that is waiting still is no RELEASE (R106). -/
theorem State.deliverOrder_stays (k : StationIx) {o : WaitingOrder} {b : OrderBody} (hb : o.body = some b) :
    Stays s (s.deliverOrder k o b) := by
  have hclear : Stays s (s.clearOrder k (s.stillWaiting k o)) := by
    unfold State.clearOrder
    split
    · next h =>
      obtain ⟨w, hw, hsame⟩ := (Option.any_eq_true _ _).1 h
      simp only [Bool.and_eq_true, decide_eq_true_eq] at hsame
      have hcycle := hsame.2.trans (WaitingOrder.release_of_body hb)
      exact s.modSt_cycleOrder_stays (Station.waitingRelease_of_cycle hw hcycle) rfl
    · exact .refl s
  unfold State.deliverOrder
  exact (hclear.trans (State.modModel_stays _ _ _)).trans (State.foldDelivered_stays _ _)

theorem State.retimeOrder_stays (k : StationIx) : Stays s (s.retimeOrder k) := by
  obtain h | ⟨o, d, ho, hb, h⟩ := s.retimeOrder_cases k <;> rw [h]
  · exact .refl s
  · obtain ⟨b, hb⟩ := Option.ne_none_iff_exists'.1 hb
    exact s.modSt_cycleOrder_stays (Station.waitingRelease_of_cycle ho (WaitingOrder.release_of_body hb))
      (by simp [WaitingOrder.release, hb])

theorem State.deliverRevise_stays (k : StationIx) (r : WaitingRevise) (f : UrgentFrame) : Stays s (s.deliverRevise k r f) := by
  have hclear : Stays s (if s.clc.urgent.contains f then s.clearRevise k else s) := by
    split
    · exact s.clearRevise_stays _
    · exact .refl s
  have hend (u : State) : Stays u (if (u.st k).model.any (·.number = r.number)
      then ((u.modModel k (·.revised r.course)).retimeOrder k).grantDelivered r.slot else u.withdrawGrant r.slot) := by
    split
    · exact ((u.modModel_stays _ _).trans (State.retimeOrder_stays _ _)).trans (State.modEntry_stays _ _ _)
    · exact u.withdrawGrant_stays _
  exact hclear.trans (hend _)

theorem State.deliverPreempt_stays (i : SlotIx) (f : UrgentFrame) (t : Tick) : Stays s (s.deliverPreempt i f t) := by
  have hroute (u : State) (k : StationIx) : Stays u ((u.modSt k fun t => { t with routeActive := true }).rehold k) :=
    Stays.trans (.modSt .of_same) (State.rehold_stays _ _)
  unfold State.deliverPreempt
  split
  · split
    · exact (((s.dropUrgent_stays _).trans (State.supersede_stays _ _)).trans (State.modEntry_stays _ _ _)).trans (hroute _ _)
    · exact .refl s
  · exact .refl s

/-! ## The parts of a reply (R47, R55, R73, R77, R116 to R129, R142) -/

theorem State.linkSuccess_stays (k : StationIx) : Stays s (s.linkSuccess k) := by
  have honline : Stays s (s.modSt k fun t => { t with link := .online, misses := 0, ackMark := true }) := .modSt .of_same
  unfold State.linkSuccess
  dsimp only
  split
  · exact honline.trans (State.emit_stays _ _)
  · exact honline

theorem State.takeFlags_stays (k : StationIx) (r : Status) : Stays s (s.takeFlags k r) :=
  Stays.trans (.modSt .of_same) (State.rehold_stays _ _)

theorem State.linkReturn_stays (k : StationIx) (b : Bool) : Stays s (s.linkReturn k b) := by
  unfold State.linkReturn
  split
  · exact (s.leaveFree_stays k _).trans (State.takeUp_stays _ k)
  · exact .refl s

/-- Taking a sample changes the sample alone (R73). -/
theorem Station.takeSample_eq (t : Station) (r : Status) : t.takeSample r = { t with
    queueIn := (t.takeSample r).queueIn, queueOut := (t.takeSample r).queueOut, sampleNo := (t.takeSample r).sampleNo
    age := (t.takeSample r).age } := by
  unfold Station.takeSample; split <;> rfl

theorem State.takeMeasures_stays (k : StationIx) (r : Status) : Stays s (s.takeMeasures k r) := by
  have hsample : Stays s (s.modSt k (·.takeSample r)) := by
    refine .modSt (.of_same ?_ ?_ ?_) ?_ <;> rw [Station.takeSample_eq]
  unfold State.takeMeasures State.takeCounts
  split
  · exact hsample.trans .of_stations
  · exact hsample

theorem State.transitNotice_stays (k : StationIx) (t : Tick) (n : Notice) : Stays s (s.transitNotice k t n) := by
  unfold State.transitNotice
  split
  · split
    · exact (s.addEntry_stays _).trans (State.evaluateTransit_stays _ _)
    · exact s.emit_stays _
  · exact .refl s

theorem State.enterEmergency_stays (k : StationIx) (t : Tick) (n : Notice) : Stays s (s.enterEmergency k t n) := by
  unfold State.enterEmergency
  dsimp only
  split
  · exact .refl s
  · split
    · exact s.addEntry_stays _
    · split
      · exact ((s.addEntry_stays _).trans (State.unpost_stays _ _)).trans (State.activateEmergency_stays _ _)
      · exact (s.addEntry_stays _).trans (State.activateEmergency_stays _ _)

theorem State.emergencyNotice_stays (k : StationIx) (t : Tick) (n : Notice) : Stays s (s.emergencyNotice k t n) := by
  unfold State.emergencyNotice
  split
  · exact s.enterEmergency_stays k t n
  · split
    · exact s.emit_stays _
    · exact (s.displace_stays _).trans (State.enterEmergency_stays _ k t n)

theorem State.takeNotice_stays (k : StationIx) (t : Tick) (n : Notice) : Stays s (s.takeNotice k t n) := by
  unfold State.takeNotice
  split
  · exact .refl s
  · split
    · exact s.transitNotice_stays k t n
    · exact s.emergencyNotice_stays k t n
    · exact .refl s

theorem State.checkOut_stays (k : StationIx) (tag : Word16) : Stays s (s.checkOut k tag) := by
  unfold State.checkOut
  split
  · exact s.depart_stays _ _
  · exact .refl s

theorem State.observePreempt_stays (k : StationIx) (b : Bool) : Stays s (s.observePreempt k b) := by
  unfold State.observePreempt
  split
  · split
    · exact s.modEntry_stays _ _
    · split
      · exact s.depart_stays _ _
      · exact .refl s
  · exact .refl s

theorem State.takePriority_stays (k : StationIx) (t : Tick) (r : Status) : Stays s (s.takePriority k t r) := by
  have hnotices : Stays s (r.notices.foldl (fun s n => s.takeNotice k t n) s) := .foldl (fun s n => s.takeNotice_stays k t n) _ s
  have houts (u : State) : Stays u (r.checkOuts.foldl (fun s tag => s.checkOut k tag) u) :=
    .foldl (fun s tag => s.checkOut_stays k tag) _ u
  exact (hnotices.trans (houts _)).trans (State.observePreempt_stays _ k _)

/-- What follows the delivery and the link state in a successful exchange (R137, step 3). -/
theorem State.exchangeSucceeded_stays (x : Exchange) (r : Status) (a b : Bool) :
    Stays (s.deliver x) (s.exchangeSucceeded x r a b) := by
  have hreturn (u : State) (back : Bool) : Stays u (if a then (u.linkReturn x.station back).takeFlags x.station r
      else (u.takeFlags x.station r).linkReturn x.station back) := by
    split
    · exact (u.linkReturn_stays _ _).trans (State.takeFlags_stays _ _ _)
    · exact (u.takeFlags_stays _ _).trans (State.linkReturn_stays _ _ _)
  have hparts (u : State) (w : Bool) : Stays u (if b then (u.takeMeasures x.station r).cyclePart x.station x.slotTick r.number r.time w
      else (u.cyclePart x.station x.slotTick r.number r.time w).takeMeasures x.station r) := by
    split
    · exact (u.takeMeasures_stays _ _).trans (State.cyclePart_stays _ _ _ _ _ _)
    · exact (u.cyclePart_stays _ _ _ _ _).trans (State.takeMeasures_stays _ _ _)
  exact (((State.linkSuccess_stays _ _).trans (hreturn _ _)).trans (hparts _ _)).trans (State.takePriority_stays _ _ _ _)

theorem State.startSlot_stays : Stays s s.startSlot := by
  unfold State.startSlot
  split
  · exact .of_stations
  · split
    · exact .of_stations
    · exact .refl s

/-! ## Requests by time (R125, R127) -/

theorem State.comeDue_stays (e : Entry) : Stays s (s.comeDue e) := by
  unfold State.comeDue
  split
  · exact s.post_stays e
  · exact (s.modEntry_stays _ _).trans (State.takeUp_stays _ _)

end Sys2Proof.Machine
end

section
/-! SUPPORT. Running the corridor keeps the corridor law and the service law: plan evaluation, the entries to RUNNING, IDLE and STOPPING,
take-over, and the loss of a link (R20 to R24, R36, R39 to R43, R141). -/

-- One proof at a time: elaborated in parallel, each proof that waits for an earlier one holds a thread and its stack.
set_option Elab.async false

namespace Sys2Proof.Machine

variable (s : State)

/-! ## The two laws, and what keeps both -/

/-- What the corridor law says of the Plan Store and of m (R20, R35). -/
structure State.PlansAccord (s : State) : Prop where
  active : s.ps.active = none ↔ s.ps.corridor = .idle
  staged : s.ps.staged ≠ none → s.ps.corridor = .running
  master : s.ps.corridor = .idle → s.tb.m = 0

theorem State.corridorLaw_iff {s : State} : s.CorridorLaw ↔ s.PlansAccord ∧ ∀ k : StationIx, (s.st k).Accords s.ps.corridor := by
  constructor
  · rintro ⟨hactive, hstaged, hidle, hstopping, hsynced⟩
    exact ⟨⟨hactive, hstaged, fun h => (hidle h).1⟩, fun k =>
      ⟨fun h => (hidle h).2 k, fun h hk => (s.releaseOut_iff k).1 (hstopping h k hk), hsynced k⟩⟩
  · rintro ⟨⟨hactive, hstaged, hmaster⟩, hst⟩
    exact ⟨hactive, hstaged, fun h => ⟨hmaster h, fun k => (hst k).idle h⟩,
      fun h k hk => (s.releaseOut_iff k).2 ((hst k).stopping h hk), fun k => (hst k).synced⟩

/-- The corridor law is kept where its plans and m stand and every station stays. -/
theorem State.CorridorLaw.of_stays {s t : State} (h : s.CorridorLaw) (active : t.ps.active = s.ps.active)
    (staged : t.ps.staged = s.ps.staged) (corridor : t.ps.corridor = s.ps.corridor) (master : t.tb.m = s.tb.m)
    (station : ∀ k : StationIx, (s.st k).Stays s.ps.corridor (t.st k)) : t.CorridorLaw := by
  rw [State.corridorLaw_iff] at h ⊢
  obtain ⟨⟨hactive, hstaged, hmaster⟩, hst⟩ := h
  refine ⟨⟨?_, ?_, ?_⟩, fun k => ?_⟩
  · rw [active, corridor]; exact hactive
  · rw [staged, corridor]; exact hstaged
  · rw [corridor, master]; exact hmaster
  · rw [corridor]; exact (station k).accords (hst k)

theorem State.planValid_congr {s t : State} (h : t.ps.slots = s.ps.slots) (g : Nat) : t.planValid g = s.planValid g := by
  simp only [State.planValid, State.slot, h]

/-- The service law is kept where the slots stand beside the geometry, and the plans in service are valid. -/
theorem State.ServiceLaw.of_slots {s t : State} (h : s.ServiceLaw) (slots : t.ps.slots = s.ps.slots)
    (count : t.count = s.count) (config : ∀ k : StationIx, (t.st k).config = (s.st k).config)
    (idle : t.ps.corridor = .idle → t.ps.active = none ∧ t.ps.staged = none)
    (active : ∀ g ∈ t.ps.active, s.planValid g = true) (staged : ∀ g ∈ t.ps.staged, s.planValid g = true) : t.ServiceLaw := by
  obtain ⟨hverdict, -⟩ := h
  refine ⟨fun g x hx => ?_, idle, fun g hg => ?_, fun g hg => ?_⟩
  · rw [State.judge_congr_config count config]
    exact hverdict g x (slots ▸ hx)
  · rw [State.planValid_congr slots]; exact active g hg
  · rw [State.planValid_congr slots]; exact staged g hg

/-- From `s` to `t` the corridor law and the service law are kept. -/
structure Upholds (s t : State) : Prop where
  corridor : s.CorridorLaw → t.CorridorLaw
  service : s.ServiceLaw → t.ServiceLaw

namespace Upholds

theorem trans {s t u : State} (h : Upholds s t) (h' : Upholds t u) : Upholds s u := ⟨h'.corridor ∘ h.corridor, h'.service ∘ h.service⟩

/-- The plans in service, the slots, the geometry and m stand, and every station stays. -/
theorem of_parts {s t : State} (station : ∀ k : StationIx, (s.st k).Stays s.ps.corridor (t.st k))
    (config : ∀ k : StationIx, (t.st k).config = (s.st k).config) (count : t.count = s.count := by simp)
    (slots : t.ps.slots = s.ps.slots := by simp) (active : t.ps.active = s.ps.active := by simp)
    (staged : t.ps.staged = s.ps.staged := by simp) (corridor : t.ps.corridor = s.ps.corridor := by simp)
    (master : t.tb.m = s.tb.m := by simp) : Upholds s t where
  corridor h := h.of_stays active staged corridor master station
  service h := by
    refine h.of_slots slots count config ?_ ?_ ?_
    · rw [corridor, active, staged]; exact h.2.1
    · rw [active]; exact h.2.2.1
    · rw [staged]; exact h.2.2.2

/-- The Plan Store keeps its plans in service and its slots, and everything else that the laws read stands. -/
theorem of_stations {s t : State} (stations : t.stations = s.stations := by rfl) (count : t.count = s.count := by rfl)
    (slots : t.ps.slots = s.ps.slots := by rfl) (active : t.ps.active = s.ps.active := by rfl)
    (staged : t.ps.staged = s.ps.staged := by rfl) (corridor : t.ps.corridor = s.ps.corridor := by rfl)
    (master : t.tb.m = s.tb.m := by rfl) : Upholds s t :=
  of_parts (fun k => by rw [State.st_congr stations]; exact .refl _) (fun k => by rw [State.st_congr stations]) count slots active staged
    corridor master

theorem refl (s : State) : Upholds s s := of_stations

end Upholds

theorem Stays.upholds {s t : State} (h : Stays s t) : Upholds s t := by
  refine .of_parts h.station h.config h.count ?_ ?_ ?_ ?_ h.master <;> rw [h.ps]

/-! ## Plan evaluation (R23, R24) -/

/-- A rejection changes the mark and the events alone (R24). -/
theorem State.reject_eq (g : Nat) : s.reject g = { s with
    ps := { s.ps with rejection := (s.reject g).ps.rejection }, eq := (s.reject g).eq, hli := (s.reject g).hli } := by
  unfold State.reject
  split
  · rfl
  · dsimp only
    rw [State.emit_eq]

/-- Plan evaluation changes the staged plan, the rejection mark and the events alone (R23, R24). -/
theorem State.planEvaluation_eq : s.planEvaluation = { s with
    ps := { s.ps with staged := s.planEvaluation.ps.staged, rejection := s.planEvaluation.ps.rejection }
    eq := s.planEvaluation.eq, hli := s.planEvaluation.hli } := by
  unfold State.planEvaluation
  dsimp only
  split
  · rfl
  · split
    · rfl
    · rw [State.reject_eq]
  · split
    · rfl
    · split
      · rfl
      · split
        · rfl
        · rw [State.reject_eq]

@[simp] theorem State.reject_staged (g : Nat) : (s.reject g).ps.staged = s.ps.staged := by rw [State.reject_eq]
@[simp] theorem State.planEvaluation_corridor : s.planEvaluation.ps.corridor = s.ps.corridor := by rw [State.planEvaluation_eq]
@[simp] theorem State.planEvaluation_active : s.planEvaluation.ps.active = s.ps.active := by rw [State.planEvaluation_eq]
@[simp] theorem State.planEvaluation_slots : s.planEvaluation.ps.slots = s.ps.slots := by rw [State.planEvaluation_eq]
@[simp] theorem State.planEvaluation_count : s.planEvaluation.count = s.count := by rw [State.planEvaluation_eq]
@[simp] theorem State.planEvaluation_tb : s.planEvaluation.tb = s.tb := by rw [State.planEvaluation_eq]
@[simp] theorem State.planEvaluation_stations : s.planEvaluation.stations = s.stations := by rw [State.planEvaluation_eq]

/-- A plan is staged while RUNNING alone, and is valid (R23). -/
theorem State.planEvaluation_staged {g : Nat} (h : s.planEvaluation.ps.staged = some g) :
    s.ps.staged = some g ∨ s.ps.corridor = .running ∧ s.planValid g = true := by
  unfold State.planEvaluation at h
  dsimp only at h
  split at h
  · exact .inl h
  · split at h
    · exact .inl h
    · rw [State.reject_staged] at h; exact .inl h
  · next hr =>
    split at h
    · cases h
    · split at h
      · exact .inl h
      · split at h
        · next hv => cases h; exact .inr ⟨hr, hv⟩
        · rw [State.reject_staged] at h; exact .inl h

theorem State.planEvaluation_upholds : Upholds s s.planEvaluation where
  corridor h := by
    rw [State.corridorLaw_iff] at h ⊢
    obtain ⟨⟨hactive, hstaged, hmaster⟩, hst⟩ := h
    refine ⟨⟨by simpa using hactive, fun hne => ?_, by simpa using hmaster⟩, fun k => ?_⟩
    · rw [State.planEvaluation_corridor]
      obtain ⟨g, hg⟩ := Option.ne_none_iff_exists'.1 hne
      obtain hs | ⟨hr, -⟩ := s.planEvaluation_staged hg
      · exact hstaged (by rw [hs]; simp)
      · exact hr
    · rw [State.planEvaluation_corridor, State.st_congr s.planEvaluation_stations]; exact hst k
  service h := by
    have ⟨_, hidle, hactive, hstaged⟩ := h
    refine State.ServiceLaw.of_slots h (by simp) (by simp) (fun k => by rw [State.st_congr s.planEvaluation_stations])
      (fun hi => ?_) (by simpa using hactive) fun g hg => ?_
    · rw [State.planEvaluation_corridor] at hi
      refine ⟨by simpa using (hidle hi).1, ?_⟩
      rw [Option.eq_none_iff_forall_ne_some]
      intro g hg
      obtain hs | ⟨hr, -⟩ := s.planEvaluation_staged hg
      · rw [(hidle hi).2] at hs; cases hs
      · rw [hi] at hr; cases hr
    · obtain hs | ⟨-, hv⟩ := s.planEvaluation_staged hg
      · exact hstaged g hs
      · exact hv

/-! ## Entry to RUNNING (R40) -/

theorem State.modAll_stays {f : Station → Station} (h : ∀ t : Station, t.Stays s.ps.corridor (f t))
    (hc : ∀ t : Station, (f t).config = t.config) : Stays s (s.modAll f) where
  config k := by rw [State.modAll_st]; exact hc _
  station k := by rw [State.modAll_st]; exact h _

theorem State.emptyRing_stays : Stays s s.emptyRing := .of_stations
theorem State.takeWeight_stays (p : Plan) : Stays s (s.takeWeight p) := .of_stations

/-- What follows the change of the corridor state at an entry to RUNNING (R40). -/
theorem State.enterRunning_stays {x : PlanSlot} (hx : s.slot s.governing = some x) (r : Reason) :
    Stays (s.underway s.governing x.plan) (s.enterRunning r) := by
  rw [State.enterRunning_eq hx]
  have hjump (u : State) : Stays u (u.modAll fun t => { t with jump := true }) := u.modAll_stays (fun _ => .of_same) fun _ => rfl
  exact (((((State.emit_stays _ _).trans (State.emit_stays _ _)).trans (hjump _)).trans (State.emptyRing_stays _)).trans
    (State.takeWeight_stays _ _)).trans (State.eachStation_stays _ fun s k => s.leaveFree_stays k .run)

theorem State.enterRunning_of_empty (h : s.slot s.governing = none) (r : Reason) : s.enterRunning r = s := by
  rw [State.enterRunning, h]

/-- Under a valid governing plan the corridor enters RUNNING within its laws. -/
theorem State.enterRunning_upholds (r : Reason) (hv : s.planValid s.governing = true) :
    Upholds s (s.enterRunning r) := by
  obtain ⟨x, hx, -⟩ := State.planValid_slot hv
  refine Upholds.trans ⟨fun h => ?_, fun h => ?_⟩ (s.enterRunning_stays hx r).upholds
  · rw [State.corridorLaw_iff] at h ⊢
    refine ⟨⟨by simp [State.underway], fun h => absurd rfl h, by simp [State.underway]⟩, fun k => ?_⟩
    exact ⟨fun h => (by cases h), fun h => (by cases h), (h.2 k).synced⟩
  · refine h.of_slots rfl rfl (fun _ => rfl) (fun h => by cases h) (fun g hg => ?_) fun g hg => by cases hg
    cases hg; exact hv

theorem State.planValid_of_mayRun (h : s.mayRun = true) (hidle : s.ps.corridor = .idle) : s.planValid s.governing = true := by
  have hterm : s.planTerm = true := List.all_eq_true.1 h .plan (by decide)
  rw [State.planTerm, hidle] at hterm
  simp only [Bool.and_eq_true] at hterm
  exact hterm.2

/-! ## Entry to IDLE (R43) -/

/-- The corridor IDLE, as the entry to IDLE sets it before its event (R35, R43). -/
def State.idled (s : State) : State := { s with
  ps := { s.ps with corridor := .idle, active := none, staged := none }
  tb := { s.tb with m := 0, masterDue := false } }

/-- The corridor IDLE with its event written and the governing plan evaluated (R43). -/
def State.rested (s : State) : State :=
  (((s.idled.modAll fun t => t.enterMins.clearTarget).emptyRing).emit (.corridorState .idle .stopped)).planEvaluation

theorem State.enterIdle_eq : s.enterIdle = if s.rested.mayRun then s.rested.enterRunning .restart else s.rested := rfl

@[simp] theorem State.rested_corridor : s.rested.ps.corridor = .idle := by
  simp [State.rested, State.idled]

theorem Station.clearTarget_enterMins_stays (c : CorridorState) (t : Station) : t.Stays c t.enterMins.clearTarget := by
  refine .of_same ?_ ?_ ?_ <;> rw [Station.enterMins_eq] <;> rfl

theorem State.enterIdle_upholds (hfree : s.CorridorLaw → ∀ k : StationIx, (s.st k).coord = .free) : Upholds s s.enterIdle := by
  have hidled : Upholds s s.idled := by
    refine ⟨fun h => ?_, fun h => ?_⟩
    · have hst := hfree h
      rw [State.corridorLaw_iff] at h ⊢
      exact ⟨⟨by simp [State.idled], fun h => absurd rfl h, fun _ => rfl⟩,
        fun k => ⟨fun _ => hst k, fun h => (by cases h), (h.2 k).synced⟩⟩
    · exact h.of_slots rfl rfl (fun _ => rfl) (fun _ => ⟨rfl, rfl⟩) (fun g hg => by cases hg) fun g hg => by cases hg
  have hcleared (u : State) : Stays u (u.modAll fun t => t.enterMins.clearTarget) :=
    u.modAll_stays (fun t => t.clearTarget_enterMins_stays _) fun t => t.enterMins_config
  have hrested : Upholds s s.rested := (hidled.trans (((hcleared _).trans (State.emptyRing_stays _)).trans
    (State.emit_stays _ _)).upholds).trans (State.planEvaluation_upholds _)
  rw [State.enterIdle_eq]
  split
  · next h => exact hrested.trans (s.rested.enterRunning_upholds _ (s.rested.planValid_of_mayRun h s.rested_corridor))
  · exact hrested

/-- While STOPPING with no RELEASE outstanding, every station is FREE (R43). -/
theorem State.CorridorLaw.free_of_settled {s : State} (h : s.CorridorLaw) (hstop : s.ps.corridor = .stopping) (hnone : s.releasesOut = 0)
    (k : StationIx) : (s.st k).coord = .free := by
  by_contra hk
  have hout := h.2.2.2.1 hstop k hk
  rw [State.releasesOut, List.length_eq_zero_iff, List.filter_eq_nil_iff] at hnone
  exact hnone k (mem_allStations k) hout

theorem State.settle_upholds : Upholds s s.settle := by
  unfold State.settle
  split
  · next h =>
    simp only [Bool.and_eq_true, decide_eq_true_eq] at h
    exact s.enterIdle_upholds fun hs => hs.free_of_settled h.1 h.2
  · exact .refl s

/-! ## Entry to STOPPING (R42) -/

/-- The corridor STOPPING, as the entry to STOPPING sets it before the stations are released (R42). -/
def State.halted (s : State) (r : Reason) : State :=
  (({ s with ps := { s.ps with corridor := .stopping } } : State).emit (.corridorState .stopping r)).stage none

theorem State.enterStopping_eq (r : Reason) : s.enterStopping r
    = (((s.halted r).eachStation (·.releaseStation)).departAll (·.endsAtStop) .cancelled).settle := rfl

/-- The RELEASE that the entry to STOPPING gives a station (R109). -/
def State.releaseFor (s : State) (t : Station) : WaitingOrder where
  number := match t.model with
    | some m => nextNumber m.number
    | none => 0
  body := none
  deadline := tickAdd s.now Config.releaseLife
  placed := s.now

theorem State.placeRelease_eq (k : StationIx) : s.placeRelease k = s.modSt k fun t => { t with order := some (s.releaseFor t) } := rfl

theorem State.releaseStation_aside {kept : Prop} (k : StationIx) : Aside kept s (s.releaseStation k) := by
  unfold State.releaseStation
  split
  · exact .refl s
  · exact (s.withdrawOrder_aside k).trans (.modSt_rest rfl rfl rfl rfl)

theorem Aside.count {kept : Prop} {s t : State} (h : Aside kept s t) : t.count = s.count :=
  show t.core.count = s.core.count from congrArg State.count h.core

theorem Aside.releaseFor {kept : Prop} {s t : State} (h : Aside kept s t) (k : StationIx) :
    t.releaseFor (t.st k) = s.releaseFor (s.st k) := by
  have hmodel := h.field (·.model) (fun _ => rfl) k
  have hnow : t.now = s.now := show t.core.now = s.core.now from congrArg State.now h.core
  simp only [State.releaseFor, hmodel, hnow]

/-- What the entry to STOPPING makes of a station's record `a`, in the record `b`: its coordination stands, and out of FREE it has its
RELEASE where it is one of those released (R42). -/
structure State.Releases (s : State) (p : Prop) (a b : Station) : Prop where
  coord : b.coord = a.coord
  synced : (a.synced = true → a.coordinated = true) → b.synced = true → b.coordinated = true
  released : p → a.coord ≠ .free → b.waitingRelease = some (s.releaseFor a)
  spared : ¬ (p ∧ a.coord ≠ .free) → b.waitingRelease = a.waitingRelease

theorem State.releaseStation_releases (k j : StationIx) (hr : s.ps.corridor ≠ .running) :
    s.Releases (j = k) (s.st j) ((s.releaseStation k).st j) := by
  unfold State.releaseStation
  split
  · next hfree => exact ⟨rfl, id, fun h hne => absurd (h ▸ hfree) hne, fun _ => rfl⟩
  · next hfree =>
    have hstay := (s.withdrawOrder_stays k).station j
    have haside := s.withdrawOrder_aside (kept := True) k
    rw [State.placeRelease_eq, State.st_modSt]
    split
    · next h =>
      subst h
      refine ⟨hstay.coord hr, fun h => by simpa [Station.coordinated] using hstay.synced h, fun _ _ => ?_,
        fun h => absurd ⟨rfl, hfree⟩ h⟩
      exact congrArg some (haside.releaseFor j)
    · next h => exact ⟨hstay.coord hr, hstay.synced, fun h' => absurd h' h, fun _ => hstay.release hr⟩

/-- The stations released one after another (R42). -/
theorem State.foldl_releaseStation (l : List StationIx) (hl : l.Nodup) (hr : s.ps.corridor ≠ .running) :
    Aside True s (l.foldl State.releaseStation s) ∧ ∀ j, s.Releases (j ∈ l) (s.st j) ((l.foldl State.releaseStation s).st j) := by
  induction l generalizing s with
  | nil => exact ⟨.refl s, fun j => ⟨rfl, id, fun h => (by cases h), fun _ => rfl⟩⟩
  | cons k l ih =>
    obtain ⟨hk, hl⟩ := List.nodup_cons.1 hl
    have haside := s.releaseStation_aside (kept := True) k
    obtain ⟨hrest, hreleases⟩ := ih (s.releaseStation k) hl (by rw [haside.ps]; exact hr)
    refine ⟨haside.trans hrest, fun j => ?_⟩
    have hfirst := s.releaseStation_releases k j hr
    have hlast := hreleases j
    have hcoord := hfirst.coord
    refine ⟨hlast.coord.trans hcoord, fun h => hlast.synced (hfirst.synced h), fun hj hne => ?_, fun h => ?_⟩
    · by_cases hjl : j ∈ l
      · rw [List.foldl_cons, hlast.released hjl (by rw [hcoord]; exact hne), haside.releaseFor j]
      · obtain rfl : j = k := (List.mem_cons.1 hj).resolve_right hjl
        rw [List.foldl_cons, hlast.spared fun h => hjl h.1, hfirst.released rfl hne]
    · rw [List.foldl_cons, hlast.spared fun h' => h ⟨List.mem_cons_of_mem _ h'.1, hcoord ▸ h'.2⟩,
        hfirst.spared fun h' => h ⟨List.mem_cons.2 (.inl h'.1), h'.2⟩]

theorem State.releaseAll_aside (hr : s.ps.corridor ≠ .running) : Aside True s (s.eachStation (·.releaseStation)) :=
  (s.foldl_releaseStation allStations allStations_nodup hr).1

theorem State.releaseAll_releases (hr : s.ps.corridor ≠ .running) (k : StationIx) :
    s.Releases True (s.st k) ((s.eachStation (·.releaseStation)).st k) := by
  have h := (s.foldl_releaseStation allStations allStations_nodup hr).2 k
  exact ⟨h.coord, h.synced, fun _ => h.released (mem_allStations k), fun hn => h.spared fun h' => hn ⟨trivial, h'.2⟩⟩

@[simp] theorem State.halted_ps (r : Reason) : (s.halted r).ps = { s.ps with corridor := .stopping, staged := none } := by
  simp [State.halted, State.stage]
@[simp] theorem State.halted_count (r : Reason) : (s.halted r).count = s.count := by simp [State.halted]
@[simp] theorem State.halted_tb (r : Reason) : (s.halted r).tb = s.tb := by simp [State.halted]
@[simp] theorem State.halted_stations (r : Reason) : (s.halted r).stations = s.stations := by simp [State.halted]

/-- A RUNNING corridor enters STOPPING, and perhaps IDLE at once, within its laws. -/
theorem State.enterStopping_upholds (r : Reason) (hr : s.ps.corridor = .running) : Upholds s (s.enterStopping r) := by
  have hstop : (s.halted r).ps.corridor ≠ .running := by rw [State.halted_ps]; exact CorridorState.noConfusion
  have haside := (s.halted r).releaseAll_aside hstop
  have hreleased : Upholds s ((s.halted r).eachStation (·.releaseStation)) := by
    refine ⟨fun h => ?_, fun h => ?_⟩
    · rw [State.corridorLaw_iff] at h ⊢
      obtain ⟨⟨hactive, -, -⟩, hst⟩ := h
      rw [haside.ps, State.halted_ps]
      refine ⟨?_, fun k => ?_⟩
      · refine ⟨?_, ?_, ?_⟩ <;> rw [haside.ps, State.halted_ps]
        · exact ⟨fun h => by rw [hr] at hactive; exact absurd (hactive.1 h) (by decide), fun h => by cases h⟩
        · exact fun h => absurd rfl h
        · exact fun h => by cases h
      · have hk := (s.halted r).releaseAll_releases hstop k
        rw [State.st_congr (s.halted_stations r)] at hk
        refine ⟨fun h => (by cases h), fun _ hne => ?_, hk.synced (hst k).synced⟩
        rw [hk.released trivial (by rwa [hk.coord] at hne)]
        simp
    · have ⟨_, _, hactive, _⟩ := h
      refine State.ServiceLaw.of_slots h ?_ ?_ (fun k => ?_) ?_ ?_ ?_
      · rw [haside.ps, State.halted_ps]
      · exact haside.count.trans (s.halted_count r)
      · rw [haside.field (·.config) (fun _ => rfl) k, State.st_congr (s.halted_stations r)]
      all_goals rw [haside.ps, State.halted_ps]
      · exact fun h => by cases h
      · exact hactive
      · exact fun g hg => by cases hg
  rw [State.enterStopping_eq]
  exact (hreleased.trans (State.departAll_stays _ _ _).upholds).trans (State.settle_upholds _)

/-! ## The occasions and take-over (R36, R39) -/

theorem State.evaluate_upholds (r : Reason) : Upholds s (s.evaluate r) := by
  have hplan := s.planEvaluation_upholds
  unfold State.evaluate
  dsimp only
  split
  · next hidle =>
    split
    · next h => exact hplan.trans (State.enterRunning_upholds _ r (State.planValid_of_mayRun _ h hidle))
    · exact hplan
  · next hr =>
    split
    · exact hplan
    · exact hplan.trans (State.enterStopping_upholds _ r hr)
  · exact hplan

theorem Station.noteTakeOver_stays (c : CorridorState) (t : Station) : t.Stays c t.clearTarget.noteTakeOver := by
  refine .of_order ?_
  unfold Station.waitingRelease Station.noteTakeOver Station.clearTarget WaitingOrder.release
  dsimp only
  cases t.order with
  | none => rfl
  | some o => obtain ⟨n, _ | b, d, p⟩ := o <;> rfl

/-- The staged plan, which is staged while RUNNING alone, becomes the active one (R36). -/
theorem State.takeOver_upholds {g : Nat} (hg : s.ps.staged = some g) : Upholds s (s.takeOver g) := by
  have htaken : Upholds s { s with ps := { s.ps with active := some g, staged := none }, tb := { s.tb with m := 0 } } := by
    refine ⟨fun h => ?_, fun h => ?_⟩
    · rw [State.corridorLaw_iff] at h ⊢
      obtain ⟨⟨-, hstaged, -⟩, hst⟩ := h
      have hr := hstaged (by rw [hg]; simp)
      exact ⟨⟨by simp [hr], fun h => absurd rfl h, fun _ => rfl⟩, hst⟩
    · have ⟨_, hidle, _, hstaged⟩ := h
      refine State.ServiceLaw.of_slots h rfl rfl (fun _ => rfl) (fun hi => ?_) (fun x hx => ?_) fun x hx => by cases hx
      · have := (hidle hi).2; rw [hg] at this; cases this
      · cases hx; exact hstaged g hg
  have hcleared (u : State) : Stays u (u.modAll fun t => t.clearTarget.noteTakeOver) :=
    u.modAll_stays (fun t => t.noteTakeOver_stays _) fun _ => rfl
  have hring (u : State) (b : EventBody) : Stays u (((u.emit b).modAll fun t => t.clearTarget.noteTakeOver).emptyRing) :=
    ((u.emit_stays b).trans (hcleared _)).trans (State.emptyRing_stays _)
  unfold State.takeOver
  dsimp only
  split
  · exact htaken.trans ((hring _ _).trans (State.takeWeight_stays _ _)).upholds
  · exact htaken.trans (hring _ _).upholds

/-! ## Entry to FREE and the loss of a link (R43, R48, R105, R109, R141) -/

/-- From `s` to `t` the Plan Store, the geometry and m stand, and every station but `k` stays. -/
structure Elsewhere (k : StationIx) (s t : State) : Prop where
  count : t.count = s.count := by simp
  ps : t.ps = s.ps := by simp
  master : t.tb.m = s.tb.m := by simp
  config : ∀ j : StationIx, (t.st j).config = (s.st j).config
  station : ∀ j : StationIx, j ≠ k → (s.st j).Stays s.ps.corridor (t.st j)

namespace Elsewhere

variable {s t u : State} {k : StationIx}

theorem trans (h : Elsewhere k s t) (h' : Elsewhere k t u) : Elsewhere k s u where
  count := h'.count.trans h.count
  ps := h'.ps.trans h.ps
  master := h'.master.trans h.master
  config j := (h'.config j).trans (h.config j)
  station j hj := (h.station j hj).trans (h.ps ▸ h'.station j hj)

theorem of_stays (h : Stays s t) : Elsewhere k s t := ⟨h.count, h.ps, h.master, h.config, fun j _ => h.station j⟩

theorem modSt {f : Station → Station} (config : (f (s.st k)).config = (s.st k).config := by rfl) : Elsewhere k s (s.modSt k f) where
  config j := by
    rw [State.st_modSt]
    split
    · next hj => subst hj; exact config
    · rfl
  station j hj := by rw [State.st_modSt_ne s hj]; exact .refl _

/-- The station itself is left FREE and not synchronised, which every corridor state allows (R46, R51). -/
theorem upholds (h : Elsewhere k s t) (hfree : (t.st k).coord = .free) (hsynced : (t.st k).synced = false) : Upholds s t := by
  refine ⟨fun hs => ?_, fun hs => ?_⟩
  · rw [State.corridorLaw_iff] at hs ⊢
    obtain ⟨⟨hactive, hstaged, hmaster⟩, hst⟩ := hs
    refine ⟨?_, fun j => ?_⟩
    · refine ⟨?_, ?_, ?_⟩ <;> rw [h.ps]
      · exact hactive
      · exact hstaged
      · rw [h.master]; exact hmaster
    · rw [h.ps]
      by_cases hj : j = k
      · subst hj
        exact ⟨fun _ => hfree, fun _ hne => absurd hfree hne, fun h => by rw [hsynced] at h; cases h⟩
      · exact (h.station j hj).accords (hst j)
  · have ⟨_, hidle, hactive, hstaged⟩ := hs
    refine State.ServiceLaw.of_slots hs ?_ h.count h.config ?_ ?_ ?_ <;> rw [h.ps]
    · exact hidle
    · exact hactive
    · exact hstaged

end Elsewhere

theorem State.foldLost_sameOrders (f : Option Fold) : SameOrders s (s.foldLost f) := by
  cases f
  · exact .refl s
  · exact s.withdrawGrant_sameOrders _

/-- Withdrawals leave a station's coordination state and its synchronised flag. -/
theorem State.withdrawn_coord (k j : StationIx) : (((s.withdrawOrder k).withdrawRevise k).st j).coord = (s.st j).coord
    ∧ (((s.withdrawOrder k).withdrawRevise k).st j).synced = (s.st j).synced := by
  have horder : ((s.withdrawOrder k).st j).coord = (s.st j).coord ∧ ((s.withdrawOrder k).st j).synced = (s.st j).synced := by
    rw [State.withdrawOrder_eq]
    obtain ⟨hcoord, hsynced, -⟩ := State.foldLost_sameOrders (s.modSt k (·.withoutCycleOrder)) ((s.st k).cycleOrder.bind (·.fold)) j
    rw [hcoord, hsynced, State.st_modSt]
    split
    · next h => subst h; rw [Station.withoutCycleOrder_eq]; exact ⟨rfl, rfl⟩
    · exact ⟨rfl, rfl⟩
  have hrevise (u : State) : SameOrders u (u.withdrawRevise k) := by
    have hclear : SameOrders u (u.clearRevise k) :=
      SameOrders.trans (.modSt (f := fun t => { t with revise := none }) fun _ => ⟨rfl, rfl, rfl⟩) (.of_st fun _ => rfl)
    unfold State.withdrawRevise
    split
    · exact hclear.trans (State.withdrawGrant_sameOrders _ _)
    · exact .refl u
  obtain ⟨hcoord, hsynced, -⟩ := hrevise (s.withdrawOrder k) j
  exact ⟨hcoord.trans horder.1, hsynced.trans horder.2⟩

theorem State.setCoord_elsewhere (k : StationIx) (c : Coord) (x : StateCause) : Elsewhere k s (s.setCoord k c x) where
  config j := by rw [State.setCoord_st]; split <;> rfl
  station j hj := by rw [State.setCoord_st, if_neg hj]; exact .refl _

theorem State.enterFree_elsewhere (k : StationIx) (x : StateCause) : Elsewhere k s (s.enterFree k x) :=
  (((s.setCoord_elsewhere k _ x).trans .modSt).trans (.of_stays (State.withdrawOrder_stays _ k))).trans
    (.of_stays (State.withdrawRevise_stays _ k))

theorem State.enterFree_free (k : StationIx) (x : StateCause) :
    ((s.enterFree k x).st k).coord = .free ∧ ((s.enterFree k x).st k).synced = false := by
  obtain ⟨hcoord, hsynced⟩ := State.withdrawn_coord ((s.setCoord k .free x).modSt k (·.unsynced)) k k
  rw [State.st_modSt_same, State.setCoord_st, if_pos rfl] at hcoord hsynced
  exact ⟨hcoord, hsynced⟩

/-- A station that enters FREE after its own record and the events have changed keeps the laws, whatever order it lost. -/
theorem Elsewhere.enterFree_upholds {s t : State} {k : StationIx} (h : Elsewhere k s t) (x : StateCause) :
    Upholds s (t.enterFree k x) :=
  (h.trans (t.enterFree_elsewhere k x)).upholds (t.enterFree_free k x).1 (t.enterFree_free k x).2

theorem State.dropOrder_upholds {k : StationIx} {o : WaitingOrder} (ho : (s.st k).order = some o) : Upholds s (s.dropOrder k o) := by
  unfold State.dropOrder
  dsimp only
  split
  · next b hb =>
    have hcycle := Station.waitingRelease_of_cycle ho (WaitingOrder.release_of_body hb)
    exact (((s.modSt_cycleOrder_stays hcycle rfl).trans (State.emit_stays _ _)).trans (State.foldLost_stays _ _)).upholds
  · have hlate (b : EventBody) : Elsewhere k s ((s.modSt k fun t => { t with order := none }).emit b) :=
      Elsewhere.trans .modSt (.of_stays (State.emit_stays _ _))
    exact ((hlate _).enterFree_upholds .released).trans (State.settle_upholds _)

theorem State.deliverRelease_upholds (k : StationIx) (o : WaitingOrder) : Upholds s (s.deliverRelease k o) := by
  unfold State.deliverRelease State.clearOrder
  dsimp only
  split
  · have hdelivered (u : State) : Elsewhere k u ((u.modSt k fun t => { t with order := none }).modModel k (·.released)) :=
      Elsewhere.trans .modSt .modSt
    exact ((hdelivered s).enterFree_upholds .released).trans (State.settle_upholds _)
  · exact (s.modModel_stays k _).upholds

theorem State.deliver_upholds (x : Exchange) : Upholds s (s.deliver x) := by
  unfold State.deliver
  split
  · exact .refl s
  · split
    · next hb => exact (s.deliverOrder_stays _ hb).upholds
    · exact s.deliverRelease_upholds _ _
  · exact (s.deliverRevise_stays _ _ _).upholds
  · exact (s.deliverPreempt_stays _ _ _).upholds

theorem State.unpostAt_stays (k : StationIx) : Stays s (s.unpostAt k) := by
  unfold State.unpostAt
  split
  · exact (s.unpost_stays _).trans (State.takeUp_stays _ _)
  · exact .refl s

/-- The station's frames leave ORDER and URGENT within the laws where the station is FREE but for a RUNNING corridor (R141). -/
theorem State.dropFrames_upholds {k : StationIx} (h : s.ps.corridor ≠ .running → (s.st k).coord = .free) :
    Upholds s (s.dropFrames k) := by
  have horder : Upholds s (s.modSt k fun t => { t with order := none }) := by
    have hcoord (j : StationIx) : ((s.modSt k fun t => { t with order := none }).st j).coord = (s.st j).coord
        ∧ ((s.modSt k fun t => { t with order := none }).st j).synced = (s.st j).synced
        ∧ ((s.modSt k fun t => { t with order := none }).st j).config = (s.st j).config := by
      rw [State.st_modSt]; split <;> exact ⟨rfl, rfl, rfl⟩
    refine ⟨fun hs => ?_, fun hs => State.ServiceLaw.of_slots hs rfl rfl (fun j => (hcoord j).2.2) hs.2.1 hs.2.2.1 hs.2.2.2⟩
    rw [State.corridorLaw_iff] at hs ⊢
    refine ⟨⟨hs.1.active, hs.1.staged, hs.1.master⟩, fun j => ?_⟩
    obtain ⟨hidle, hstopping, hsynced⟩ := hs.2 j
    refine ⟨fun hi => (hcoord j).1.trans (hidle hi), fun hstop hne => ?_, fun hsy => ?_⟩
    · have hjk : j ≠ k := by
        rintro rfl
        exact hne ((hcoord j).1.trans (h (by rw [show s.ps.corridor = _ from hstop]; decide)))
      rw [State.st_modSt_ne s hjk] at hne ⊢
      exact hstopping hstop hne
    · have := hsynced ((hcoord j).2.1 ▸ hsy)
      simpa [Station.coordinated, (hcoord j).1] using this
  have hdropped (u : State) : Stays u (u.dropUrgent (·.station = k)) := u.dropUrgent_stays _
  have hage (u : State) : Stays u (u.modSt k fun t => { t with age := Config.sampleLife }) := .modSt .of_same
  exact ((horder.trans (hdropped _).upholds).trans (State.settle_upholds _)).trans (hage _).upholds

theorem State.loseLink_upholds (k : StationIx) (c : LossCause) : Upholds s (s.loseLink k c) := by
  have hlost (b : EventBody) : Elsewhere k s ((s.modSt k fun t => { t with link := .lost, misses := Config.missLimit }).emit b) :=
    Elsewhere.trans .modSt (.of_stays (State.emit_stays _ _))
  have hmodel (u : State) : Stays u (u.modSt k fun t => { t with model := none }) := .modSt .of_same
  have hgone : Upholds s (s.linkGone k c) := ((hlost (.linkLost k c)).enterFree_upholds .linkLost).trans (hmodel _).upholds
  have hfree : ((s.linkGone k c).st k).coord = .free := by
    unfold State.linkGone
    rw [State.st_modSt_same]
    exact (State.enterFree_free _ k .linkLost).1
  have hunposted := (s.linkGone k c).unpostAt_stays k
  have hall : Upholds s (((s.linkGone k c).unpostAt k).dropFrames k) := by
    refine (hgone.trans hunposted.upholds).trans (State.dropFrames_upholds _ fun hr => ?_)
    rw [hunposted.ps] at hr
    exact ((hunposted.station k).coord hr).trans hfree
  rw [State.loseLink_eq]
  split
  · exact hall.trans (State.emptyRing_stays _).upholds
  · exact hall

theorem State.resetLink_upholds (k : StationIx) (c : LossCause) : Upholds s (s.resetLink k c) := by
  have hlost (u : State) : Stays u (u.modSt k fun t =>
      { t with link := .lost, misses := Config.missLimit, ackMark := false, lastFailure := none }) := .modSt .of_same
  have hdiscard (u : State) : Stays u (u.discardExchange (· = k)) := .of_stations
  have hreset (u : State) := ((hlost u).trans (hdiscard _)).upholds
  unfold State.resetLink
  dsimp only
  split
  · exact (s.loseLink_upholds k c).trans (hreset _)
  · exact hreset s

theorem State.exchangeFailed_upholds (k : StationIx) (c : FailureCause) : Upholds s (s.exchangeFailed k c) := by
  have hnoted : Stays s (s.modSt k fun t => { t with lastFailure := some c, ackMark := t.ackMark && !c.clearsMark }) := .modSt .of_same
  have hmiss (u : State) : Stays u (u.modSt k fun t => { t with misses := min Config.missLimit (t.misses + 1) }) := .modSt .of_same
  unfold State.exchangeFailed
  dsimp only
  split
  · exact hnoted.upholds.trans (State.loseLink_upholds _ _ _)
  · exact (hnoted.trans (hmiss _)).upholds

theorem State.endExchange_upholds (x : Exchange) (heard : List Byte) (a b : Bool) : Upholds s (s.endExchange x heard a b) := by
  have hcleared (u : State) : Stays u u.clearExchange := .of_stations
  refine Upholds.trans ?_ (hcleared _).upholds
  unfold State.takeResult
  split
  · exact .refl s
  · split
    · exact .refl s
    · split
      · exact s.exchangeFailed_upholds _ _
      · exact (s.deliver_upholds x).trans (s.exchangeSucceeded_stays x _ a b).upholds

end Sys2Proof.Machine
end

section
/-! SUPPORT. The requests, the resets and the tick keep the corridor law and the service law (R6, R8, R16, R18, R28, R29, R35, R57, R160),
and so does every command. -/

-- One proof at a time: elaborated in parallel, each proof that waits for an earlier one holds a thread and its stack.
set_option Elab.async false

namespace Sys2Proof.Machine

variable (s : State)

/-! ## Verdicts taken afresh (R9, R16) -/

/-- The verdict reads the station count and the stored minimums alone (R15). -/
theorem State.judge_congr_minimums {s t : State} (hcount : t.count = s.count)
    (h : ∀ j : StationIx, (t.st j).config.map (·.minimums) = (s.st j).config.map (·.minimums)) (p : Plan) : t.judge p = s.judge p := by
  have hloaded (j : StationIx) : (t.st j).config.isSome = (s.st j).config.isSome := by
    rw [← Option.isSome_map (f := (·.minimums)), h j, Option.isSome_map]
  have hitem (j : StationIx) : ((t.st j).config.bind fun c => judgeItem p j c.minimums)
      = (s.st j).config.bind fun c => judgeItem p j c.minimums := by
    have hbind (c : Option StationConfig) : (c.bind fun c => judgeItem p j c.minimums) = (c.map (·.minimums)).bind (judgeItem p j) := by
      cases c <;> rfl
    rw [hbind, hbind, h j]
  simp only [State.judge, State.geometryValid, hcount, hloaded, hitem]

theorem State.judgeAll_verdict {g : Fin 8} {x : PlanSlot} (hx : x ∈ s.judgeAll.ps.slots[g]) : x.verdict = s.judgeAll.judge x.plan := by
  rw [State.judgeAll_slots, Option.mem_def, Option.map_eq_some_iff] at hx
  obtain ⟨y, -, rfl⟩ := hx
  rw [State.judgeAll_judge]; rfl

/-- The verdicts are those of the geometry after they are taken afresh, and no plan is in service (R6, R16). -/
theorem State.serviceLaw_of_judged {t : State} (h : ∀ g : Fin 8, ∀ x ∈ t.ps.slots[g], x.verdict = t.judge x.plan)
    (active : t.ps.active = none) (staged : t.ps.staged = none) : t.ServiceLaw := by
  refine ⟨h, fun _ => ⟨active, staged⟩, ?_, ?_⟩
  · rw [active]; exact fun g hg => by cases hg
  · rw [staged]; exact fun g hg => by cases hg

theorem State.judgeAll_corridorLaw (h : s.CorridorLaw) : s.judgeAll.CorridorLaw := by
  refine h.of_stays ?_ ?_ ?_ ?_ fun k => by rw [State.judgeAll_st]; exact .refl _
  all_goals rw [State.judgeAll_eq]

/-! ## Time (R31 to R36, R56) -/

/-- m stands in IDLE, where no cycle advances it (R35). -/
theorem State.advance_upholds : Upholds s s.advance where
  corridor h := by
    rw [State.corridorLaw_iff] at h ⊢
    obtain ⟨⟨hactive, hstaged, hmaster⟩, hst⟩ := h
    refine ⟨⟨hactive, hstaged, fun hidle => ?_⟩, hst⟩
    have hcycle : s.masterCycle = none := by
      rw [State.masterCycle, show s.ps.corridor = .idle from hidle]
    rw [State.advance_tb, hcycle]
    exact (TimeBase.advanceClock_m _).trans (hmaster hidle)
  service h := State.ServiceLaw.of_slots h rfl rfl (fun _ => rfl) h.2.1 h.2.2.1 h.2.2.2

/-- A step of a command upholds the laws. -/
abbrev Upholds.Outcome (s : State) (o : Host.Outcome State Fault Refusal) : Prop := ∀ t, o = .next t → Upholds s t

theorem Upholds.Outcome.next {s t : State} (h : Upholds s t) : Upholds.Outcome s (.next t) := fun _ ht => by cases ht; exact h

theorem Upholds.Outcome.ite {s t : State} {c : Prop} [Decidable c] (h : Upholds s t) :
    Upholds.Outcome s (if c then .next t else .next s) := by
  split
  · exact .next h
  · exact .next (.refl s)

theorem execMinuteBoundary_upholds : Upholds.Outcome s (execMinuteBoundary s) := by
  have hnoted : Upholds s { s with tb := { s.tb with minuteDue := false } } := .of_stations
  exact .ite (hnoted.trans (State.evaluate_upholds _ _))

theorem execMasterBoundary_upholds : Upholds.Outcome s (execMasterBoundary s) := by
  have hnoted : Upholds s { s with tb := { s.tb with masterDue := false } } := .of_stations
  unfold execMasterBoundary
  split
  · dsimp only
    split
    · next hg => exact .next (hnoted.trans (State.takeOver_upholds _ hg))
    · exact .next hnoted
  · exact .next (.refl s)

theorem execIncidentChange_upholds (level : Bool) : Upholds.Outcome s (execIncidentChange level s) := by
  unfold execIncidentChange
  split
  · exact .next (.refl s)
  · have hlevel : Upholds s { s with hl := { s.hl with level } } := .of_stations
    exact .next (hlevel.trans (State.reholdAll_stays _).upholds)

/-! ## A station's cycle (R84, R88) -/

theorem execLocalZero_upholds (k : StationIx) : Upholds.Outcome s (execLocalZero k s) := by
  unfold execLocalZero
  split
  · exact .next (.refl s)
  · split
    · exact .next (.refl s)
    · exact .ite (s.takeZero_stays _ _ _ _).upholds

theorem execOrderPoint_upholds (k : StationIx) : Upholds.Outcome s (execOrderPoint k s) := by
  unfold execOrderPoint
  split
  · exact .next (.refl s)
  · split
    · exact .next (.refl s)
    · split
      · dsimp only
        split
        · exact .next ((s.modModel_stays k _).trans (State.raiseOrderPoint_stays _ _ _ _)).upholds
        · exact .next (s.modModel_stays k _).upholds
      · exact .next (.refl s)

/-! ## The geometry requests (R6, R8) -/

theorem State.defineCorridor_upholds (n : Nat) (hidle : s.ps.corridor = .idle) : Upholds s (s.defineCorridor n) := by
  have hps : ((s.emitAll s.redefinition).redefined n).ps = s.ps := by
    rw [State.emitAll_eq]; rfl
  have htb : ((s.emitAll s.redefinition).redefined n).tb = s.tb := by
    rw [State.emitAll_eq]; rfl
  rw [State.defineCorridor_eq]
  generalize hu : (s.emitAll s.redefinition).redefined n = u at hps htb
  have hblank (k : StationIx) : u.st k = .blank := by rw [← hu, State.redefined_st]
  refine ⟨fun h => ?_, fun h => ?_⟩
  · refine u.judgeAll_corridorLaw ?_
    rw [State.corridorLaw_iff] at h ⊢
    obtain ⟨⟨hactive, hstaged, hmaster⟩, -⟩ := h
    refine ⟨⟨?_, ?_, ?_⟩, fun k => ?_⟩
    · rw [hps]; exact hactive
    · rw [hps]; exact hstaged
    · rw [hps, htb]; exact hmaster
    · rw [hblank]
      exact ⟨fun _ => rfl, fun _ h => absurd rfl h, fun h => by cases h⟩
  · obtain ⟨-, hnone, -⟩ := h
    obtain ⟨hactive, hstaged⟩ := hnone hidle
    refine State.serviceLaw_of_judged (fun g x => u.judgeAll_verdict) ?_ ?_ <;> rw [State.judgeAll_eq, hps] <;> assumption

theorem State.rehold_upholds (k : StationIx) : Upholds s (s.rehold k) := (s.rehold_stays k).upholds

/-- LOAD_STATION leaves every station within the corridor law (R8). -/
theorem State.loadStation_corridorLaw (k : StationIx) (c : StationConfig) (h : s.CorridorLaw) : (s.loadStation k c).CorridorLaw := by
  have hstored : (s.stored k c).CorridorLaw := by
    refine h.of_stays rfl rfl rfl rfl fun j => ?_
    unfold State.stored
    rw [State.st_modSt]
    split
    · next hj => subst hj; rw [Station.loadMinimums_eq]; exact .of_same
    · exact .refl _
  have hrelinked (u : State) (again : Bool) : Upholds u (u.relinked k again) := by
    unfold State.relinked
    split
    · exact u.resetLink_upholds k _
    · exact .refl u
  have hrestructured (u : State) (again : Bool) : Upholds u (u.restructured k again) := by
    have hcleared : Stays u (u.modSt k (·.restructure)) := .modSt .of_same
    unfold State.restructured
    split
    · exact hcleared.upholds
    · exact .refl u
  have hheld (a b : Bool) := (((hrelinked (s.stored k c) a).trans (hrestructured _ b)).trans (State.rehold_upholds _ k)).corridor hstored
  rw [State.loadStation_eq]
  exact State.judgeAll_corridorLaw _ (hheld _ _)

/-- The minimums that LOAD_STATION stores outside IDLE at a loaded station are the ones against which it judged the plans in service
(R8; Table 1-4, step 10). -/
theorem State.loadStation_judge {k : StationIx} {c : StationConfig} (hmoving : s.ps.corridor ≠ .idle) (hk : (s.st k).config ≠ none)
    (p : Plan) : (s.loadStation k c).judge p
      = (s.modSt k fun t => { t with config := t.config.map fun x => { x with minimums := c.minimums } }).judge p := by
  have hloaded (j : StationIx) : ((s.loadStation k c).st j).config = ((s.stored k c).st j).config := by
    rw [State.loadStation_standing hmoving, State.reviewed_field Station.config fun _ => rfl]
  refine State.judge_congr_minimums ?_ (fun j => ?_) p
  · rw [State.loadStation_frame_standing hmoving]; rfl
  · rw [hloaded, State.stored, State.st_modSt, State.st_modSt]
    split
    · next hj =>
      subst hj
      obtain ⟨c0, hc0⟩ := Option.ne_none_iff_exists'.1 hk
      simp [hc0]
    · rfl

/-- LOAD_STATION takes the verdicts afresh, and outside IDLE spoils no plan in service (R8, R16; Table 1-4, step 10). -/
theorem State.loadStation_serviceLaw {k : StationIx} {c : StationConfig} (hk : s.count.any (k.val < ·) = true)
    (hspoiled : s.ps.corridor ≠ .idle → s.spoiledPlan k c.minimums = none) (h : s.ServiceLaw) : (s.loadStation k c).ServiceLaw := by
  have hps : (s.loadStation k c).ps = { s.ps with slots := (s.loadStation k c).ps.slots } := State.loadStation_ps
  have hverdict : ∀ g : Fin 8, ∀ x ∈ (s.loadStation k c).ps.slots[g], x.verdict = (s.loadStation k c).judge x.plan :=
    fun g x hx => State.loadStation_verdict hx
  have ⟨_, hidle, hactive, hstaged⟩ := h
  by_cases hmoving : s.ps.corridor = .idle
  · refine State.serviceLaw_of_judged hverdict ?_ ?_ <;> rw [hps]
    · exact (hidle hmoving).1
    · exact (hidle hmoving).2
  · have hvalid (g : Nat) (hmem : g ∈ s.ps.active.toList ++ s.ps.staged.toList) (hg : s.planValid g = true) :
        (s.loadStation k c).planValid g = true := by
      obtain ⟨x, hx, hjudge⟩ := State.ServiceLaw.judge_valid h hg
      have hloaded := State.geometryValid_loaded (State.geometryValid_of_valid hjudge) hk
      have hspared := List.find?_eq_none.1 (hspoiled hmoving) g hmem
      rw [hx, Option.any_some, decide_eq_true_eq, not_not, ← s.loadStation_judge hmoving hloaded] at hspared
      obtain ⟨i, rfl, hi⟩ := State.slot_mem hx
      have hplan := s.loadStation_plans (k := k) (c := c) i
      rw [hi, Option.map_some, Option.map_eq_some_iff] at hplan
      obtain ⟨y, hy, hyx⟩ := hplan
      rw [State.planValid_iff]
      refine ⟨y, (State.slot_succ _ i).trans hy, ?_⟩
      rw [hverdict i y hy, hyx]; exact hspared
    refine ⟨hverdict, ?_, fun g hg => ?_, fun g hg => ?_⟩
    · rw [hps]; exact hidle
    · have hg' : s.ps.active = some g := by rw [hps] at hg; exact hg
      exact hvalid g (by simp [hg']) (hactive g hg')
    · have hg' : s.ps.staged = some g := by rw [hps] at hg; exact hg
      exact hvalid g (by simp [hg']) (hstaged g hg')

/-- A request that is refused changes nothing; one that is served has passed every check. -/
theorem State.checked_upholds {l : List (Bool × Result)} {r : Result × State} (h : (∀ x ∈ l, x.1 = false) → Upholds s r.2) :
    Upholds s (s.checked l r).2 := by
  unfold State.checked
  split
  · exact .refl s
  · next hnone => exact h (firstFailure_eq_none.1 hnone)

theorem State.ownDefineCorridor_upholds (p : List Byte) : Upholds s (s.ownDefineCorridor p).2 := by
  refine s.checked_upholds fun h => ?_
  simp only [fieldCheck, State.busyCheck, forall_checks_cons, decide_eq_false_iff_not, ne_eq, not_not] at h
  obtain ⟨-, -, hidle, -⟩ := h
  exact s.defineCorridor_upholds _ hidle

theorem State.ownLoadStation_upholds (p : List Byte) : Upholds s (s.ownLoadStation p).2 := by
  unfold State.ownLoadStation
  split
  · exact .refl s
  · split
    · exact .refl s
    · split
      · exact .refl s
      · split
        · exact .refl s
        · next count hcount k hk =>
          obtain ⟨hki, hlt⟩ := State.stationOf_eq_some.1 hk
          refine s.checked_upholds fun h => ⟨s.loadStation_corridorLaw k _, s.loadStation_serviceLaw (hki ▸ hlt) fun hmoving => ?_⟩
          simp only [forall_checks_append, State.loadChecks, List.mem_cons, forall_eq_or_imp] at h
          obtain ⟨-, -, -, -, hspoiled, -⟩ := h
          by_contra hne
          obtain ⟨g, hg⟩ := Option.ne_none_iff_exists'.1 hne
          rw [show s.spoiledPlan k (loadedMinimums p (rd8 p 2)) = some g from hg] at hspoiled
          exact absurd hspoiled (by simpa using hmoving)

/-! ## The plans and the schedule (R18, R25, R26, R28, R29) -/

/-- A plan out of service is replaced with its verdict (R16, R18). -/
theorem State.storePlan_upholds {g : Nat} (x : Plan) (hg : g ≠ 0) (ha : s.ps.active ≠ some g) (hs : s.ps.staged ≠ some g) :
    Upholds s (s.storePlan g x) where
  corridor h := h.of_stays rfl rfl rfl rfl fun _ => .refl _
  service h := by
    have ⟨hverdict, hidle, hactive, hstaged⟩ := h
    have hvalid (p : Nat) (hp : p ≠ g) : (s.storePlan g x).planValid p = s.planValid p := by
      rw [State.planValid, State.planValid, s.storePlan_slot x hg hp]
    refine ⟨fun i y hy => ?_, hidle, fun p hp => ?_, fun p hp => ?_⟩
    · rw [State.judge_congr_config (s := s) (t := s.storePlan g x) rfl fun _ => rfl]
      simp only [State.storePlan, Option.mem_def, Fin.getElem_fin, Vector.getElem_setIfInBounds] at hy
      split at hy
      · cases hy; rfl
      · exact hverdict i y hy
    · rw [hvalid p fun e => ha (e ▸ hp)]; exact hactive p hp
    · rw [hvalid p fun e => hs (e ▸ hp)]; exact hstaged p hp

theorem State.ownLoadPlan_upholds (p : List Byte) : Upholds s (s.ownLoadPlan p).2 := by
  unfold State.ownLoadPlan
  dsimp only
  split
  · exact .refl s
  · next hnone =>
    rw [firstFailure_eq_none] at hnone
    simp only [fieldCheck, State.busyCheck, forall_checks_cons, outside_eq_false] at hnone
    obtain ⟨-, -, ⟨hg, -⟩, -⟩ := hnone
    split
    · exact .refl s
    · refine s.checked_upholds fun h => ?_
      simp only [List.cons_append, forall_checks_append, forall_checks_cons, fieldCheck, Bool.or_eq_false_iff,
        decide_eq_false_iff_not] at h
      obtain ⟨-, -, -, ⟨ha, hs⟩, -⟩ := h
      exact s.storePlan_upholds _ (by omega) ha hs

theorem State.ownAddSchedule_upholds (p : List Byte) : Upholds s (s.ownAddSchedule p).2 :=
  s.checked_upholds fun _ => .of_stations

theorem State.ownDeleteSchedule_upholds (p : List Byte) : Upholds s (s.ownDeleteSchedule p).2 := by
  refine s.checked_upholds fun _ => ?_
  dsimp only
  split
  · exact .of_stations
  · exact .refl s

theorem State.ownSetClock_upholds (p : List Byte) : Upholds s (s.ownSetClock p).2 := by
  have hset (day time : Nat) : Upholds s (s.setClock day time) := .of_stations
  exact s.checked_upholds fun _ => ((hset _ _).trans (State.emit_stays _ _).upholds).trans (State.evaluate_upholds _ _)

theorem State.enableRequest_upholds (on : Bool) (reason : Reason) : Upholds s (s.enableRequest on reason).2 := by
  have henable : Upholds s (s.setEnable on) := .of_stations
  exact henable.trans (State.evaluate_upholds _ _)

theorem State.setOverride_upholds (g : Option Nat) : Upholds s (s.setOverride g) := .of_stations

theorem State.ownSelectPlan_upholds (p : List Byte) : Upholds s (s.ownSelectPlan p).2 := by
  unfold State.ownSelectPlan
  dsimp only
  split
  · exact .refl s
  · split
    · exact .refl s
    · exact (s.setOverride_upholds _).trans (State.evaluate_upholds _ _)

theorem State.ownReleasePlan_upholds : Upholds s s.ownReleasePlan.2 := by
  unfold State.ownReleasePlan
  split
  · exact .refl s
  · exact (s.setOverride_upholds _).trans (State.evaluate_upholds _ _)

/-! ## Holds, masks and the incident input (R54, R57, R117) -/

theorem State.ownHoldStation_upholds (p : List Byte) : Upholds s (s.ownHoldStation p).2 := by
  have hheld (k : StationIx) (on : Bool) : Stays s (s.holdStation k on) := Stays.trans (.modSt .of_same) (State.rehold_stays _ _)
  unfold State.ownHoldStation
  dsimp only
  split
  · exact .refl s
  · split
    · exact .refl s
    · exact (hheld _ _).upholds

theorem State.ownSetPriorityMask_upholds (p : List Byte) : Upholds s (s.ownSetPriorityMask p).2 := by
  have hmasked (k : StationIx) (a b : Bool) : Stays s (s.setMasks k a b) := by
    have hmasks : Stays s (s.modSt k fun t => { t with maskIn := a, maskOut := b }) := .modSt .of_same
    unfold State.setMasks
    exact hmasks.trans .of_stations
  unfold State.ownSetPriorityMask
  split
  · exact .refl s
  · split
    · exact .refl s
    · split
      · exact .refl s
      · exact s.checked_upholds fun _ => (hmasked _ _ _).upholds

/-- No law here reads the incident gates. -/
theorem State.gatesSet_upholds (gates : Nat) : Upholds s (s.gatesSet gates) := by
  generalize hu : s.gatesSet gates = u
  have hst (k : StationIx) : u.st k = (s.st k).setGate (gates.testBit k.val) := by rw [← hu]; exact s.gatesSet_st gates k
  have heq : u = { s with stations := u.stations } := by rw [← hu]; exact s.gatesSet_eq gates
  have hps : u.ps = s.ps := by rw [heq]
  have hjudge (p : Plan) : u.judge p = s.judge p := by
    refine State.judge_congr_minimums (by rw [heq]) (fun k => ?_) p
    rw [hst, Station.setGate, Option.map_map]; rfl
  refine ⟨fun h => ?_, fun h => ?_⟩
  · exact h.of_stays (by rw [hps]) (by rw [hps]) (by rw [hps]) (by rw [heq]) fun k => by rw [hst]; exact .of_same
  · have hvalid (g : Nat) : u.planValid g = s.planValid g := State.planValid_congr (by rw [hps]) g
    simp only [State.ServiceLaw, hjudge, hvalid, hps]
    exact h

theorem State.ownSetIncident_upholds (p : List Byte) : Upholds s (s.ownSetIncident p).2 := by
  have hset (x : Polarity) (gates : Nat) : Upholds s (s.setIncident x gates) := by
    have hpolarity : Upholds s { s with hl := { s.hl with polarity := x } } := .of_stations
    rw [State.setIncident_eq]
    exact (hpolarity.trans (State.gatesSet_upholds _ _)).trans (State.reholdAll_stays _).upholds
  unfold State.ownSetIncident
  refine s.checked_upholds fun _ => ?_
  dsimp only
  exact hset _ _

/-! ## Requests on the table and on the event queue (R126, R130, R152, R157) -/

theorem State.addRoute_stays (r : RouteFields) (l : List StationIx) : Stays s (s.addRoute r l).2 := by
  induction l generalizing s with
  | nil => exact .refl s
  | cons k ks ih =>
    unfold State.addRoute
    split
    · exact ih s
    · exact (s.addEntry_stays _).trans (ih _)

theorem State.ownRouteClear_upholds (p : List Byte) : Upholds s (s.ownRouteClear p).2 :=
  s.checked_upholds fun _ => ((s.displace_stays _).trans (State.addRoute_stays _ _ _)).upholds

theorem State.ownCancelRequest_upholds (p : List Byte) : Upholds s (s.ownCancelRequest p).2 := by
  unfold State.ownCancelRequest
  dsimp only
  split
  · exact .refl s
  · exact (s.departAll_stays _ _).upholds

theorem State.transmit_stays (f : TxFrame) : Stays s (s.transmit f) := by
  rw [State.transmit_eq]
  exact .of_stations

theorem State.noticeReport_stays : Stays s s.noticeReport := by
  have harmed : Stays s { s with hli := { s.hli with armed := false } } := .of_stations
  unfold State.noticeReport
  split
  · exact harmed.trans (State.transmit_stays _ _)
  · exact .refl s

theorem State.ownSetNotice_upholds (p : List Byte) : Upholds s (s.ownSetNotice p).2 := by
  refine s.checked_upholds fun _ => ?_
  have hset (on : Bool) : Stays s { s with hli := { s.hli with notice := on, armed := on } } := .of_stations
  unfold State.setNotice
  dsimp only
  split
  · exact ((hset _).trans (State.noticeReport_stays _)).upholds
  · exact (hset _).upholds

/-! ## Serving and answering (R145 to R149) -/

theorem State.ownSave_upholds : Upholds s s.ownSave.2 := by
  unfold State.ownSave
  split
  · exact .refl s
  · exact .of_stations

theorem State.ownReset_upholds : Upholds s s.ownReset.2 := by
  unfold State.ownReset
  split
  · exact .refl s
  · exact .of_stations

theorem State.ownQueryPlan_snd (p : List Byte) : (s.ownQueryPlan p).2 = s := by
  unfold State.ownQueryPlan
  dsimp only
  split
  · rfl
  · split <;> rfl

theorem State.owner_upholds (kind : Nat) (p : List Byte) : Upholds s (s.owner kind p).2 := by
  unfold State.owner
  split
  · exact s.ownDefineCorridor_upholds p
  · exact s.ownLoadStation_upholds p
  · exact s.ownLoadPlan_upholds p
  · rw [State.ownQueryPlan_snd]; exact .refl s
  · exact s.ownAddSchedule_upholds p
  · exact s.ownDeleteSchedule_upholds p
  · exact s.ownSetClock_upholds p
  · exact s.enableRequest_upholds _ _
  · exact s.enableRequest_upholds _ _
  · exact s.ownSelectPlan_upholds p
  · exact s.ownReleasePlan_upholds
  · exact s.ownHoldStation_upholds p
  · exact s.ownSetPriorityMask_upholds p
  · exact s.ownSetIncident_upholds p
  · exact s.checked_upholds fun _ => .of_stations
  · exact s.ownRouteClear_upholds p
  · exact s.ownCancelRequest_upholds p
  · exact .refl s
  · exact .refl s
  · exact .refl s
  · exact .of_stations
  · exact s.ownSetNotice_upholds p
  · exact s.ownSave_upholds
  · exact s.ownReset_upholds
  · exact .refl s

theorem State.serve_upholds (f : HostFrame) : Upholds s (s.serve f).2 := by
  unfold State.serve
  split
  · exact .refl s
  · split
    · exact .refl s
    · exact s.owner_upholds _ _

theorem State.reply_stays (f : HostFrame) (r : Result) : Stays s (s.reply f r) := by
  have hclear : Stays s { s with hli := { s.hli with overrun := false } } := .of_stations
  exact hclear.trans (State.transmit_stays _ _)

theorem State.takeFrame_upholds (f : HostFrame) : Upholds s (s.takeFrame f) :=
  (s.serve_upholds f).trans (State.reply_stays _ f _).upholds

theorem State.offer_upholds (f : HostFrame) : Upholds s (s.offer f) := by
  unfold State.offer
  split
  · exact s.takeFrame_upholds f
  · split <;> exact .of_stations

theorem State.hostFrame_upholds (kind echo : Byte) (p : List Byte) : Upholds s (s.hostFrame kind echo p) := by
  have hheard : Upholds s { s with hli := { s.hli with rx := .hunting } } := .of_stations
  unfold State.hostFrame
  split
  · exact .refl s
  · exact hheard.trans (State.offer_upholds _ _)

theorem State.takeWaiting_upholds : Upholds s s.takeWaiting := by
  unfold State.takeWaiting
  split
  · split
    · next rest _ _ =>
      have hrest : Upholds s { s with hli := { s.hli with received := rest } } := .of_stations
      exact hrest.trans (State.takeFrame_upholds _ _)
    · exact .refl s
  · exact .refl s

theorem State.frameSent_stays : Stays s s.frameSent := by
  have htail : Stays s { s with hli := { s.hli with transmit := s.hli.transmit.tail } } := .of_stations
  have hbegun (u : State) : Stays u u.beginHead := by
    rw [State.beginHead_eq]
    exact .of_stations
  exact htail.trans (hbegun _)

theorem execHostFrameReceived_upholds (rest : List Byte) : Upholds.Outcome s (execHostFrameReceived rest s) := by
  have hheard : Upholds s { s with hli := { s.hli with rx := .hunting } } := .of_stations
  unfold execHostFrameReceived
  split
  · split
    · dsimp only
      split
      · exact .next (hheard.trans (State.offer_upholds _ _))
      · exact .next hheard
    · exact .next (.refl s)
  · exact .next (.refl s)
  · exact .next (.refl s)

theorem execHostFrameSent_upholds : Upholds.Outcome s (execHostFrameSent s) := by
  have hnoted (u : State) : Upholds u u.noteEmptied := Stays.upholds .of_stations
  unfold execHostFrameSent
  split
  · exact .next (.refl s)
  · split
    · exact .next (s.frameSent_stays.upholds.trans (hnoted _))
    · exact .next (s.frameSent_stays.upholds.trans (State.takeWaiting_upholds _))

theorem execWaitingFrameRefused_upholds : Upholds.Outcome s (execWaitingFrameRefused s) := by
  unfold execWaitingFrameRefused
  split
  · next rest _ =>
    have hrest : Upholds s { s with hli := { s.hli with received := rest } } := .of_stations
    exact .ite (hrest.trans (State.reply_stays _ _ _).upholds)
  · exact .next (.refl s)

/-! ## The resets (R160) -/

/-- After a reset, and before the occasion is evaluated, the corridor is IDLE with no plan in service, its stations FREE, and every verdict
taken (R160). -/
theorem State.readied_upholds {image : Image} {tb : TimeBase} (level : Bool) (hm : tb.m = 0) : Upholds s (s.readied image tb level) := by
  have hfresh := State.readied_fresh (s := s) image tb level
  have htb : (s.readied image tb level).tb = tb := by rw [State.readied_eq]
  refine ⟨fun _ => ?_, fun _ => State.serviceLaw_of_judged (fun g x hx => ?_) hfresh.active hfresh.staged⟩
  · rw [State.corridorLaw_iff]
    refine ⟨⟨by simp [hfresh.active, hfresh.idle], fun h => absurd hfresh.staged h, fun _ => by rw [htb]; exact hm⟩, fun k => ?_⟩
    rw [State.readied_st]
    exact ⟨fun _ => rfl, fun _ h => absurd rfl h, fun h => by cases h⟩
  · rw [State.readied_slots, Option.mem_def, Option.map_eq_some_iff] at hx
    obtain ⟨y, -, rfl⟩ := hx
    dsimp only

theorem State.afterReset_upholds (image : Image) {tb : TimeBase} (level : Bool) (hm : tb.m = 0) :
    Upholds s (s.afterReset image tb level) := by
  rw [State.afterReset_eq]
  exact (s.readied_upholds level hm).trans (State.evaluate_upholds _ _)

/-! ## Every command -/

/-- What a command does to the entry in a slot, if there is one that meets its condition, upholds the laws. -/
theorem execAtEntry_upholds {o : Option Entry} {f : Entry → Host.Outcome State Fault Refusal} (hf : ∀ e, Upholds.Outcome s (f e)) :
    Upholds.Outcome s (match o with | some e => f e | none => .next s) := by
  cases o
  · exact .next (.refl s)
  · exact hf _

theorem exec_upholds (i : Instr) : Upholds.Outcome s (exec i s) := by
  cases i with
  | powerOnReset level => exact .next (s.afterReset_upholds _ level rfl)
  | tick => exact .next s.advance_upholds
  | minuteBoundary => exact execMinuteBoundary_upholds s
  | masterBoundary => exact execMasterBoundary_upholds s
  | incidentChange level => exact execIncidentChange_upholds s level
  | localZero k => exact execLocalZero_upholds s k
  | orderPoint k => exact execOrderPoint_upholds s k
  | orderDeadlinePassed k =>
    show Upholds.Outcome s (execOrderDeadlinePassed k s)
    unfold execOrderDeadlinePassed
    split
    · next ho => exact .ite (s.dropOrder_upholds ho)
    · exact .next (.refl s)
  | reviseLatestTickPassed k =>
    show Upholds.Outcome s (execReviseLatestTickPassed k s)
    unfold execReviseLatestTickPassed
    split
    · exact .ite (s.withdrawRevise_stays k).upholds
    · exact .next (.refl s)
  | transitExpiry slot => exact execAtEntry_upholds s fun _ => .ite (s.depart_stays _ _).upholds
  | emergencyExpiry slot => exact execAtEntry_upholds s fun _ => .ite (s.depart_stays _ _).upholds
  | routeDue slot => exact execAtEntry_upholds s fun _ => .ite (s.comeDue_stays _).upholds
  | routeTooLate slot => exact execAtEntry_upholds s fun _ => .ite (s.depart_stays _ _).upholds
  | routeRefused slot => exact execAtEntry_upholds s fun _ => .ite (s.depart_stays _ _).upholds
  | slotStart =>
    have hbegun : Stays s { s with clc := { s.clc with slotOpen := false } } := .of_stations
    show Upholds.Outcome s (execSlotStart s)
    unfold execSlotStart
    split
    · dsimp only
      split
      · exact .next (hbegun.trans (State.startSlot_stays _)).upholds
      · exact .next hbegun.upholds
    · exact .next (.refl s)
  | exchangeEnd heard a b =>
    show Upholds.Outcome s (execExchangeEnd heard a b s)
    unfold execExchangeEnd
    split
    · exact .next (s.endExchange_upholds _ heard a b)
    · exact .next (.refl s)
  | saveComplete passes =>
    have hended (t : Tick) : Upholds s (s.endSave t passes) := (s.emit_stays _).upholds.trans .of_stations
    show Upholds.Outcome s (execSaveComplete passes s)
    unfold execSaveComplete
    split
    · exact .ite (hended _)
    · exact .next (.refl s)
  | hostFrameReceived rest => exact execHostFrameReceived_upholds s rest
  | hostFrameAbandoned =>
    show Upholds.Outcome s (execHostFrameAbandoned s)
    unfold execHostFrameAbandoned
    split
    · exact .next .of_stations
    · exact .next (.refl s)
    · exact .next (.refl s)
  | hostFrameSent => exact execHostFrameSent_upholds s
  | badKind kind echo p =>
    show Upholds.Outcome s (execBadKind kind echo p s)
    unfold execBadKind
    split
    · exact .next (.refl s)
    · exact .next (s.hostFrame_upholds _ _ _)
  | waitingFrameRefused => exact execWaitingFrameRefused_upholds s
  | resetCarriedOut level =>
    show Upholds.Outcome s (execResetCarriedOut level s)
    unfold execResetCarriedOut
    exact .ite (s.afterReset_upholds _ level rfl)
  | hostFrameBegun length =>
    show Upholds.Outcome s (execHostFrameBegun length s)
    unfold execHostFrameBegun
    exact .ite .of_stations
  | _ => exact .next (s.hostFrame_upholds _ _ _)

theorem step_upholds : Upholds.Outcome s (step s) := by
  unfold step
  split
  · exact .next (.refl s)
  · next c rest _ =>
    have htaken : Upholds s { s with pending := rest } := .of_stations
    exact fun t ht => htaken.trans (exec_upholds _ c t ht)

end Sys2Proof.Machine

open Sys2Proof.Machine

/-- Settles O7: every update of a step leaves the plans and m in accord with the corridor state, and every station's record within what
that state allows. -/
theorem stepKeepsTheCorridorLaw : Obligations.StepKeepsTheCorridorLaw :=
  fun s t h hst => (step_upholds s t hst).corridor h

/-- Settles O8: a plan comes into service when it is valid, and no update of the geometry or of a slot spoils one in service. -/
theorem stepKeepsTheServiceLaw : Obligations.StepKeepsTheServiceLaw :=
  fun s t h hst => (step_upholds s t hst).service h
end

section
/-! SUPPORT. Plan evaluation at an occasion of R39, case by case, and the events it writes (R22 to R24, R39, R156). -/

-- One proof at a time: elaborated in parallel, each proof that waits for an earlier one holds a thread and its stack.
set_option Elab.async false

namespace Sys2Proof.Machine

/-! ## The same events in two states (R156) -/

/-- The Event Queue, the host link and the clock, on which a written event depends, stand in `t` as in `s`. -/
structure SameEvents (s t : State) : Prop where
  eq : t.eq = s.eq := by rfl
  hli : t.hli = s.hli := by rfl
  clockSet : t.tb.clockSet = s.tb.clockSet := by rfl
  time : t.tb.time = s.tb.time := by rfl

namespace SameEvents

variable {s t u : State}

theorem trans (h : SameEvents s t) (h' : SameEvents t u) : SameEvents s u :=
  ⟨h'.eq.trans h.eq, h'.hli.trans h.hli, h'.clockSet.trans h.clockSet, h'.time.trans h.time⟩

theorem emit (h : SameEvents s t) (b : EventBody) : SameEvents (s.emit b) (t.emit b) := by
  obtain ⟨heq, hhli, hclock, htime⟩ := h
  refine ⟨?_, ?_, by simp [hclock], by simp [htime]⟩
  all_goals
    simp only [State.emit, State.noticeReport, State.transmit, State.beginHead, heq, hhli, hclock, htime]
    split
    · split
      · split
        · split <;> rfl
        · rfl
      · rfl
    · rfl

theorem emitAll (h : SameEvents s t) (l : List EventBody) : SameEvents (s.emitAll l) (t.emitAll l) := by
  induction l generalizing s t with
  | nil => exact h
  | cons b l ih => exact ih (h.emit b)

/-- An event written in a state of the same events. -/
theorem wrote (h : SameEvents s t) (b : EventBody) : s.wrote (t.emit b) [b] := ⟨(h.emit b).eq, (h.emit b).hli⟩

end SameEvents

/-! ## The governing plan and the may-run condition (R22, R39) -/

variable (s : State)

/-- The governing plan reads the override, the schedule and the clock (R22). -/
theorem State.governing_congr {s t : State} (override : t.ps.override = s.ps.override) (schedule : t.ps.schedule = s.ps.schedule)
    (tb : t.tb = s.tb) : t.governing = s.governing := by
  simp only [State.governing, State.schedulePlan, override, schedule, tb]

@[simp] theorem State.planEvaluation_governing : s.planEvaluation.governing = s.governing :=
  State.governing_congr (by rw [State.planEvaluation_eq]) (by rw [State.planEvaluation_eq]) (by simp)

/-- The other terms of Table 3-1 beside the plan term (R39). -/
def State.ready (s : State) : Bool := s.ps.enable && s.tb.clockSet && s.geometryValid

theorem State.mayRun_eq : s.mayRun = (s.ready && s.planTerm) := by
  simp [State.mayRun, allTerms, State.termHolds, State.ready, Bool.and_assoc]

@[simp] theorem State.planEvaluation_ready : s.planEvaluation.ready = s.ready := by
  have hgeometry : s.planEvaluation.geometryValid = s.geometryValid := by
    simp only [State.geometryValid, State.planEvaluation_count, State.st_congr s.planEvaluation_stations]
  rw [State.ready, hgeometry, State.planEvaluation_tb, show s.planEvaluation.ps.enable = s.ps.enable by rw [State.planEvaluation_eq]]
  rfl

/-- Plan evaluation leaves the may-run condition (R39). -/
@[simp] theorem State.planEvaluation_mayRun : s.planEvaluation.mayRun = s.mayRun := by
  have hterm : s.planEvaluation.planTerm = s.planTerm := by
    simp only [State.planTerm, State.planEvaluation_corridor, State.planEvaluation_governing,
      State.planValid_congr s.planEvaluation_slots]
  rw [State.mayRun_eq, State.planEvaluation_ready, hterm, ← State.mayRun_eq]

section
variable {s}

/-- A RUNNING corridor that may run is evaluated and stays RUNNING (R39). -/
theorem State.evaluate_of_running (hr : s.ps.corridor = .running) (h : s.mayRun = true) (r : Reason) :
    s.evaluate r = s.planEvaluation := by
  rw [State.evaluate, State.planEvaluation_corridor, hr, State.planEvaluation_mayRun, h]
  rfl

theorem State.mayRun_of_running (hr : s.ps.corridor = .running) : s.mayRun = (s.ready && decide (s.governing ≠ 0)) := by
  rw [State.mayRun_eq, State.planTerm, hr]

/-! ## Plan evaluation while RUNNING (R23, R24) -/

variable (hr : s.ps.corridor = .running)
include hr

theorem State.planEvaluation_of_active (h : s.ps.active = some s.governing) :
    s.planEvaluation = { s with ps := { s.ps with staged := none, rejection := none } } := by
  rw [State.planEvaluation, hr]
  exact if_pos h

theorem State.planEvaluation_of_valid (ha : s.ps.active ≠ some s.governing) (hv : s.planValid s.governing = true) :
    s.planEvaluation = { s with ps := { s.ps with staged := some s.governing, rejection := none } } := by
  have hne : s.governing ≠ 0 := fun h => by rw [h, State.planValid_zero] at hv; cases hv
  rw [State.planEvaluation, hr]
  exact ((if_neg ha).trans (if_neg hne)).trans (if_pos hv)

theorem State.planEvaluation_of_zero (ha : s.ps.active ≠ some s.governing) (hg : s.governing = 0) :
    s.planEvaluation = s.clearRejection := by
  rw [State.planEvaluation, hr]
  exact (if_neg ha).trans (if_pos hg)

theorem State.planEvaluation_of_invalid (ha : s.ps.active ≠ some s.governing) (hg : s.governing ≠ 0)
    (hv : s.planValid s.governing = false) : s.planEvaluation = s.reject s.governing := by
  rw [State.planEvaluation, hr]
  exact ((if_neg ha).trans (if_neg hg)).trans (if_neg (by rw [hv]; decide))

end

/-! ## A rejected plan (R24) -/

section
variable {s} {g : Nat}

theorem State.reject_of_marked (h : s.ps.rejection = some g) : s.reject g = s := if_pos h

theorem State.reject_of_empty (hm : s.ps.rejection ≠ some g) (h : s.slot g = none) : s.reject g
    = { s.emit (.planRejected g .empty none) with ps := { s.ps with rejection := some g } } := by
  rw [State.reject, if_neg hm, h]
  simp

theorem State.reject_of_failed {x : PlanSlot} {item : FailItem} (hm : s.ps.rejection ≠ some g) (h : s.slot g = some x)
    (hx : x.verdict = .invalid item) : s.reject g
    = { s.emit (.planRejected g item.reason item.station) with ps := { s.ps with rejection := some g } } := by
  rw [State.reject, if_neg hm, h]
  simp [hx]

theorem State.planValid_of_empty (h : s.slot g = none) : s.planValid g = false := by simp [State.planValid, h]

theorem State.planValid_of_failed {x : PlanSlot} {item : FailItem} (h : s.slot g = some x) (hx : x.verdict = .invalid item) :
    s.planValid g = false := by simp [State.planValid, h, hx]

end

end Sys2Proof.Machine

open Sys2Proof Sys2Proof.Machine

/-- Settles O16: with the may-run condition holding, a boundary is a plan evaluation of the governing plan, one case for each of R23 and
R24. -/
theorem minuteBoundaryEvaluatesThePlan : Obligations.MinuteBoundaryEvaluatesThePlan := by
  refine ⟨fun s g hdue hr henable hclock hgeometry hg hg0 => ?_, fun s hdue => ?_⟩
  · intro u
    subst hg
    have hrun : exec .minuteBoundary s = .next u.planEvaluation := by
      have hmay : u.mayRun = true := by
        rw [State.mayRun_of_running (s := u) hr]
        show (s.ps.enable && s.tb.clockSet && s.geometryValid && decide (s.governing ≠ 0)) = true
        simp [henable, hclock, hgeometry, hg0]
      show execMinuteBoundary s = _
      rw [execMinuteBoundary, if_pos hdue, ← State.evaluate_of_running (s := u) hr hmay .minute]
    have hsame : SameEvents s u := {}
    rw [hrun]
    refine ⟨fun ha => ?_, fun ha hv => ?_, fun ha hv hm => ?_, fun ha hslot hm => ?_, fun x item ha hslot hx hm => ?_⟩
    · rw [State.planEvaluation_of_active (s := u) hr ha]
    · rw [State.planEvaluation_of_valid (s := u) hr ha hv]; rfl
    · rw [State.planEvaluation_of_invalid (s := u) hr ha hg0 hv, State.reject_of_marked (s := u) (g := u.governing) hm]
    · rw [State.planEvaluation_of_invalid (s := u) hr ha hg0 (State.planValid_of_empty (s := u) hslot),
        State.reject_of_empty (s := u) (g := u.governing) hm hslot]
      refine ⟨_, rfl, hsame.wrote _, ?_⟩
      rw [State.emit_eq]; rfl
    · rw [State.planEvaluation_of_invalid (s := u) hr ha hg0 (State.planValid_of_failed (s := u) hslot hx),
        State.reject_of_failed (s := u) (g := u.governing) hm hslot hx]
      refine ⟨_, rfl, hsame.wrote _, ?_⟩
      rw [State.emit_eq]; rfl
  · show execMinuteBoundary s = _
    rw [execMinuteBoundary, if_neg (by rw [hdue]; decide)]
end

section
/-! SUPPORT. The verdict on a plan, check by check (R14, R15, Table 2-2). -/

-- One proof at a time: elaborated in parallel, each proof that waits for an earlier one holds a thread and its stack.
set_option Elab.async false

namespace Sys2Proof.Machine

/-! ## One item against a station's minimums -/

/-- The local cycle that an item asks for under a cycle length (R14). -/
def SplitItem.localCycle (i : SplitItem) (cycle : Nat) : Nat := if i.half then cycle / 2 else cycle

section
variable {p : Plan} {k : StationIx} {i : SplitItem} (hi : p.items[k.val]? = some i) {mins : List Nat}
include hi

theorem Plan.splits_of_item : p.splits k = i.splits := by simp [Plan.splits, Plan.item, hi]

theorem Plan.localCycle_of_item : p.localCycle k = i.localCycle p.cycle := by
  simp [Plan.localCycle, Plan.item, hi, SplitItem.localCycle]

theorem judgeItem_of_length (h : i.splits.length ≠ mins.length) :
    judgeItem p k mins = some { reason := .phaseCount, station := some k.val, phase := none } := by
  rw [judgeItem, Plan.splits_of_item hi]
  exact if_pos h

theorem judgeItem_of_sum (hlen : i.splits.length = mins.length) (h : i.splits.sum ≠ i.localCycle p.cycle) :
    judgeItem p k mins = some { reason := .sum, station := some k.val, phase := none } := by
  rw [judgeItem, Plan.splits_of_item hi, Plan.localCycle_of_item hi]
  exact (if_neg (not_not.2 hlen)).trans (if_pos h)

/-- Past the first two checks, the item is judged by its phases against their minimums. -/
theorem judgeItem_of_phases (hlen : i.splits.length = mins.length) (hsum : i.splits.sum = i.localCycle p.cycle) :
    judgeItem p k mins = ((i.splits.zip mins).findIdx? fun x => x.1 < x.2).map fun j =>
      { reason := .minimum, station := some k.val, phase := some (j + 1) } := by
  simp only [judgeItem, Plan.splits_of_item hi, Plan.localCycle_of_item hi, hlen, hsum, ne_eq, not_true_eq_false, if_false]
  cases (i.splits.zip mins).findIdx? fun x => x.1 < x.2 <;> rfl

end

/-- A pair of a phase's split and its minimum. -/
theorem getElem_zip_getD {l l' : List Nat} {j : Nat} (h : j < (l.zip l').length) : (l.zip l')[j] = (l.getD j 0, l'.getD j 0) := by
  have hl : j < l.length ∧ j < l'.length := by simpa using h
  rw [List.getElem_zip, List.getD_eq_getElem _ _ hl.1, List.getD_eq_getElem _ _ hl.2]

/-- The first short phase of splits beside as many minimums. -/
theorem findIdx?_zip_of_short {splits mins : List Nat} {a : Nat} (hlen : splits.length = mins.length) (ha : a < splits.length)
    (hshort : splits.getD a 0 < mins.getD a 0) (hfirst : ∀ j, j < a → mins.getD j 0 ≤ splits.getD j 0) :
    ((splits.zip mins).findIdx? fun x => x.1 < x.2) = some a := by
  have ha' : a < (splits.zip mins).length := by rw [List.length_zip]; omega
  refine List.findIdx?_eq_some_iff_getElem.2 ⟨ha', ?_, fun j hj => ?_⟩
  · simpa [getElem_zip_getD ha'] using hshort
  · have := hfirst j hj
    simp only [getElem_zip_getD (hj.trans ha'), decide_eq_true_eq]; omega

theorem findIdx?_zip_of_long {splits mins : List Nat} (h : ∀ j, j < splits.length → mins.getD j 0 ≤ splits.getD j 0) :
    ((splits.zip mins).findIdx? fun x => x.1 < x.2) = none := by
  refine List.findIdx?_eq_none_iff.2 fun x hx => ?_
  obtain ⟨j, hj, rfl⟩ := List.getElem_of_mem hx
  have := h j (by rw [List.length_zip] at hj; omega)
  simp only [getElem_zip_getD hj, decide_eq_false_iff_not]; omega

/-! ## The verdict (Table 2-2) -/

/-- What the lowest item of a sorted list gives, where the lower ones give nothing. -/
theorem findSome?_of_lowest {ι α : Type} [LT ι] {f : ι → Option α} {l : List ι} (hl : l.Pairwise (· < ·)) {k : ι} (hk : k ∈ l)
    {b : α} (hb : f k = some b) (hlow : ∀ j, j < k → f j = none) : l.findSome? f = some b := by
  induction l with
  | nil => cases hk
  | cons a l ih =>
    obtain ⟨ha, hl⟩ := List.pairwise_cons.1 hl
    obtain rfl | hk := List.mem_cons.1 hk
    · rw [List.findSome?_cons, hb]
    · rw [List.findSome?_cons, hlow a (ha k hk)]
      exact ih hl hk

/-- The verdict that the lowest failing item gives, if there is one (R15). -/
def Verdict.ofItem : Option FailItem → Verdict
  | some item => .invalid item
  | none => .valid

/-- The lowest failing item of a plan for the stations below `N` (R15). -/
def State.lowestFailing (s : State) (p : Plan) (N : Nat) : Option FailItem :=
  allStations.findSome? fun k => if k.val < N then (s.st k).config.bind fun c => judgeItem p k c.minimums else none

variable {s : State} {p : Plan} {N : Nat}

theorem State.geometryValid_iff (hN : s.count = some N) :
    s.geometryValid = true ↔ ∀ k : StationIx, k.val < N → (s.st k).config ≠ none := by
  rw [State.geometryValid, hN, List.all_eq_true]
  refine ⟨fun h k hk => ?_, fun h k _ => ?_⟩
  · have := h k (mem_allStations k)
    simpa [hk, Option.isSome_iff_ne_none] using this
  · by_cases hk : k.val < N
    · simpa [hk, Option.isSome_iff_ne_none] using h k hk
    · simp [hk]

theorem State.judge_of_noCount (h : s.count = none) : s.judge p = .invalid { reason := .geometry, station := none, phase := none } := by
  rw [State.judge, h]

theorem State.judge_of_unloaded (hN : s.count = some N) (h : ∃ k : StationIx, k.val < N ∧ (s.st k).config = none) :
    s.judge p = .invalid { reason := .geometry, station := none, phase := none } := by
  have hgeometry : s.geometryValid = false := by
    rw [← Bool.not_eq_true, State.geometryValid_iff hN]
    obtain ⟨k, hk, hnone⟩ := h
    exact fun hall => hall k hk hnone
  simp [State.judge, hN, hgeometry]

section
variable (hN : s.count = some N) (hloaded : ∀ k : StationIx, k.val < N → (s.st k).config ≠ none)
include hN hloaded

theorem State.judge_of_reference (h : N ≤ p.ref) : s.judge p = .invalid { reason := .reference, station := none, phase := none } := by
  simp [State.judge, hN, (State.geometryValid_iff hN).2 hloaded, h]

variable (href : p.ref < N)
include href

theorem State.judge_of_tidal (h : ∃ x ∈ p.tidal, N ≤ x) :
    s.judge p = .invalid { reason := .tidalStation, station := none, phase := none } := by
  have htidal : p.tidal.any (N ≤ ·) = true := by
    obtain ⟨x, hx, hle⟩ := h
    simp [Option.mem_def.1 hx, hle]
  simp [State.judge, hN, (State.geometryValid_iff hN).2 hloaded, Nat.not_le.2 href, htidal]

variable (htidal : ∀ x ∈ p.tidal, x < N)
include htidal

/-- Past the checks of the geometry, the reference and the tidal station, the list's length and the items decide. -/
theorem State.judge_of_list : s.judge p = if p.items.length ≠ N then .invalid { reason := .listLength, station := none, phase := none }
    else Verdict.ofItem (s.lowestFailing p N) := by
  have hany : p.tidal.any (N ≤ ·) = false := by
    cases h : p.tidal with
    | none => rfl
    | some x => simpa using htidal x h
  simp only [State.judge, hN, (State.geometryValid_iff hN).2 hloaded, Nat.not_le.2 href, hany, Bool.not_true, Bool.false_eq_true, if_false]
  rfl

variable (hlen : p.items.length = N)
include hlen

/-- The lowest failing item decides. -/
theorem State.judge_of_item {k : StationIx} {c : StationConfig} {item : FailItem} (hk : k.val < N) (hc : (s.st k).config = some c)
    (hitem : judgeItem p k c.minimums = some item)
    (hlow : ∀ j : StationIx, j < k → ∀ c ∈ (s.st j).config, judgeItem p j c.minimums = none) : s.judge p = .invalid item := by
  have hfind : s.lowestFailing p N = some item := by
    refine findSome?_of_lowest (by decide) (mem_allStations k) (by simp [hk, hc, hitem]) fun j hj => ?_
    split
    · exact Option.bind_eq_none_iff.2 (hlow j hj)
    · rfl
  rw [State.judge_of_list hN hloaded href htidal, if_neg (not_not.2 hlen), hfind, Verdict.ofItem]

theorem State.judge_of_items (h : ∀ k : StationIx, k.val < N → ∀ c ∈ (s.st k).config, judgeItem p k c.minimums = none) :
    s.judge p = .valid := by
  have hfind : s.lowestFailing p N = none := by
    refine List.findSome?_eq_none_iff.2 fun k _ => ?_
    split
    · next hk => exact Option.bind_eq_none_iff.2 (h k hk)
    · rfl
  rw [State.judge_of_list hN hloaded href htidal, if_neg (not_not.2 hlen), hfind, Verdict.ofItem]

end

end Sys2Proof.Machine

open Sys2Proof Sys2Proof.Machine

/-- Settles O45: the checks of Table 2-2 one after another, and among the items the lowest that fails, by its own first failing check. -/
theorem theVerdictFollowsTheChecks : Obligations.TheVerdictFollowsTheChecks := by
  intro s p fails local_ short passes
  refine ⟨State.judge_of_noCount, fun N hN hN16 => ⟨State.judge_of_unloaded hN, fun hloaded => ⟨State.judge_of_reference hN hloaded,
    fun href => ⟨State.judge_of_tidal hN hloaded href, fun htidal => ⟨fun hlen => ?_, fun hlen => ?_⟩⟩⟩⟩⟩
  · exact (State.judge_of_list hN hloaded href htidal).trans (if_pos hlen)
  have hpassed (k : StationIx) (hk : k.val < N) (h : passes k) : ∀ c ∈ (s.st k).config, judgeItem p k c.minimums = none := by
    intro c hc
    have hi : p.items[k.val]? = some (p.items[k.val]'(by omega)) := List.getElem?_eq_getElem _
    obtain ⟨hphases, hsum, hlong⟩ := h c hc _ hi
    rw [judgeItem_of_phases hi hphases hsum, findIdx?_zip_of_long, Option.map_none]
    exact fun j hj => by simpa [short] using hlong j hj
  refine ⟨fun k c i hk hc hi hlow => ?_, fun hall => State.judge_of_items hN hloaded href htidal hlen fun k hk => hpassed k hk (hall k hk)⟩
  have hdecides {item : FailItem} (hitem : judgeItem p k c.minimums = some item) : s.judge p = .invalid item :=
    State.judge_of_item hN hloaded href htidal hlen hk hc hitem fun j hj =>
      hpassed j (lt_trans (Fin.lt_def.1 hj) hk) (hlow j hj)
  refine ⟨fun hphases => hdecides (judgeItem_of_length hi hphases), fun hphases => ⟨fun hsum => ?_, fun a hsum ha hshort hfirst => ?_⟩⟩
  · exact hdecides (judgeItem_of_sum hi hphases hsum)
  · refine hdecides ?_
    rw [judgeItem_of_phases hi hphases hsum, findIdx?_zip_of_short hphases ha (by simpa [short] using hshort)
      (fun j hj => by simpa [short] using hfirst j hj), Option.map_some]
end

section
/-! SUPPORT. The governing-entry search of Table 2-5: its eight steps, and how long ago the entries of each began (R30). -/

-- One proof at a time: elaborated in parallel, each proof that waits for an earlier one holds a thread and its stack.
set_option Elab.async false

namespace Sys2Proof.Machine

/-! ## The latest entry of a step -/

/-- The better of the latest entry so far and the next one (R30). -/
def laterEntry (best : Option ScheduleEntry) (e : ScheduleEntry) : Option ScheduleEntry :=
  if best.any (e.start ≤ ·.start) then best else some e

theorem latestEntry_eq (l : List ScheduleEntry) : latestEntry l = l.foldl laterEntry none := rfl

theorem foldl_laterEntry (b : ScheduleEntry) (l : List ScheduleEntry) :
    ∃ e ∈ b :: l, l.foldl laterEntry (some b) = some e ∧ ∀ x ∈ b :: l, x.start ≤ e.start := by
  induction l generalizing b with
  | nil => exact ⟨b, by simp, rfl, by simp⟩
  | cons a l ih =>
    have hbetter : ∃ c ∈ [b, a], laterEntry (some b) a = some c ∧ b.start ≤ c.start ∧ a.start ≤ c.start := by
      unfold laterEntry
      split
      · next h => exact ⟨b, by simp, rfl, le_rfl, by simpa using h⟩
      · next h => exact ⟨a, by simp, rfl, by simp at h; omega, le_rfl⟩
    obtain ⟨c, hc, hlater, hb, ha⟩ := hbetter
    obtain ⟨e, he, hfold, hmax⟩ := ih c
    have hce := hmax c List.mem_cons_self
    refine ⟨e, ?_, by rw [List.foldl_cons, hlater]; exact hfold, fun x hx => ?_⟩
    · obtain rfl | he := List.mem_cons.1 he
      · simp only [List.mem_cons, List.not_mem_nil, or_false] at hc
        obtain rfl | rfl := hc <;> simp
      · simp [he]
    · obtain rfl | hx := List.mem_cons.1 hx
      · exact hb.trans hce
      · obtain rfl | hx := List.mem_cons.1 hx
        · exact ha.trans hce
        · exact hmax x (List.mem_cons_of_mem _ hx)

@[simp] theorem latestEntry_nil : latestEntry [] = none := rfl

/-- The latest entry of a list that is not empty starts no earlier than any other (R30). -/
theorem latestEntry_of_ne_nil {l : List ScheduleEntry} (h : l ≠ []) :
    ∃ e ∈ l, latestEntry l = some e ∧ ∀ x ∈ l, x.start ≤ e.start := by
  cases l with
  | nil => exact absurd rfl h
  | cons b l => exact foldl_laterEntry b l

/-! ## The steps of the search (Table 2-5) -/

/-- The entry is among those that step `j`, counted from 0, considers at minute `p` of day `d`: today's that have begun, those of the six
days before, and today's that have not begun, which began a week ago (Table 2-5). -/
def ScheduleEntry.atStep (e : ScheduleEntry) (d p : Nat) : Nat → Bool
  | 0 => e.onDay d && e.start ≤ p
  | 7 => e.onDay d && p < e.start
  | j => e.onDay (dayBefore d j)

theorem governingEntry_eq (table : List ScheduleEntry) (d t : Nat) :
    governingEntry table d t = (List.range 8).findSome? fun j => latestEntry (table.filter (·.atStep d (t / 600) j)) := by
  have hrange : List.range 8 = [0, 1, 2, 3, 4, 5, 6, 7] := by decide
  rw [hrange]
  rfl

section
variable {e : ScheduleEntry} {d p j day : Nat}

theorem dayBefore_zero (h1 : 1 ≤ d) (h7 : d ≤ 7) : dayBefore d 0 = d := by unfold dayBefore; omega

theorem dayBefore_mem : dayBefore d j ∈ [1, 2, 3, 4, 5, 6, 7] := by
  have : dayBefore d j = (d + 13 - j) % 7 + 1 := rfl
  simp only [List.mem_cons, List.not_mem_nil, or_false]; omega

/-- An entry that a step considers carries the day that the step looks at. -/
theorem ScheduleEntry.onDay_of_atStep (h1 : 1 ≤ d) (h7 : d ≤ 7) (hj : j < 8) (h : e.atStep d p j = true) :
    e.onDay (dayBefore d (j % 7)) = true := by
  have hzero := dayBefore_zero h1 h7
  interval_cases j <;> simp_all [ScheduleEntry.atStep]

/-- How long ago the entries of a step began: the later the step, the longer (R30). -/
theorem ScheduleEntry.minutesAgo_of_atStep (h1 : 1 ≤ d) (h7 : d ≤ 7) (hp : p < 1440) (hstart : e.start ≤ 1439) (hj : j < 8)
    (h : e.atStep d p j = true) : e.minutesAgo d p (dayBefore d (j % 7)) = j * 1440 + p - e.start ∧ e.start ≤ j * 1440 + p := by
  have hback : (d + 7 - dayBefore d (j % 7)) % 7 = j % 7 := by unfold dayBefore; omega
  have hlast : j = 7 → p < e.start := by rintro rfl; simp [ScheduleEntry.atStep] at h; exact h.2
  have hfirst : j = 0 → e.start ≤ p := by rintro rfl; simp [ScheduleEntry.atStep] at h; exact h.2
  unfold ScheduleEntry.minutesAgo
  rw [hback]
  omega

/-- Every day of an entry is looked at by one step that considers the entry. -/
theorem ScheduleEntry.exists_atStep (h1 : 1 ≤ d) (h7 : d ≤ 7) (hday : day ∈ [1, 2, 3, 4, 5, 6, 7]) (h : e.onDay day = true) :
    ∃ j < 8, e.atStep d p j = true ∧ dayBefore d (j % 7) = day := by
  have hrange : 1 ≤ day ∧ day ≤ 7 := by simp only [List.mem_cons, List.not_mem_nil, or_false] at hday; omega
  have hday' : dayBefore d ((d + 7 - day) % 7) = day := by unfold dayBefore; omega
  by_cases hd : day = d
  · subst hd
    by_cases hs : e.start ≤ p
    · exact ⟨0, by omega, by simp [ScheduleEntry.atStep, h, hs], dayBefore_zero h1 h7⟩
    · exact ⟨7, by omega, by simp [ScheduleEntry.atStep, h]; omega, dayBefore_zero h1 h7⟩
  · have hj : (d + 7 - day) % 7 ≠ 0 := by omega
    refine ⟨(d + 7 - day) % 7, by omega, ?_, by rw [Nat.mod_mod]; exact hday'⟩
    have hstep : e.atStep d p ((d + 7 - day) % 7) = e.onDay (dayBefore d ((d + 7 - day) % 7)) := by
      generalize (d + 7 - day) % 7 = j at hj hday'
      have : j ≠ 7 := by rintro rfl; exact absurd hday' (by unfold dayBefore; omega)
      unfold ScheduleEntry.atStep
      split <;> simp_all
    rw [hstep, hday', h]

end

/-- A mask that is not empty carries a day. -/
theorem ScheduleEntry.exists_onDay {e : ScheduleEntry} (h : e.days ≠ 0) : ∃ day ∈ [1, 2, 3, 4, 5, 6, 7], e.onDay day = true := by
  by_contra hnone
  simp only [not_exists, not_and, Bool.not_eq_true, ScheduleEntry.onDay] at hnone
  refine h (BitVec.eq_of_getLsbD_eq fun i hi => ?_)
  have := hnone (i + 1) (by simp only [List.mem_cons, List.not_mem_nil, or_false]; omega)
  simpa using this

/-- The search finds the latest entry of the first step that considers any (Table 2-5). -/
theorem governingEntry_of_ne_nil {table : List ScheduleEntry} {d t : Nat} (h1 : 1 ≤ d) (h7 : d ≤ 7) (hne : table ≠ [])
    (hdays : ∀ e ∈ table, e.days ≠ 0) : ∃ e ∈ table, ∃ j < 8, governingEntry table d t = some e ∧ e.atStep d (t / 600) j = true
      ∧ ∀ x ∈ table, ∀ i < 8, x.atStep d (t / 600) i = true → j < i ∨ j = i ∧ x.start ≤ e.start := by
  have hsome : ∃ j, j < 8 ∧ table.filter (·.atStep d (t / 600) j) ≠ [] := by
    obtain ⟨a, ha⟩ := List.exists_mem_of_ne_nil _ hne
    obtain ⟨day, hday, hon⟩ := ScheduleEntry.exists_onDay (hdays a ha)
    obtain ⟨j, hj, hstep, -⟩ := ScheduleEntry.exists_atStep (p := t / 600) h1 h7 hday hon
    exact ⟨j, hj, List.ne_nil_of_mem (List.mem_filter.2 ⟨ha, hstep⟩)⟩
  classical
  obtain ⟨hlt, hfound⟩ := Nat.find_spec hsome
  obtain ⟨e, he, hlatest, hmax⟩ := latestEntry_of_ne_nil hfound
  have hfirst (i : Nat) (hi : i < Nat.find hsome) : table.filter (·.atStep d (t / 600) i) = [] :=
    not_not.1 fun h => Nat.find_min hsome hi ⟨hi.trans hlt, h⟩
  refine ⟨e, List.mem_of_mem_filter he, Nat.find hsome, hlt, ?_, (List.mem_filter.1 he).2, fun x hx i hi hstep => ?_⟩
  · rw [governingEntry_eq]
    exact findSome?_of_lowest List.pairwise_lt_range (List.mem_range.2 hlt) hlatest fun i hi => by rw [hfirst i hi, latestEntry_nil]
  · have hxi : x ∈ table.filter (·.atStep d (t / 600) i) := List.mem_filter.2 ⟨hx, hstep⟩
    obtain hle | rfl := (Nat.find_min' hsome ⟨hi, List.ne_nil_of_mem hxi⟩).lt_or_eq
    · exact .inl hle
    · exact .inr ⟨rfl, hmax x hxi⟩

theorem governingEntry_nil (d t : Nat) : governingEntry [] d t = none := by
  rw [governingEntry_eq]
  exact List.findSome?_eq_none_iff.2 fun _ _ => rfl

end Sys2Proof.Machine

open Sys2Proof Sys2Proof.Machine

/-- Settles O60: the first step that considers an entry holds those that began last, and its latest entry the last of them. -/
theorem theGoverningEntryBeganLast : Obligations.TheGoverningEntryBeganLast := by
  refine ⟨fun table d t h1 h7 ht hfits => ⟨fun h => by rw [h, governingEntry_nil], fun hne => ?_⟩,
    fun s => ⟨fun h => ?_, fun h => ?_⟩⟩
  · have hp : t / 600 < 1440 := by omega
    obtain ⟨e, he, j, hj, hgoverns, hstep, hlast⟩ := governingEntry_of_ne_nil (t := t) h1 h7 hne fun e he => (hfits e he).2
    refine ⟨e, he, hgoverns, dayBefore d (j % 7), dayBefore_mem, ScheduleEntry.onDay_of_atStep h1 h7 hj hstep, fun x hx day hday hon => ?_⟩
    obtain ⟨i, hi, hxstep, rfl⟩ := ScheduleEntry.exists_atStep (p := t / 600) h1 h7 hday hon
    obtain ⟨hago, hle⟩ := ScheduleEntry.minutesAgo_of_atStep h1 h7 hp (hfits e he).1 hj hstep
    obtain ⟨hxago, hxle⟩ := ScheduleEntry.minutesAgo_of_atStep h1 h7 hp (hfits x hx).1 hi hxstep
    have hxstart := (hfits x hx).1
    have horder := hlast x hx i hi hxstep
    rw [hago, hxago]
    omega
  · simp [State.schedulePlan, h]
  · exact ⟨fun e he => by simp [State.schedulePlan, h, he], fun hnone => by simp [State.schedulePlan, h, hnone]⟩
end

section
/-! SUPPORT. The schedule requests: the entry that a payload carries, the place of a new entry in the ordered table, and the checks in
order (R27 to R29). -/

-- One proof at a time: elaborated in parallel, each proof that waits for an earlier one holds a thread and its stack.
set_option Elab.async false

namespace Sys2Proof.Machine

/-! ## Places in a list -/

theorem insertIdx_append_length {α : Type} (l r : List α) (a : α) : (l ++ r).insertIdx l.length a = l ++ a :: r := by
  induction l with
  | nil => simp
  | cons b l ih => simpa using ih

theorem eraseIdx_append_length {α : Type} (l r : List α) (a : α) : (l ++ a :: r).eraseIdx l.length = l ++ r := by
  rw [List.eraseIdx_append_of_length_le le_rfl, Nat.sub_self, List.eraseIdx_cons_zero]

/-- The first element that meets a condition, where those before it do not. -/
theorem findIdx?_append_cons {α : Type} {q : α → Bool} {l r : List α} {a : α} (hl : ∀ b ∈ l, q b = false) (ha : q a = true) :
    (l ++ a :: r).findIdx? q = some l.length := by
  rw [List.findIdx?_append, List.findIdx?_eq_none_iff.2 hl, List.findIdx?_cons, if_pos ha]
  simp

/-! ## The order of the table (R27) -/

theorem ScheduleEntry.before_iff {a b : ScheduleEntry} :
    a.before b = true ↔ a.start < b.start ∨ a.start = b.start ∧ a.lowestDay < b.lowestDay := by
  simp [ScheduleEntry.before]

theorem ScheduleEntry.before_trans {a b c : ScheduleEntry} (h : a.before b = true) (h' : b.before c = true) : a.before c = true := by
  rw [ScheduleEntry.before_iff] at h h' ⊢
  omega

theorem insertAt_cons_of_before {a e : ScheduleEntry} (h : a.before e = true) (table : List ScheduleEntry) :
    insertAt (a :: table) e = insertAt table e + 1 := by
  simp [insertAt, h]

/-- In an ordered table nothing stands before an entry whose first is not before it. -/
theorem insertAt_cons_of_not_before {a e : ScheduleEntry} {table : List ScheduleEntry} (h : a.before e = false)
    (hsorted : ∀ y ∈ table, a.before y = true) : (∀ y ∈ a :: table, y.before e = false) ∧ insertAt (a :: table) e = 0 := by
  have hnone : ∀ y ∈ a :: table, y.before e = false := by
    refine List.forall_mem_cons.2 ⟨h, fun y hy => ?_⟩
    rw [← Bool.not_eq_true] at h ⊢
    exact fun hye => h (ScheduleEntry.before_trans (hsorted y hy) hye)
  exact ⟨hnone, List.length_eq_zero_iff.2 (List.filter_eq_nil_iff.2 fun y hy => by rw [hnone y hy]; decide)⟩

/-- The new entry's position parts an ordered table into the entries before it and the others (R27). -/
theorem before_insertAt {table : List ScheduleEntry} (e : ScheduleEntry) (h : table.Pairwise (fun x y => x.before y = true)) :
    (∀ y ∈ table.take (insertAt table e), y.before e = true) ∧ ∀ y ∈ table.drop (insertAt table e), y.before e = false := by
  induction table with
  | nil => exact ⟨by simp, by simp⟩
  | cons a table ih =>
    obtain ⟨ha, h⟩ := List.pairwise_cons.1 h
    cases hae : a.before e with
    | true =>
      rw [insertAt_cons_of_before hae]
      obtain ⟨htake, hdrop⟩ := ih h
      exact ⟨List.forall_mem_cons.2 ⟨hae, htake⟩, hdrop⟩
    | false =>
      obtain ⟨hnone, hzero⟩ := insertAt_cons_of_not_before hae ha
      rw [hzero]
      exact ⟨by simp, hnone⟩

theorem insertAt_le_length (table : List ScheduleEntry) (e : ScheduleEntry) : insertAt table e ≤ table.length :=
  List.length_filter_le _ _

/-- The lowest day of a mask that is not empty is one of its days. -/
theorem ScheduleEntry.onDay_lowestDay {e : ScheduleEntry} (h : e.days ≠ 0) : e.onDay e.lowestDay = true := by
  obtain ⟨day, hday, hon⟩ := ScheduleEntry.exists_onDay h
  cases hfind : [1, 2, 3, 4, 5, 6, 7].find? e.onDay with
  | none => exact absurd hon (List.find?_eq_none.1 hfind day hday)
  | some d =>
    rw [ScheduleEntry.lowestDay, hfind]
    exact List.find?_some hfind

/-- Entries of one start minute whose masks share no day differ in their lowest days. -/
theorem ScheduleEntry.lowestDay_ne {x e : ScheduleEntry} (he : e.days ≠ 0) (h : x.days &&& e.days = 0) : x.lowestDay ≠ e.lowestDay := by
  intro heq
  have hon := ScheduleEntry.onDay_lowestDay he
  by_cases hx : x.days = 0
  · have hlow : x.lowestDay = 8 := by simp [ScheduleEntry.lowestDay, ScheduleEntry.onDay, hx]
    rw [← heq, hlow] at hon
    simp [ScheduleEntry.onDay] at hon
  · have hxon := ScheduleEntry.onDay_lowestDay hx
    rw [heq] at hxon
    have hand := congrArg (·.getLsbD (e.lowestDay - 1)) h
    simp only [ScheduleEntry.onDay] at hon hxon
    simp [hon, hxon] at hand

/-- An entry that no entry of an ordered table overlaps joins the table at its position, and leaves it ordered (R27, R28). -/
theorem pairwise_insert {table : List ScheduleEntry} {e : ScheduleEntry} (he : e.days ≠ 0)
    (hfree : ∀ y ∈ table, ¬(y.start = e.start ∧ y.days &&& e.days ≠ 0)) (h : table.Pairwise (fun x y => x.before y = true)) :
    (table.take (insertAt table e) ++ e :: table.drop (insertAt table e)).Pairwise (fun x y => x.before y = true) := by
  obtain ⟨htake, hdrop⟩ := before_insertAt e h
  have hafter : ∀ y ∈ table.drop (insertAt table e), e.before y = true := by
    intro y hy
    have hy' := hdrop y hy
    have hdiffer : y.start = e.start → y.lowestDay ≠ e.lowestDay := fun hs =>
      ScheduleEntry.lowestDay_ne he (not_not.1 fun hne => hfree y (List.mem_of_mem_drop hy) ⟨hs, hne⟩)
    rw [← Bool.not_eq_true, ScheduleEntry.before_iff] at hy'
    rw [ScheduleEntry.before_iff]
    omega
  have hparts : (table.take (insertAt table e) ++ table.drop (insertAt table e)).Pairwise (fun x y => x.before y = true) := by
    rw [List.take_append_drop]; exact h
  obtain ⟨hl, hr, hcross⟩ := List.pairwise_append.1 hparts
  refine List.pairwise_append.2 ⟨hl, List.pairwise_cons.2 ⟨hafter, hr⟩, fun x hx => List.forall_mem_cons.2 ⟨htake x hx, hcross x hx⟩⟩

/-! ## What a payload carries (Table 10-3) -/

section
variable {minute days : Nat} (hminute : minute < 65536) (hdays : days < 256) (rest : List Byte)
include hminute hdays

/-- The bytes of a schedule request's start minute and mask, and what they carry. -/
theorem carried_fields : rd16 (be16 minute ++ be8 days ++ rest) 0 = minute ∧ rd8 (be16 minute ++ be8 days ++ rest) 2 = days
    ∧ ((be16 minute ++ be8 days ++ rest).getD 2 0).setWidth 7 = BitVec.ofNat 7 days := by
  have hbyte : (be16 minute ++ be8 days ++ rest).getD 2 0 = BitVec.ofNat 8 days := rfl
  refine ⟨?_, ?_, ?_⟩
  · rw [List.append_assoc]; exact rd16_be16 hminute _
  · rw [rd8, hbyte, BitVec.toNat_ofNat, Nat.mod_eq_of_lt hdays]
  · rw [hbyte]; exact BitVec.setWidth_ofNat_of_le (by decide) days

theorem carriedEntry_eq : carriedEntry (be16 minute ++ be8 days ++ rest)
    = { start := minute, days := BitVec.ofNat 7 days, plan := rd8 (be16 minute ++ be8 days ++ rest) 3 } := by
  obtain ⟨hstart, -, hmask⟩ := carried_fields hminute hdays rest
  rw [carriedEntry, hstart, hmask]

theorem entryChecks_eq : entryChecks (be16 minute ++ be8 days ++ rest)
    = [fieldCheck 1 (1439 < minute), fieldCheck 2 (days = 0 || 127 < days)] := by
  obtain ⟨hstart, hmask, -⟩ := carried_fields hminute hdays rest
  rw [entryChecks, hstart, hmask]

end

theorem ofNat_days_ne_zero {days : Nat} (h1 : 1 ≤ days) (h7 : days ≤ 127) : BitVec.ofNat 7 days ≠ 0 := by
  intro h
  have := congrArg BitVec.toNat h
  simp only [BitVec.toNat_ofNat] at this
  rw [Nat.mod_eq_of_lt (by omega)] at this
  simp at this; omega

/-! ## The requests at their owner (R28, R29) -/

variable {s : State}

/-- The checks of a start minute and a mask fail in order; where both pass the others follow. -/
theorem State.checked_entry {minute days : Nat} {l : List (Bool × Result)} (serve : Result × State) (hb : s.busy = false) :
    let r := s.checked (s.busyCheck :: [fieldCheck 1 (1439 < minute), fieldCheck 2 (days = 0 || 127 < days)] ++ l) serve
    (1439 < minute → r = (.badField 1, s)) ∧ (minute ≤ 1439 → days = 0 ∨ 127 < days → r = (.badField 2, s))
      ∧ (minute ≤ 1439 → 1 ≤ days → days ≤ 127 → r = s.checked l serve) := by
  intro r
  have hr : r = s.checked ([fieldCheck 1 (1439 < minute), fieldCheck 2 (days = 0 || 127 < days)] ++ l) serve :=
    State.checked_notBusy serve hb
  refine ⟨fun h => ?_, fun h hd => ?_, fun h h1 h7 => ?_⟩ <;> rw [hr]
  · rw [fieldCheck, decide_eq_true h]; exact State.checked_fails serve
  · have hmask : (decide (days = 0) || decide (127 < days)) = true := by simpa using hd
    rw [fieldCheck, fieldCheck, decide_eq_false (Nat.not_lt.2 h), hmask]
    exact (State.checked_passes serve).trans (State.checked_fails serve)
  · have hmask : (decide (days = 0) || decide (127 < days)) = false := by simp; omega
    rw [fieldCheck, fieldCheck, decide_eq_false (Nat.not_lt.2 h), hmask]
    exact (State.checked_passes serve).trans (State.checked_passes serve)

/-- A waiting overlap is a conflict with its position (R28). -/
def overlapCheck (table : List ScheduleEntry) (e : ScheduleEntry) : Bool × Result :=
  match overlapAt table e with
  | some i => (true, .conflict i)
  | none => (false, .full)

theorem overlapCheck_of_first {l r : List ScheduleEntry} {x e : ScheduleEntry}
    (hl : ∀ y ∈ l, ¬(y.start = e.start ∧ y.days &&& e.days ≠ 0)) (hstart : x.start = e.start) (hdays : x.days &&& e.days ≠ 0) :
    overlapCheck (l ++ x :: r) e = (true, .conflict l.length) := by
  have hfind : overlapAt (l ++ x :: r) e = some l.length :=
    findIdx?_append_cons (fun y hy => by simpa using hl y hy) (by simpa using ⟨hstart, hdays⟩)
  rw [overlapCheck, hfind]

theorem overlapCheck_of_free {table : List ScheduleEntry} {e : ScheduleEntry}
    (h : ∀ y ∈ table, ¬(y.start = e.start ∧ y.days &&& e.days ≠ 0)) : overlapCheck table e = (false, .full) := by
  have hfind : overlapAt table e = none := List.findIdx?_eq_none_iff.2 fun y hy => by simpa using h y hy
  rw [overlapCheck, hfind]

/-- The schedule takes a value (R27). -/
def State.schedule (s : State) (l : List ScheduleEntry) : State := { s with ps := { s.ps with schedule := l } }

section
variable {minute days g : Nat} (hminute : minute < 65536) (hdays : days < 256)
include hminute hdays

theorem State.ownAddSchedule_eq (hg : g < 256) : let e : ScheduleEntry := { start := minute, days := BitVec.ofNat 7 days, plan := g }
    s.ownAddSchedule (be16 minute ++ be8 days ++ be8 g)
      = s.checked (s.busyCheck :: [fieldCheck 1 (1439 < minute), fieldCheck 2 (days = 0 || 127 < days)]
          ++ [fieldCheck 3 (8 < g), overlapCheck s.ps.schedule e, (decide (24 ≤ s.ps.schedule.length), .full)])
        (.ok (be8 (insertAt s.ps.schedule e) ++ be8 (s.ps.schedule.length + 1)),
          s.schedule (s.ps.schedule.insertIdx (insertAt s.ps.schedule e) e)) := by
  have hplan : rd8 (be16 minute ++ be8 days ++ be8 g) 3 = g := rd8_be8 hg []
  rw [State.ownAddSchedule, carriedEntry_eq hminute hdays, entryChecks_eq hminute hdays, hplan]
  rfl

/-- The place of the entry that a DELETE_SCHEDULE names (R29). -/
def State.placeOf (s : State) (minute : Nat) (mask : BitVec 7) : Option Nat :=
  s.ps.schedule.findIdx? fun x => x.start = minute && x.days = mask

theorem State.ownDeleteSchedule_eq : s.ownDeleteSchedule (be16 minute ++ be8 days)
    = s.checked (s.busyCheck :: [fieldCheck 1 (1439 < minute), fieldCheck 2 (days = 0 || 127 < days)] ++ [])
        (((s.placeOf minute (BitVec.ofNat 7 days)).map fun i =>
          (.ok (be8 (s.ps.schedule.length - 1)), s.schedule (s.ps.schedule.eraseIdx i))).getD (.noEntry, s)) := by
  have hentry := carriedEntry_eq hminute hdays []
  have hchecks := entryChecks_eq hminute hdays []
  rw [List.append_nil] at hentry hchecks
  rw [State.ownDeleteSchedule, hentry, hchecks, State.placeOf]
  cases s.ps.schedule.findIdx? fun x => x.start = minute && x.days = BitVec.ofNat 7 days <;> rfl

end

end Sys2Proof.Machine

open Sys2Proof Sys2Proof.Machine

/-- Settles O46: both requests run their checks in the order of R28 and R29; the table is parted at the position of the new entry, and
at the entry that is named. -/
theorem scheduleEntriesAreAddedAndDeleted : Obligations.ScheduleEntriesAreAddedAndDeleted := by
  refine ⟨⟨fun s echo minute days g h hminute hdays hg => ?_, fun s echo payload h hfits hlen => ?_⟩,
    fun s echo minute days h hminute hdays => ?_⟩
  · intro e run refused
    have hserved {r : Result} {u : State} (ho : s.heard.ownAddSchedule (be16 minute ++ be8 days ++ be8 g) = (r, u)) (hu : u.begun) :
        run = .next (u.answered 0x05 echo r) :=
      exec_served (i := .addSchedule echo _) h rfl rfl rfl (by rintro _ ⟨⟩; rfl) ho hu
    have hrefused {r : Result} (ho : s.heard.ownAddSchedule (be16 minute ++ be8 days ++ be8 g) = (r, s.heard)) : refused r :=
      hserved ho (State.heard_begun h)
    have hown := State.ownAddSchedule_eq (s := s.heard) hminute hdays hg
    have hentry := State.checked_entry (s := s.heard) (minute := minute) (days := days)
      (l := [fieldCheck 3 (8 < g), overlapCheck s.ps.schedule e, (decide (24 ≤ s.ps.schedule.length), .full)])
      (.ok (be8 (insertAt s.ps.schedule e) ++ be8 (s.ps.schedule.length + 1)),
        s.heard.schedule (s.ps.schedule.insertIdx (insertAt s.ps.schedule e) e))
    refine ⟨fun hb => hrefused (State.checked_busy _ hb), fun hb hm => ?_, fun hb hm hd => ?_, fun hb hm h1 h7 hg8 => ?_,
      fun hb hm h1 h7 hg8 => ?_⟩
    all_goals obtain ⟨hbad1, hbad2, hpasses⟩ := hentry hb
    · exact hrefused (hown.trans (hbad1 hm))
    · exact hrefused (hown.trans (hbad2 hm hd))
    · refine hrefused ((hown.trans (hpasses hm h1 h7)).trans ?_)
      rw [fieldCheck, decide_eq_true hg8]
      exact State.checked_fails _
    · have hchecked := hown.trans (hpasses hm h1 h7)
      rw [fieldCheck, decide_eq_false (Nat.not_lt.2 hg8), State.checked_passes] at hchecked
      refine ⟨fun l r x htable hl hstart hmask => ?_, fun hfree => ⟨fun hfull => ?_, fun hroom => ?_⟩⟩
      · refine hrefused (hchecked.trans ?_)
        rw [htable, overlapCheck_of_first hl hstart hmask]
        exact State.checked_fails _
      · rw [overlapCheck_of_free hfree, State.checked_passes, decide_eq_true hfull] at hchecked
        exact hrefused hchecked
      · rw [overlapCheck_of_free hfree, State.checked_passes, decide_eq_false (Nat.not_le.2 hroom), State.checked_passes,
          State.checked_nil] at hchecked
        have hlen : (s.ps.schedule.take (insertAt s.ps.schedule e)).length = insertAt s.ps.schedule e := by
          rw [List.length_take, Nat.min_eq_left (insertAt_le_length _ _)]
        have hinsert := insertIdx_append_length (s.ps.schedule.take (insertAt s.ps.schedule e))
          (s.ps.schedule.drop (insertAt s.ps.schedule e)) e
        rw [List.take_append_drop, hlen] at hinsert
        refine ⟨_, _, (List.take_append_drop (insertAt s.ps.schedule e) _).symm, ?_,
          pairwise_insert (ofNat_days_ne_zero h1 h7) hfree⟩
        rw [hlen, ← hinsert]
        exact hserved hchecked (State.heard_begun h)
  · exact exec_badLength (i := .addSchedule echo payload) (n := 4) h rfl hfits rfl rfl hlen
  · intro mask run refused
    have hserved {r : Result} {u : State} (ho : s.heard.ownDeleteSchedule (be16 minute ++ be8 days) = (r, u)) (hu : u.begun) :
        run = .next (u.answered 0x06 echo r) :=
      exec_served (i := .deleteSchedule echo _) h rfl rfl rfl (by rintro _ ⟨⟩; rfl) ho hu
    have hrefused {r : Result} (ho : s.heard.ownDeleteSchedule (be16 minute ++ be8 days) = (r, s.heard)) : refused r :=
      hserved ho (State.heard_begun h)
    have hown := State.ownDeleteSchedule_eq (s := s.heard) hminute hdays
    have hentry := State.checked_entry (s := s.heard) (minute := minute) (days := days) (l := [])
      (((s.heard.placeOf minute mask).map fun i =>
        (.ok (be8 (s.ps.schedule.length - 1)), s.heard.schedule (s.ps.schedule.eraseIdx i))).getD (.noEntry, s.heard))
    refine ⟨fun hb => hrefused (State.checked_busy _ hb), fun hb hm => ?_, fun hb hm hd => ?_, fun hb hm h1 h7 => ?_⟩
    all_goals obtain ⟨hbad1, hbad2, hpasses⟩ := hentry hb
    · exact hrefused (hown.trans (hbad1 hm))
    · exact hrefused (hown.trans (hbad2 hm hd))
    · have hchecked := (hown.trans (hpasses hm h1 h7)).trans (State.checked_nil _)
      refine ⟨fun l r x htable hl hstart hmask => ⟨?_, fun hnil => ?_⟩, fun hnone => ?_⟩
      · have hplace : s.heard.placeOf minute mask = some l.length := by
          rw [State.placeOf, show s.heard.ps.schedule = l ++ x :: r from htable]
          exact findIdx?_append_cons (fun y hy => by simpa using hl y hy) (by simpa using ⟨hstart, hmask⟩)
        have hlen : s.ps.schedule.length - 1 = (l ++ r).length := by rw [htable]; simp
        rw [hplace, Option.map_some, Option.getD_some, htable, eraseIdx_append_length, ← htable, hlen] at hchecked
        exact hserved hchecked (State.heard_begun h)
      · rw [hnil]
        simp [State.schedulePlan, governingEntry_nil]
      · have hplace : s.heard.placeOf minute mask = none := List.findIdx?_eq_none_iff.2 fun y hy => by simpa using hnone y hy
        rw [hplace] at hchecked
        exact hrefused hchecked
end

section
/-! SUPPORT. The checks of LOAD_PLAN in their order (R17, Tables 2-3 and 2-4). -/

-- One proof at a time: elaborated in parallel, each proof that waits for an earlier one holds a thread and its stack.
set_option Elab.async false

namespace Sys2Proof.Machine

/-! ## The places of the items (Table 2-4, step 6) -/

/-- Where item `j` lies, each item before it placed by its split count. -/
def itemAt (at_ : Nat) (counts : List Nat) (j : Nat) : Nat := at_ + ((counts.take j).map fun c => 2 + 2 * c).sum

@[simp] theorem itemAt_zero (at_ : Nat) (counts : List Nat) : itemAt at_ counts 0 = at_ := rfl

theorem itemAt_cons_succ (at_ c : Nat) (cs : List Nat) (j : Nat) : itemAt at_ (c :: cs) (j + 1) = itemAt (at_ + 2 + 2 * c) cs j := by
  simp only [itemAt, List.take_succ_cons, List.map_cons, List.sum_cons]
  omega

/-- The counts are those that the payload's first items carry. -/
def CarriedCounts (p : List Byte) (at_ : Nat) (counts : List Nat) : Prop :=
  ∀ j, j < counts.length → itemAt at_ counts j + 1 < p.length ∧ counts[j]? = some (rd8 p (itemAt at_ counts j + 1))

theorem carriedCounts_cons {p : List Byte} {at_ c : Nat} {cs : List Nat} (h : CarriedCounts p at_ (c :: cs)) :
    at_ + 1 < p.length ∧ c = rd8 p (at_ + 1) ∧ CarriedCounts p (at_ + 2 + 2 * c) cs := by
  obtain ⟨hroom, hcount⟩ := h 0 (Nat.zero_lt_succ _)
  refine ⟨hroom, Option.some.inj hcount, fun j hj => ?_⟩
  have hnext := h (j + 1) (Nat.succ_lt_succ hj)
  rwa [itemAt_cons_succ, List.getElem?_cons_succ] at hnext

/-- The walk over the counts passes those carried and goes on after them. -/
theorem splitCounts_of_carried {p : List Byte} {at_ : Nat} {counts : List Nat} (h : CarriedCounts p at_ counts) (m : Nat) :
    splitCounts p (counts.length + m) at_ = (splitCounts p m (itemAt at_ counts counts.length)).map (counts ++ ·) := by
  induction counts generalizing at_ with
  | nil => simp
  | cons c cs ih =>
    obtain ⟨hroom, hc, hrest⟩ := carriedCounts_cons h
    rw [List.length_cons, Nat.add_right_comm, splitCounts, if_pos hroom, ← hc, ih hrest, itemAt_cons_succ, Option.map_map]
    rfl

theorem splitCounts_of_short {p : List Byte} {at_ n : Nat} (h : p.length ≤ at_ + 1) (hn : n ≠ 0) : splitCounts p n at_ = none := by
  obtain ⟨m, rfl⟩ := Nat.exists_eq_succ_of_ne_zero hn
  rw [splitCounts, if_neg (Nat.not_lt.2 h)]

/-! ## The first count out of range (step 7) -/

/-- Step 7: the lowest item whose split count is out of range. -/
def countCheck (counts : List Nat) : Bool × Result :=
  match counts.findIdx? (outside 2 6) with
  | some k => fieldCheck (21 + 8 * k) true
  | none => fieldCheck 21 false

theorem countCheck_of_lowest {counts : List Nat} {k : Nat} (hk : k < counts.length) (hout : outside 2 6 (counts.getD k 0) = true)
    (hlow : ∀ j, j < k → outside 2 6 (counts.getD j 0) = false) : countCheck counts = (true, .badField (21 + 8 * k)) := by
  have hfind : counts.findIdx? (outside 2 6) = some k := by
    refine List.findIdx?_eq_some_iff_getElem.2 ⟨hk, ?_, fun j hj => ?_⟩
    · rwa [List.getD_eq_getElem _ _ hk] at hout
    · have := hlow j hj
      rw [List.getD_eq_getElem _ _ (hj.trans hk)] at this
      simp [this]
  rw [countCheck, hfind]
  rfl

theorem countCheck_of_inRange {counts : List Nat} (h : ∀ c ∈ counts, outside 2 6 c = false) :
    countCheck counts = (false, .badField 21) := by
  rw [countCheck, List.findIdx?_eq_none_iff.2 h]
  rfl

/-! ## The fields of step 9 (Table 2-3) -/

/-- The fields of the items from item `k` on, in ascending number, with whether each is out of range. -/
def itemFields (p : List Byte) : Nat → Nat → List Nat → List (Nat × Bool)
  | _, _, [] => []
  | k, at_, c :: cs =>
    (20 + 8 * k, decide (1 < rd8 p at_))
      :: (List.range c).map (fun i => (22 + 8 * k + i, outside 50 2400 (rd16 p (at_ + 2 + 2 * i))))
      ++ itemFields p (k + 1) (at_ + 2 + 2 * c) cs

theorem itemChecks_eq (p : List Byte) (k at_ : Nat) (counts : List Nat) :
    itemChecks p k at_ counts = (itemFields p k at_ counts).map fun x => fieldCheck x.1 x.2 := by
  induction counts generalizing k at_ with
  | nil => rfl
  | cons c cs ih => rw [itemChecks, itemFields, ih, List.map_append, List.map_cons, List.map_map]; rfl

theorem le_of_mem_itemFields {p : List Byte} {k at_ : Nat} {counts : List Nat} : ∀ x ∈ itemFields p k at_ counts, 20 + 8 * k ≤ x.1 := by
  induction counts generalizing k at_ with
  | nil => rintro x ⟨⟩
  | cons c cs ih =>
    simp only [itemFields, List.cons_append, List.mem_cons, List.mem_append, List.mem_map]
    rintro x (rfl | ⟨i, -, rfl⟩ | hx)
    · exact Nat.le_refl _
    · dsimp only; omega
    · have := ih x hx; omega

theorem itemFields_sorted (p : List Byte) (k at_ : Nat) {counts : List Nat} (hc : ∀ c ∈ counts, c ≤ 6) :
    (itemFields p k at_ counts).Pairwise (·.1 < ·.1) := by
  induction counts generalizing k at_ with
  | nil => exact .nil
  | cons c cs ih =>
    have hc6 := hc c List.mem_cons_self
    have hsplits : ((List.range c).map fun i => ((22 + 8 * k + i, outside 50 2400 (rd16 p (at_ + 2 + 2 * i))) : Nat × Bool)).Pairwise
        (·.1 < ·.1) := List.pairwise_map.2 (List.pairwise_lt_range.imp fun h => by dsimp only; omega)
    have hrest := ih (k + 1) (at_ + 2 + 2 * c) fun d hd => hc d (List.mem_cons_of_mem c hd)
    refine List.pairwise_append.2 ⟨List.pairwise_cons.2 ⟨?_, hsplits⟩, hrest, fun x hx y hy => ?_⟩
    · simp only [List.mem_map]
      rintro _ ⟨i, -, rfl⟩
      dsimp only; omega
    · have hy20 := le_of_mem_itemFields y hy
      simp only [List.mem_cons, List.mem_map, List.mem_range] at hx
      obtain rfl | ⟨i, hi, rfl⟩ := hx <;> dsimp only <;> omega

theorem mem_itemFields {p : List Byte} {k at_ f : Nat} {counts : List Nat} :
    (f, true) ∈ itemFields p k at_ counts ↔ ∃ j, j < counts.length ∧ ((f = 20 + 8 * (k + j) ∧ 1 < rd8 p (itemAt at_ counts j))
      ∨ ∃ i, i < counts.getD j 0 ∧ f = 22 + 8 * (k + j) + i ∧ outside 50 2400 (rd16 p (itemAt at_ counts j + 2 + 2 * i)) = true) := by
  induction counts generalizing k at_ with
  | nil => simp [itemFields]
  | cons c cs ih =>
    simp only [itemFields, List.cons_append, List.mem_cons, List.mem_append, List.mem_map, List.mem_range, ih, Prod.mk.injEq]
    constructor
    · rintro (⟨rfl, h⟩ | ⟨i, hi, rfl, h⟩ | ⟨j, hj, h⟩)
      · exact ⟨0, Nat.zero_lt_succ _, .inl ⟨rfl, of_decide_eq_true h.symm⟩⟩
      · exact ⟨0, Nat.zero_lt_succ _, .inr ⟨i, hi, rfl, h⟩⟩
      · refine ⟨j + 1, Nat.succ_lt_succ hj, ?_⟩
        rwa [itemAt_cons_succ, List.getD_cons_succ, ← Nat.add_assoc, Nat.add_right_comm]
    · rintro ⟨_ | j, hj, h⟩
      · obtain ⟨rfl, h⟩ | ⟨i, hi, rfl, h⟩ := h
        · exact .inl ⟨rfl, (decide_eq_true h).symm⟩
        · exact .inr (.inl ⟨i, hi, rfl, h⟩)
      · rw [itemAt_cons_succ, List.getD_cons_succ, ← Nat.add_assoc, Nat.add_right_comm] at h
        exact .inr (.inr ⟨j, Nat.lt_of_succ_lt_succ hj, h⟩)

/-- The fields before the items, in ascending number, with whether each is out of range. -/
def headFields (p : List Byte) : List (Nat × Bool) :=
  let o := planBase p
  [(2, outside 400 2400 (rd16 p 1) || rd16 p 1 % 10 ≠ 0), (3, rd16 p 1 ≤ rd16 p 3), (4, 15 < rd8 p 5),
    (6, 100 < rd8 p 7 || rd8 p 7 % 5 ≠ 0), (7, rd8 p 6 = 3 && 15 < rd8 p 8), (8, 30 < rd8 p o), (9, outside 5 40 (rd8 p (o + 1))),
    (10, outside 5 120 (rd8 p (o + 2))), (11, 300 < rd16 p (o + 3)), (12, 200 < rd8 p (o + 5)), (13, 8 < rd8 p (o + 6))]

/-- The fields of step 9, in ascending number, with whether each is out of range. -/
def planFields (p : List Byte) (counts : List Nat) : List (Nat × Bool) :=
  headFields p ++ itemFields p 0 (planBase p + 8) counts

theorem planFieldChecks_eq (p : List Byte) (counts : List Nat) :
    planFieldChecks p counts = (planFields p counts).map fun x => fieldCheck x.1 x.2 := by
  have htidal : (loadedPlan p counts).tidal.any (15 < ·) = (rd8 p 6 = 3 && 15 < rd8 p 8 : Bool) := by
    by_cases h : rd8 p 6 = 3 <;> simp [loadedPlan, h]
  unfold planFieldChecks
  dsimp only
  rw [htidal, planFields, List.map_append, itemChecks_eq]
  rfl

theorem le_of_mem_headFields {p : List Byte} : ∀ x ∈ headFields p, x.1 ≤ 13 := by simp [headFields]

theorem planFields_sorted (p : List Byte) {counts : List Nat} (hc : ∀ c ∈ counts, c ≤ 6) :
    (planFields p counts).Pairwise (·.1 < ·.1) := by
  refine List.pairwise_append.2 ⟨by simp [headFields], itemFields_sorted p 0 _ hc, fun x hx y hy => ?_⟩
  have := le_of_mem_headFields x hx
  have := le_of_mem_itemFields y hy
  omega

/-- Field `f` of a LOAD_PLAN payload is out of its range of Table 2-3. -/
def WrongPlanField (p : List Byte) (counts : List Nat) (f : Nat) : Prop :=
  (f = 2 ∧ (outside 400 2400 (rd16 p 1) = true ∨ rd16 p 1 % 10 ≠ 0)) ∨ (f = 3 ∧ rd16 p 1 ≤ rd16 p 3)
    ∨ (f = 4 ∧ 15 < rd8 p 5) ∨ (f = 6 ∧ (100 < rd8 p 7 ∨ rd8 p 7 % 5 ≠ 0)) ∨ (f = 7 ∧ rd8 p 6 = 3 ∧ 15 < rd8 p 8)
    ∨ (f = 8 ∧ 30 < rd8 p (planBase p)) ∨ (f = 9 ∧ outside 5 40 (rd8 p (planBase p + 1)) = true)
    ∨ (f = 10 ∧ outside 5 120 (rd8 p (planBase p + 2)) = true) ∨ (f = 11 ∧ 300 < rd16 p (planBase p + 3))
    ∨ (f = 12 ∧ 200 < rd8 p (planBase p + 5)) ∨ (f = 13 ∧ 8 < rd8 p (planBase p + 6))
    ∨ ∃ k : Fin 16, k.val < counts.length ∧ ((f = 20 + 8 * k.val ∧ 1 < rd8 p (itemAt (planBase p + 8) counts k.val))
      ∨ ∃ i : Fin 6, i.val < counts.getD k.val 0 ∧ f = 22 + 8 * k.val + i.val
        ∧ outside 50 2400 (rd16 p (itemAt (planBase p + 8) counts k.val + 2 + 2 * i.val)) = true)

section
variable {p : List Byte} {counts : List Nat} {f : Nat} (hlen : counts.length ≤ 16) (hc : ∀ c ∈ counts, c ≤ 6)
include hlen hc

theorem mem_planFields : (f, true) ∈ planFields p counts ↔ WrongPlanField p counts f := by
  unfold planFields WrongPlanField
  rw [List.mem_append, mem_itemFields]
  simp only [headFields, List.mem_cons, List.not_mem_nil, or_false, Prod.mk.injEq, eq_comm (a := true), Bool.or_eq_true,
    Bool.and_eq_true, decide_eq_true_eq, or_assoc, Nat.zero_add]
  refine or_congr_right <| or_congr_right <| or_congr_right <| or_congr_right <| or_congr_right <| or_congr_right <| or_congr_right <|
    or_congr_right <| or_congr_right <| or_congr_right <| or_congr_right ⟨?_, ?_⟩
  · rintro ⟨j, hj, h⟩
    refine ⟨⟨j, hj.trans_le hlen⟩, hj, h.imp_right ?_⟩
    rintro ⟨i, hi, h⟩
    have hc6 : counts.getD j 0 ≤ 6 := by rw [List.getD_eq_getElem _ _ hj]; exact hc _ (List.getElem_mem hj)
    exact ⟨⟨i, hi.trans_le hc6⟩, hi, h⟩
  · rintro ⟨j, hj, h⟩
    exact ⟨j.val, hj, h.imp_right fun ⟨i, hi, h⟩ => ⟨i.val, hi, h⟩⟩

theorem firstFailure_wrongPlanField (hf : WrongPlanField p counts f) (hlow : ∀ g, g < f → ¬WrongPlanField p counts g) :
    firstFailure (planFieldChecks p counts) = some (.badField f) := by
  rw [planFieldChecks_eq, firstFailure_fields, find?_of_lowest (a := (f, true)) (planFields_sorted p hc)
    ((mem_planFields hlen hc).2 hf) rfl fun b hb hlt => ?_]
  · rfl
  · obtain ⟨g, w⟩ := b
    cases w with
    | false => rfl
    | true => exact absurd ((mem_planFields hlen hc).1 hb) (hlow g hlt)

theorem firstFailure_noWrongPlanField (h : ∀ f, ¬WrongPlanField p counts f) : firstFailure (planFieldChecks p counts) = none := by
  rw [planFieldChecks_eq, firstFailure_fields, Option.map_eq_none_iff, List.find?_eq_none]
  rintro ⟨f, w⟩ hf hw
  obtain rfl : w = true := hw
  exact h f ((mem_planFields hlen hc).1 hf)

end

/-! ## The steps in order (Table 2-4) -/

/-- LOAD_PLAN from step 6 on: the split counts, if the payload holds them all, and what they lead to. -/
def State.loadPlanFrom (s : State) (p : List Byte) : Option (List Nat) → Result × State
  | none => (.badLength, s)
  | some counts => s.loadPlanWith p counts

section
variable {s : State} {p : List Byte} {counts : List Nat}

theorem State.ownLoadPlan_eq : s.ownLoadPlan p = s.checked
    [(p.length < planBase p + 8, .badLength), s.busyCheck, fieldCheck 1 (outside 1 8 (rd8 p 0)), fieldCheck 5 (3 < rd8 p 6),
      fieldCheck 14 (outside 1 16 (rd8 p (planBase p + 7)))]
    (s.loadPlanFrom p (splitCounts p (rd8 p (planBase p + 7)) (planBase p + 8))) := by
  unfold State.ownLoadPlan State.checked State.loadPlanFrom
  rfl

theorem State.ownLoadPlan_short (hlen : p.length < planBase p + 8) : s.ownLoadPlan p = (.badLength, s) := by
  rw [State.ownLoadPlan_eq, decide_eq_true hlen, State.checked_fails]

section
variable (hlen : planBase p + 8 ≤ p.length)
include hlen

theorem State.ownLoadPlan_saving (hb : s.busy = true) : s.ownLoadPlan p = (.busy, s) := by
  rw [State.ownLoadPlan_eq, decide_eq_false (Nat.not_lt.2 hlen), State.checked_passes, State.checked_busy _ hb]

variable (hb : s.busy = false)
include hb

theorem State.ownLoadPlan_fields : s.ownLoadPlan p = s.checked
    [fieldCheck 1 (outside 1 8 (rd8 p 0)), fieldCheck 5 (3 < rd8 p 6), fieldCheck 14 (outside 1 16 (rd8 p (planBase p + 7)))]
    (s.loadPlanFrom p (splitCounts p (rd8 p (planBase p + 7)) (planBase p + 8))) := by
  rw [State.ownLoadPlan_eq, decide_eq_false (Nat.not_lt.2 hlen), State.checked_passes, State.checked_notBusy _ hb]

theorem State.ownLoadPlan_badNumber (hg : outside 1 8 (rd8 p 0) = true) : s.ownLoadPlan p = (.badField 1, s) := by
  rw [State.ownLoadPlan_fields hlen hb, fieldCheck, hg, State.checked_fails]

variable (hg : outside 1 8 (rd8 p 0) = false)
include hg

theorem State.ownLoadPlan_badMode (hm : 3 < rd8 p 6) : s.ownLoadPlan p = (.badField 5, s) := by
  rw [State.ownLoadPlan_fields hlen hb, fieldCheck, hg, State.checked_passes, fieldCheck, decide_eq_true hm, State.checked_fails]

variable (hm : rd8 p 6 ≤ 3)
include hm

theorem State.ownLoadPlan_badItems (hi : outside 1 16 (rd8 p (planBase p + 7)) = true) : s.ownLoadPlan p = (.badField 14, s) := by
  rw [State.ownLoadPlan_fields hlen hb, fieldCheck, hg, State.checked_passes, fieldCheck, decide_eq_false (Nat.not_lt.2 hm),
    State.checked_passes, fieldCheck, hi, State.checked_fails]

/-- Steps 1 to 5 pass. -/
theorem State.ownLoadPlan_counts (hi : outside 1 16 (rd8 p (planBase p + 7)) = false) :
    s.ownLoadPlan p = s.loadPlanFrom p (splitCounts p (rd8 p (planBase p + 7)) (planBase p + 8)) := by
  rw [State.ownLoadPlan_fields hlen hb, fieldCheck, hg, State.checked_passes, fieldCheck, decide_eq_false (Nat.not_lt.2 hm),
    State.checked_passes, fieldCheck, hi, State.checked_passes, State.checked_nil]

end

theorem State.loadPlanFrom_short (hcarried : CarriedCounts p (planBase p + 8) counts) {items : Nat} (hless : counts.length < items)
    (hshort : p.length ≤ itemAt (planBase p + 8) counts counts.length + 1) :
    s.loadPlanFrom p (splitCounts p items (planBase p + 8)) = (.badLength, s) := by
  obtain ⟨m, rfl⟩ := Nat.exists_eq_add_of_le hless.le
  rw [splitCounts_of_carried hcarried, splitCounts_of_short hshort (by omega)]
  rfl

theorem State.loadPlanFrom_carried (hcarried : CarriedCounts p (planBase p + 8) counts) :
    s.loadPlanFrom p (splitCounts p counts.length (planBase p + 8)) = s.loadPlanWith p counts := by
  have h := splitCounts_of_carried hcarried 0
  rw [Nat.add_zero, splitCounts, Option.map_some, List.append_nil] at h
  rw [h]
  rfl

theorem planLength_eq (p : List Byte) (counts : List Nat) : planLength p counts = itemAt (planBase p + 8) counts counts.length := by
  rw [itemAt, List.take_length, planLength]

/-- The plan of the payload is active or staged (step 10). -/
def State.inUseCheck (s : State) (g : Nat) : Bool × Result := (s.ps.active = some g || s.ps.staged = some g, .planInUse)

/-- What the checks of steps 9 and 10 lead to. -/
def State.planChecked (s : State) (p : List Byte) (counts : List Nat) (checks : List (Bool × Result)) : Result × State :=
  s.checked checks (.ok (s.judge (loadedPlan p counts)).bytes, s.storePlan (rd8 p 0) (loadedPlan p counts))

theorem State.loadPlanWith_eq : s.loadPlanWith p counts = s.planChecked p counts
    (countCheck counts :: (decide (p.length ≠ planLength p counts), .badLength) :: planFieldChecks p counts
      ++ [s.inUseCheck (rd8 p 0)]) := rfl

theorem State.loadPlanWith_badCount {k : Nat} (hk : k < counts.length) (hout : outside 2 6 (counts.getD k 0) = true)
    (hlow : ∀ j, j < k → outside 2 6 (counts.getD j 0) = false) : s.loadPlanWith p counts = (.badField (21 + 8 * k), s) := by
  rw [State.loadPlanWith_eq, countCheck_of_lowest hk hout hlow]
  exact State.checked_fails _

section
variable (hc : ∀ c ∈ counts, outside 2 6 c = false)
include hc

theorem State.loadPlanWith_badLength (hl : p.length ≠ itemAt (planBase p + 8) counts counts.length) :
    s.loadPlanWith p counts = (.badLength, s) := by
  rw [State.loadPlanWith_eq, countCheck_of_inRange hc, planLength_eq, decide_eq_true hl]
  exact (State.checked_passes _).trans (State.checked_fails _)

variable (hl : p.length = itemAt (planBase p + 8) counts counts.length)
include hl

theorem State.loadPlanWith_fields :
    s.loadPlanWith p counts = s.planChecked p counts (planFieldChecks p counts ++ [s.inUseCheck (rd8 p 0)]) := by
  rw [State.loadPlanWith_eq, countCheck_of_inRange hc, planLength_eq, decide_eq_false (not_not.2 hl)]
  exact (State.checked_passes _).trans (State.checked_passes _)

variable (hitems : counts.length ≤ 16)
include hitems

theorem State.loadPlanWith_wrongField {f : Nat} (hf : WrongPlanField p counts f) (hlow : ∀ g, g < f → ¬WrongPlanField p counts g) :
    s.loadPlanWith p counts = (.badField f, s) := by
  rw [State.loadPlanWith_fields hc hl]
  exact State.checked_append_of_fails
    (firstFailure_wrongPlanField hitems (fun c hcs => (outside_eq_false.1 (hc c hcs)).2) hf hlow)

theorem State.loadPlanWith_noWrongField (h : ∀ f, ¬WrongPlanField p counts f) :
    s.loadPlanWith p counts = s.planChecked p counts [s.inUseCheck (rd8 p 0)] := by
  rw [State.loadPlanWith_fields hc hl]
  exact State.checked_append_of_passes
    (firstFailure_noWrongPlanField hitems (fun c hcs => (outside_eq_false.1 (hc c hcs)).2) h)

end

theorem State.planChecked_inUse (h : s.ps.active = some (rd8 p 0) ∨ s.ps.staged = some (rd8 p 0)) :
    s.planChecked p counts [s.inUseCheck (rd8 p 0)] = (.planInUse, s) := by
  rw [State.inUseCheck, show (decide (s.ps.active = some (rd8 p 0)) || decide (s.ps.staged = some (rd8 p 0))) = true by simpa using h]
  exact State.checked_fails _

theorem exec_loadPlan {u : State} {echo : Byte} {r : Result} (h : s.takesAtOnce) (hlow : 1 ≤ p.length) (hhigh : p.length ≤ 250)
    (ho : s.heard.ownLoadPlan p = (r, u)) (hu : u.begun) : exec (.loadPlan echo p) s = .next (u.answered 0x03 echo r) := by
  have hw : Instr.wellFormed (.loadPlan echo p) = true := by simp [Instr.wellFormed, payloadFits, hlow, hhigh]
  exact exec_served (i := .loadPlan echo p) h rfl hw rfl (by rintro _ ⟨⟩) ho hu

end

end Sys2Proof.Machine

open Sys2Proof Sys2Proof.Machine

/-- Settles O44: each check is reached once the ones before it pass, and none of them is reached by a change. -/
theorem loadPlanRefusalsRunInOrder : Obligations.LoadPlanRefusalsRunInOrder := by
  intro s echo p h hlow hhigh refused o items at_ carried outside
  have refuse {r : Result} (ho : s.heard.ownLoadPlan p = (r, s.heard)) : refused r :=
    exec_loadPlan h hlow hhigh ho (State.heard_begun h)
  refine ⟨fun hlen => refuse (State.ownLoadPlan_short hlen), fun hlen hb => refuse (State.ownLoadPlan_saving hlen ?busy),
    fun hlen hb => ?_⟩
  case busy => exact Option.isSome_iff_ne_none.2 hb
  have hfree : s.heard.busy = false := congrArg Option.isSome hb
  refine ⟨fun hg => refuse (State.ownLoadPlan_badNumber hlen hfree hg), fun hg hm => refuse (State.ownLoadPlan_badMode hlen hfree hg hm),
    fun hg hm hi => refuse (State.ownLoadPlan_badItems hlen hfree hg hm hi), fun counts hg hm hi hcarried => ?_⟩
  have hcounts : s.heard.ownLoadPlan p = s.heard.loadPlanFrom p (splitCounts p items (planBase p + 8)) :=
    State.ownLoadPlan_counts hlen hfree hg hm hi
  refine ⟨fun hless hshort => refuse (hcounts.trans (State.loadPlanFrom_short hcarried hless hshort)), fun hall => ?_⟩
  rw [← hall] at hi hcounts ⊢
  intro C W wrong
  have hwith := hcounts.trans (State.loadPlanFrom_carried hcarried)
  have hitems : counts.length ≤ 16 := (outside_eq_false.1 hi).2
  refine ⟨fun k hk hout hfirst => refuse (hwith.trans (State.loadPlanWith_badCount hk hout hfirst)), fun hc =>
    ⟨fun hl => refuse (hwith.trans (State.loadPlanWith_badLength hc hl)), fun hl => ⟨fun f hf hfirst => ?_, fun hfields huse => ?_⟩⟩⟩
  · exact refuse (hwith.trans (State.loadPlanWith_wrongField hc hl hitems hf hfirst))
  · exact refuse (hwith.trans ((State.loadPlanWith_noWrongField hc hl hitems hfields).trans (State.planChecked_inUse huse)))
end

section
/-! SUPPORT. A LOAD_PLAN payload as the tables lay it out is read back as the plan record it carries, and passes every check (R14, R17,
Tables 2-3, 2-4 and 10-3). -/

-- One proof at a time: elaborated in parallel, each proof that waits for an earlier one holds a thread and its stack.
set_option Elab.async false

namespace Sys2Proof.Machine

/-! ## Reading past a field -/

theorem rd8_past_be8 (n : Nat) (l : List Byte) (i : Nat) : rd8 (be8 n ++ l) (i + 1) = rd8 l i := rfl

theorem rd8_past_be16 (n : Nat) (l : List Byte) (i : Nat) : rd8 (be16 n ++ l) (i + 2) = rd8 l i := rfl

theorem rd16_past_be8 (n : Nat) (l : List Byte) (i : Nat) : rd16 (be8 n ++ l) (i + 1) = rd16 l i := rfl

theorem rd16_past_be16 (n : Nat) (l : List Byte) (i : Nat) : rd16 (be16 n ++ l) (i + 2) = rd16 l i := rfl

/-! ## The items (Table 10-3) -/

/-- The bytes of one item of the split list. -/
def SplitItem.bytes (i : SplitItem) : List Byte := flagByte i.half ++ (be8 i.splits.length ++ i.splits.flatMap be16)

theorem SplitItem.bytes_length (i : SplitItem) : i.bytes.length = 2 + 2 * i.splits.length := by
  rw [SplitItem.bytes, List.length_append, List.length_append, length_flatMap_be16]
  simp [flagByte, be8]; omega

/-- An item has 2 to 6 splits of 50 to 2400 (R14, Table 2-1). -/
abbrev SplitItem.fits (i : SplitItem) : Prop := 2 ≤ i.splits.length ∧ i.splits.length ≤ 6 ∧ ∀ x ∈ i.splits, 50 ≤ x ∧ x ≤ 2400

section
variable {i : SplitItem} (hi : i.fits) (pre rest : List Byte)

theorem rd8_half : rd8 (pre ++ (i.bytes ++ rest)) pre.length = i.half.toNat := by
  rw [SplitItem.bytes, List.append_assoc]
  exact (rd8_append_right pre _ 0).trans (rd8_flagByte _ _)

include hi

theorem rd8_splitCount : rd8 (pre ++ (i.bytes ++ rest)) (pre.length + 1) = i.splits.length := by
  obtain ⟨-, hcount, -⟩ := hi
  rw [SplitItem.bytes, List.append_assoc, List.append_assoc, rd8_append_right, flagByte, rd8_past_be8 _ _ 0]
  exact rd8_be8 (by omega) _

theorem rd16_split {j : Nat} (hj : j < i.splits.length) : rd16 (pre ++ (i.bytes ++ rest)) (pre.length + 2 + 2 * j) = i.splits[j] := by
  obtain ⟨-, -, hsplits⟩ := hi
  rw [SplitItem.bytes, List.append_assoc, List.append_assoc, Nat.add_assoc, rd16_append_right, Nat.add_comm 2]
  exact rd16_flatMap_be16 (fun x hx => by have := (hsplits x hx).2; omega) rest hj

end

/-- The split counts of the items. -/
def splitLengths (items : List SplitItem) : List Nat := items.map (·.splits.length)

theorem items_bytes_length (items : List SplitItem) :
    (items.flatMap (·.bytes)).length = ((splitLengths items).map fun c => 2 + 2 * c).sum := by
  induction items with
  | nil => rfl
  | cons i is ih => rw [List.flatMap_cons, List.length_append, ih, SplitItem.bytes_length]; rfl

/-- The rest of the items, seen from behind the first. -/
theorem items_behind_first (pre : List Byte) (i : SplitItem) (is : List SplitItem) :
    pre ++ (i :: is).flatMap (·.bytes) = (pre ++ i.bytes) ++ is.flatMap (·.bytes)
      ∧ pre.length + 2 + 2 * i.splits.length = (pre ++ i.bytes).length := by
  rw [List.flatMap_cons, List.append_assoc, List.length_append, SplitItem.bytes_length, Nat.add_assoc]
  exact ⟨rfl, rfl⟩

section
variable {items : List SplitItem} (hitems : ∀ i ∈ items, i.fits) (pre : List Byte)
include hitems

theorem splitCounts_items :
    splitCounts (pre ++ items.flatMap (·.bytes)) items.length pre.length = some (splitLengths items) := by
  induction items generalizing pre with
  | nil => rfl
  | cons i is ih =>
    have hroom : pre.length + 1 < (pre ++ (i :: is).flatMap (·.bytes)).length := by
      rw [List.length_append, List.flatMap_cons, List.length_append, SplitItem.bytes_length]; omega
    have hcount : rd8 (pre ++ (i :: is).flatMap (·.bytes)) (pre.length + 1) = i.splits.length :=
      rd8_splitCount (hitems i List.mem_cons_self) pre _
    obtain ⟨hbytes, hplace⟩ := items_behind_first pre i is
    rw [List.length_cons, splitCounts, if_pos hroom, hcount, hplace, hbytes, ih (fun j hj => hitems j (List.mem_cons_of_mem i hj))]
    rfl

theorem loadedItems_items : loadedItems (pre ++ items.flatMap (·.bytes)) pre.length (splitLengths items) = items := by
  induction items generalizing pre with
  | nil => rfl
  | cons i is ih =>
    have hi := hitems i List.mem_cons_self
    have hflag (b : Bool) : decide (b.toNat = 1) = b := by cases b <;> rfl
    have hhalf : rd8 (pre ++ (i :: is).flatMap (·.bytes)) pre.length = i.half.toNat := rd8_half pre _
    have hsplits : ((List.range i.splits.length).map fun j => rd16 (pre ++ (i :: is).flatMap (·.bytes)) (pre.length + 2 + 2 * j))
        = i.splits := List.ext_getElem (by simp) fun j _ hj => by
      rw [List.getElem_map, List.getElem_range]
      exact rd16_split hi pre _ hj
    obtain ⟨hbytes, hplace⟩ := items_behind_first pre i is
    rw [splitLengths, List.map_cons, loadedItems, hhalf, hsplits, hflag, hplace, hbytes]
    exact congrArg (i :: ·) (ih (fun j hj => hitems j (List.mem_cons_of_mem i hj)) _)

theorem itemChecks_items (k : Nat) :
    ∀ x ∈ itemChecks (pre ++ items.flatMap (·.bytes)) k pre.length (splitLengths items), x.1 = false := by
  induction items generalizing pre k with
  | nil => rintro x ⟨⟩
  | cons i is ih =>
    have hi := hitems i List.mem_cons_self
    obtain ⟨-, -, hsplits⟩ := id hi
    have hhalf : rd8 (pre ++ (i :: is).flatMap (·.bytes)) pre.length = i.half.toNat := rd8_half pre _
    obtain ⟨hbytes, hplace⟩ := items_behind_first pre i is
    rw [splitLengths, List.map_cons, itemChecks, hhalf, List.cons_append, fieldCheck, forall_checks_cons, forall_checks_append]
    refine ⟨by cases i.half <;> rfl, ?_, ?_⟩
    · simp only [List.mem_map, List.mem_range]
      rintro _ ⟨j, hj, rfl⟩
      rw [List.flatMap_cons, rd16_split hi pre _ hj]
      exact outside_eq_false.2 (hsplits _ (List.getElem_mem hj))
    · rw [hplace, hbytes]
      exact ih (fun j hj => hitems j (List.mem_cons_of_mem i hj)) _ (k + 1)

end

/-! ## The fields before the items (Table 10-3) -/

section
variable {p : Plan} {g : Nat}

/-- The payload of a plan record in a slot (Table 10-3). -/
def Plan.payload (p : Plan) (g : Nat) : List Byte := be8 g ++ p.bytes

/-- The bytes of a tidal station, none in another mode than TIDAL. -/
def tidalBytes : Option Nat → List Byte
  | some k => be8 k
  | none => []

/-- The bytes of the plan number and fields 2 to 6. -/
def Plan.headBytes (p : Plan) (g : Nat) : List Byte :=
  be8 g ++ (be16 p.cycle ++ (be16 p.base ++ (be8 p.ref ++ (be8 p.mode.code ++ be8 p.weight))))

/-- The bytes of fields 8 to 13 and of the list's length. -/
def Plan.limitBytes (p : Plan) : List Byte :=
  be8 p.shorten ++ (be8 p.lengthen ++ (be8 p.stepLimit ++ (be16 p.advanceCap ++ (be8 p.maxExtension ++ (be8 p.lockout
    ++ be8 p.items.length)))))

theorem Plan.payload_eq (p : Plan) (g : Nat) :
    p.payload g = p.headBytes g ++ (tidalBytes p.tidal ++ (p.limitBytes ++ p.items.flatMap (·.bytes))) := by
  unfold Plan.payload Plan.bytes Plan.headBytes Plan.limitBytes SplitItem.bytes
  cases p.tidal <;> simp only [tidalBytes, List.append_assoc, List.nil_append]

/-- The bytes before the items. -/
theorem Plan.payload_parts (p : Plan) (g : Nat) : p.payload g
    = (p.headBytes g ++ tidalBytes p.tidal ++ p.limitBytes) ++ p.items.flatMap (·.bytes) := by
  rw [Plan.payload_eq, List.append_assoc, List.append_assoc]

theorem BandMode.ofCode_code (m : BandMode) : .ofCode m.code = m := by cases m <;> rfl

theorem BandMode.code_eq_three {m : BandMode} : m.code = 3 ↔ m = .tidal := by cases m <;> decide

theorem BandMode.code_le (m : BandMode) : m.code ≤ 3 := by cases m <;> decide

variable (hp : p.fits)
include hp

theorem Plan.payload_head : rd16 (p.payload g) 1 = p.cycle ∧ rd16 (p.payload g) 3 = p.base ∧ rd8 (p.payload g) 5 = p.ref
    ∧ rd8 (p.payload g) 6 = p.mode.code ∧ rd8 (p.payload g) 7 = p.weight := by
  obtain ⟨-, hcycle, -, hbase, href, hweight, -⟩ := hp
  have hcode := p.mode.code_le
  rw [Plan.payload_eq]
  simp only [Plan.headBytes, List.append_assoc, rd8_past_be8, rd8_past_be16, rd16_past_be8, rd16_past_be16]
  refine ⟨rd16_be16 (by omega) _, rd16_be16 (by omega) _, rd8_be8 (by omega) _, rd8_be8 (by omega) _, rd8_be8 (by omega) _⟩

theorem Plan.planBase_payload : planBase (p.payload g) = (p.headBytes g ++ tidalBytes p.tidal).length := by
  obtain ⟨-, -, -, hcode, -⟩ := Plan.payload_head (g := g) hp
  obtain ⟨-, -, -, -, -, -, -, htidal, -⟩ := hp
  rw [planBase, hcode, if_congr (BandMode.code_eq_three.trans htidal.symm) rfl rfl]
  cases p.tidal <;> rfl

theorem Plan.payload_tidal : (if rd8 (p.payload g) 6 = 3 then some (rd8 (p.payload g) 8) else none) = p.tidal := by
  obtain ⟨-, -, -, hcode, -⟩ := Plan.payload_head (g := g) hp
  obtain ⟨-, -, -, -, -, -, -, htidal, hstation, -⟩ := hp
  rw [hcode, if_congr (BandMode.code_eq_three.trans htidal.symm) rfl rfl, Plan.payload_eq]
  cases hk : p.tidal with
  | none => rfl
  | some k =>
    have hk15 := hstation k hk
    exact congrArg some ((rd8_append_right (p.headBytes g) _ 0).trans (rd8_be8 (by omega) _))

/-- The bytes of fields 8 to 14, read at their offset. -/
theorem Plan.payload_limits : let o := planBase (p.payload g)
    rd8 (p.payload g) o = p.shorten ∧ rd8 (p.payload g) (o + 1) = p.lengthen ∧ rd8 (p.payload g) (o + 2) = p.stepLimit
      ∧ rd16 (p.payload g) (o + 3) = p.advanceCap ∧ rd8 (p.payload g) (o + 5) = p.maxExtension
      ∧ rd8 (p.payload g) (o + 6) = p.lockout ∧ rd8 (p.payload g) (o + 7) = p.items.length := by
  intro o
  have hread8 (i : Nat) : rd8 (p.payload g) (o + i) = rd8 (p.limitBytes ++ p.items.flatMap (·.bytes)) i := by
    rw [show o = _ from Plan.planBase_payload hp, Plan.payload_eq, ← List.append_assoc (p.headBytes g), rd8_append_right]
  have hread16 : rd16 (p.payload g) (o + 3) = rd16 (p.limitBytes ++ p.items.flatMap (·.bytes)) 3 := by
    rw [rd16, Nat.add_assoc, hread8, hread8, rd16]
  obtain ⟨-, -, -, -, -, -, -, -, -, hshort, -, hlong, -, hstep, hcap, hext, hlock, -, hitems, -⟩ := hp
  have hzero := hread8 0
  rw [Nat.add_zero] at hzero
  rw [hzero, hread8, hread8, hread16, hread8, hread8, hread8]
  simp only [Plan.limitBytes, List.append_assoc, rd8_past_be8, rd8_past_be16, rd16_past_be8]
  refine ⟨rd8_be8 (by omega) _, rd8_be8 (by omega) _, rd8_be8 (by omega) _, rd16_be16 (by omega) _, rd8_be8 (by omega) _,
    rd8_be8 (by omega) _, rd8_be8 (by omega) _⟩

/-! ## The payload as a whole -/

theorem Plan.itemsPlace : planBase (p.payload g) + 8 = (p.headBytes g ++ tidalBytes p.tidal ++ p.limitBytes).length := by
  rw [Plan.planBase_payload hp, List.length_append (bs := p.limitBytes)]
  rfl

theorem Plan.fits.items (i : SplitItem) (hi : i ∈ p.items) : i.fits := by
  obtain ⟨-, -, -, -, -, -, -, -, -, -, -, -, -, -, -, -, -, -, -, hitems⟩ := hp
  exact hitems i hi

theorem Plan.splitCounts_payload :
    splitCounts (p.payload g) p.items.length (planBase (p.payload g) + 8) = some (splitLengths p.items) := by
  rw [Plan.itemsPlace hp, Plan.payload_parts]
  exact splitCounts_items hp.items _

/-- The payload is read back as the plan record that it carries. -/
theorem loadedPlan_payload : loadedPlan (p.payload g) (splitLengths p.items) = p := by
  obtain ⟨hcycle, hbase, href, hcode, hweight⟩ := Plan.payload_head (g := g) hp
  obtain ⟨hshort, hlong, hstep, hcap, hext, hlock, -⟩ := Plan.payload_limits (g := g) hp
  have hitems : loadedItems (p.payload g) (planBase (p.payload g) + 8) (splitLengths p.items) = p.items := by
    rw [Plan.itemsPlace hp, Plan.payload_parts]
    exact loadedItems_items hp.items _
  rw [loadedPlan, Plan.payload_tidal hp, hcycle, hbase, href, hcode, hweight, hshort, hlong, hstep, hcap, hext, hlock, hitems,
    BandMode.ofCode_code]

theorem Plan.payload_length : (p.payload g).length = planLength (p.payload g) (splitLengths p.items) := by
  rw [planLength, Plan.itemsPlace hp, ← items_bytes_length, Plan.payload_parts, List.length_append]

theorem Plan.payload_length_le : (p.payload g).length ≤ 250 := by
  have hbase : planBase (p.payload g) ≤ 9 := by unfold planBase; split <;> omega
  have hsum : ((splitLengths p.items).map fun c => 2 + 2 * c).sum ≤ ((splitLengths p.items).map fun c => 2 + 2 * c).length • 14 := by
    refine List.sum_le_card_nsmul _ _ fun x hx => ?_
    simp only [splitLengths, List.mem_map] at hx
    obtain ⟨_, ⟨i, hi, rfl⟩, rfl⟩ := hx
    obtain ⟨-, hcount, -⟩ := hp.items i hi
    omega
  obtain ⟨-, -, -, -, -, -, -, -, -, -, -, -, -, -, -, -, -, -, hitems, -⟩ := id hp
  rw [List.length_map, splitLengths, List.length_map, smul_eq_mul] at hsum
  rw [Plan.payload_length hp, planLength, splitLengths]
  omega

/-! ## The checks pass (Table 2-4) -/

theorem planFieldChecks_payload : ∀ x ∈ planFieldChecks (p.payload g) (splitLengths p.items), x.1 = false := by
  have hchecks : ∀ x ∈ itemChecks (p.payload g) 0 (planBase (p.payload g) + 8) (splitLengths p.items), x.1 = false := by
    rw [Plan.itemsPlace hp, Plan.payload_parts]
    exact itemChecks_items hp.items _ 0
  have htidal : p.tidal.any (15 < ·) = false := by
    obtain ⟨-, -, -, -, -, -, -, -, hstation, -⟩ := id hp
    cases hk : p.tidal with
    | none => rfl
    | some k => exact decide_eq_false (Nat.not_lt.2 (hstation k hk))
  obtain ⟨h1, h2, h3, hbase, href, hw1, hw2, -, -, hshort, hl1, hl2, hs1, hs2, hcap, hext, hlock, -⟩ := id hp
  unfold planFieldChecks
  dsimp only
  rw [loadedPlan_payload hp, htidal]
  simp only [fieldCheck, forall_checks_append, forall_checks_cons, outside_eq_false, Bool.or_eq_false_iff, decide_eq_false_iff_not,
    not_le, not_lt, ne_eq, not_not]
  exact ⟨⟨⟨⟨h1, h2⟩, h3⟩, hbase, href, ⟨hw1, hw2⟩, trivial, hshort, ⟨hl1, hl2⟩, ⟨hs1, hs2⟩, hcap, hext, hlock,
    by rintro _ ⟨⟩⟩,
    hchecks⟩

/-- LOAD_PLAN of a fitting record passes every check but the last (Table 2-4). -/
theorem State.ownLoadPlan_payload {s : State} (hb : s.busy = false) (hg1 : 1 ≤ g) (hg8 : g ≤ 8) :
    s.ownLoadPlan (p.payload g) = s.checked [s.inUseCheck g] (.ok (s.judge p).bytes, s.storePlan g p) := by
  obtain ⟨-, -, -, hcode, -⟩ := Plan.payload_head (g := g) hp
  obtain ⟨-, -, -, -, -, -, hlist⟩ := Plan.payload_limits (g := g) hp
  have hnumber : rd8 (p.payload g) 0 = g := rd8_be8 (by omega) p.bytes
  have hlength := Plan.payload_length (g := g) hp
  have hlen : planBase (p.payload g) + 8 ≤ (p.payload g).length := by rw [hlength, planLength]; omega
  have hitems : 1 ≤ p.items.length ∧ p.items.length ≤ 16 := by
    obtain ⟨-, -, -, -, -, -, -, -, -, -, -, -, -, -, -, -, -, h1, h16, -⟩ := id hp
    exact ⟨h1, h16⟩
  have hcounts : ∀ c ∈ splitLengths p.items, outside 2 6 c = false := by
    simp only [splitLengths, List.mem_map]
    rintro _ ⟨i, hi, rfl⟩
    obtain ⟨h2, h6, -⟩ := hp.items i hi
    exact outside_eq_false.2 ⟨h2, h6⟩
  rw [State.ownLoadPlan_counts hlen hb (by rw [hnumber]; exact outside_eq_false.2 ⟨hg1, hg8⟩) (hcode ▸ p.mode.code_le)
    (by rw [hlist]; exact outside_eq_false.2 hitems), hlist, Plan.splitCounts_payload hp, State.loadPlanFrom]
  rw [State.loadPlanWith_fields hcounts (hlength.trans (planLength_eq _ _)), State.planChecked, hnumber, loadedPlan_payload hp]
  exact State.checked_append_of_passes (firstFailure_eq_none.2 (planFieldChecks_payload hp))

end

end Sys2Proof.Machine

open Sys2Proof Sys2Proof.Machine

/-- Settles O43: the payload is read back as its record, every check up to the last passes, and the last one is PROTECTED's. -/
theorem loadPlanStoresTheRecord : Obligations.LoadPlanStoresTheRecord := by
  intro s echo g p h hb hg1 hg8 hp
  have hown := State.ownLoadPlan_payload (s := s.heard) hp hb hg1 hg8
  have hlow : 1 ≤ (p.payload g).length := Nat.succ_le_of_lt (Nat.zero_lt_succ _)
  have serve {r : Result} {u : State} (ho : s.heard.ownLoadPlan (p.payload g) = (r, u)) (hu : u.begun) :
      exec (.loadPlan echo (be8 g ++ p.bytes)) s = .next (u.answered 0x03 echo r) :=
    exec_loadPlan h hlow (Plan.payload_length_le hp) ho hu
  refine ⟨fun ha hs => ?_, fun huse => ?_⟩
  · have hfree : (decide (s.ps.active = some g) || decide (s.ps.staged = some g)) = false := by simp [ha, hs]
    have hchecked : s.heard.inUseCheck g = (false, .planInUse) := by rw [← hfree]; rfl
    rw [hchecked, State.checked_passes, State.checked_nil] at hown
    exact serve hown (State.heard_begun h)
  · have huse : (decide (s.ps.active = some g) || decide (s.ps.staged = some g)) = true := by simpa using huse
    have hchecked : s.heard.inUseCheck g = (true, .planInUse) := by rw [← huse]; rfl
    rw [hchecked, State.checked_fails] at hown
    exact serve hown (State.heard_begun h)
end

section
/-! SUPPORT. The departures of an entry to STOPPING: which entries are left, how many events are written, and what stands beside them
(R42, R115, R125, R131, R156). -/

-- One proof at a time: elaborated in parallel, each proof that waits for an earlier one holds a thread and its stack.
set_option Elab.async false

namespace Sys2Proof.Machine

/-! ## The records of the Event Queue (R156) -/

section
variable (s : State)

theorem State.noticeReport_eventQueue : s.noticeReport.eq = s.eq := by
  unfold State.noticeReport
  split
  · rw [State.transmit_eq]
  · rfl

theorem State.emit_records (b : EventBody) : (s.emit b).eq.records
    = if s.eq.records.length < Config.eventLimit then s.eq.records ++ [s.record b] else s.eq.records := by
  unfold State.emit
  split
  · dsimp only
    split
    · rw [State.noticeReport_eventQueue]; rfl
    · rfl
  · rfl

theorem State.emit_records_of_room (h : s.eq.records.length < Config.eventLimit) (b : EventBody) :
    (s.emit b).eq.records = s.eq.records ++ [s.record b] := (s.emit_records b).trans (if_pos h)

theorem State.emit_records_length (b : EventBody) : (s.emit b).eq.records.length ≤ s.eq.records.length + 1 := by
  rw [State.emit_records]
  split <;> simp

end

/-- What only writes events adds records behind those of the queue. -/
theorem Quiet.records {s t : State} (h : Quiet s t) : s.eq.records <+: t.eq.records := by
  induction h with
  | same _ he _ => rw [he]
  | @emit t _ b ih =>
    refine ih.trans ?_
    rw [State.emit_records]
    split
    · exact List.prefix_append _ _
    · exact List.prefix_refl _
  | host _ _ he _ ih => rwa [he]

/-! ## Lists by level (R125) -/

theorem mem_insertByLevel {e x : Entry} {l : List Entry} (h : x ∈ insertByLevel e l) : x = e ∨ x ∈ l := by
  induction l with
  | nil => exact .inl (List.mem_singleton.1 h)
  | cons y l ih =>
    unfold insertByLevel at h
    split at h
    · exact List.mem_cons.1 h
    · obtain rfl | h := List.mem_cons.1 h
      · exact .inr List.mem_cons_self
      · exact (ih h).imp_right (List.mem_cons_of_mem y)

theorem mem_of_mem_byLevel {x : Entry} {l : List Entry} (h : x ∈ byLevel l) : x ∈ l := by
  have hfold (l acc : List Entry) (h : x ∈ l.foldl (fun acc e => insertByLevel e acc) acc) : x ∈ acc ∨ x ∈ l := by
    induction l generalizing acc with
    | nil => exact .inl h
    | cons e l ih =>
      obtain h | h := ih _ h
      · obtain rfl | h := mem_insertByLevel h
        · exact .inr List.mem_cons_self
        · exact .inl h
      · exact .inr (List.mem_cons_of_mem e h)
  exact (hfold l [] h).resolve_left List.not_mem_nil

/-! ## Departures outside RUNNING (R115, R125) -/

/-- No entry is left that the entry to STOPPING cancels (R131). -/
def State.NoneEnds (s : State) : Prop := ∀ e ∈ s.table, e.endsAtStop = false

theorem State.NoneEnds.entry {s : State} (h : s.NoneEnds) {e : Entry} (he : e ∈ s.table) :
    ¬(e.cls = .transit ∧ e.state = .pending) ∧ ¬(e.origin = .route ∧ e.state ≠ .active) := by
  simpa [Entry.endsAtStop] using h e he

/-- From `s` to `t`, outside RUNNING, entries have left the table or been taken up: no entry that ends at a stop has come in, and there is
an event for an entry gone at most. -/
structure Departs (s t : State) : Prop where
  ps : t.ps = s.ps := by rfl
  ended : s.NoneEnds → t.NoneEnds
  room : t.eq.records.length + t.table.length ≤ s.eq.records.length + s.table.length

namespace Departs

variable {s t u : State}

theorem refl (s : State) : Departs s s := ⟨rfl, id, le_rfl⟩

theorem trans (h : Departs s t) (h' : Departs t u) : Departs s u := ⟨h'.ps.trans h.ps, h'.ended ∘ h.ended, h'.room.trans h.room⟩

theorem of_same (ps : t.ps = s.ps := by rfl) (table : t.table = s.table := by rfl) (eq : t.eq = s.eq := by rfl) : Departs s t :=
  ⟨ps, fun h => by rw [State.NoneEnds, table]; exact h, by rw [table, eq]⟩

theorem modEntry {i : SlotIx} {f : Entry → Entry} (hf : s.NoneEnds → ∀ e, (f e).endsAtStop = false) : Departs s (s.modEntry i f) where
  ended h := by
    simp only [State.NoneEnds, State.modEntry, List.mem_map]
    rintro _ ⟨e, he, rfl⟩
    split
    · exact hf h e
    · exact h e he
  room := by simp [State.modEntry]

theorem foldl {α : Type} {f : State → α → State} (hf : ∀ u a, u.ps.corridor ≠ .running → Departs u (f u a)) (l : List α)
    (hr : s.ps.corridor ≠ .running) : Departs s (l.foldl f s) := by
  induction l generalizing s with
  | nil => exact .refl s
  | cons a l ih =>
    have hfirst := hf s a hr
    exact hfirst.trans (ih (by rw [hfirst.ps]; exact hr))

end Departs

section
variable {s : State}

theorem State.letGo_eventQueue (e : Entry) : (s.letGo e).eq = s.eq := by
  unfold State.letGo
  split
  · dsimp only
    split <;> rfl
  · rfl

theorem State.leave_eventQueue (e : Entry) (o : ReqOutcome) : (s.leave e o).eq = (s.emit (.requestEnd e.station o e.grant e.tag)).eq := by
  unfold State.leave
  dsimp only
  split <;> exact State.letGo_eventQueue e

theorem State.leave_departs {e : Entry} (he : e ∈ s.table) (o : ReqOutcome) : Departs s (s.leave e o) where
  ps := (s.leave_aside (kept := True) e o).ps
  ended h x hx := by
    rw [State.leave_table] at hx
    exact h x (List.mem_of_mem_filter hx)
  room := by
    have hfewer : (s.table.filter (·.slot ≠ e.slot)).length < s.table.length :=
      List.length_filter_lt_length_iff_exists.2 ⟨e, he, by simp⟩
    have hevent := s.emit_records_length (.requestEnd e.station o e.grant e.tag)
    rw [State.leave_table, State.leave_eventQueue]
    omega

theorem State.leaveSlot_departs (i : SlotIx) (o : ReqOutcome) : Departs s (s.leaveSlot i o) := by
  unfold State.leaveSlot
  split
  · next e h => exact State.leave_departs (State.entry_mem h).1 o
  · exact .refl s

/-- The entry in a slot is gone, if there was one (R115). -/
theorem State.leaveSlot_table (i : SlotIx) (o : ReqOutcome) : (s.leaveSlot i o).table = s.table.filter (·.slot ≠ i) := by
  unfold State.leaveSlot
  split
  · next e h => rw [State.leave_table, (State.entry_mem h).2]
  · next h => exact (List.filter_eq_self.2 fun e he => decide_eq_true (State.entry_none.1 h e he)).symm

theorem State.leaveSlots_table (l : List SlotIx) (o : ReqOutcome) :
    (l.foldl (fun s i => s.leaveSlot i o) s).table = s.table.filter (·.slot ∉ l) := by
  induction l generalizing s with
  | nil => simp
  | cons i l ih =>
    rw [List.foldl_cons, ih, State.leaveSlot_table, List.filter_filter]
    refine List.filter_congr fun e _ => ?_
    simp [Bool.and_comm]

section
variable (hr : s.ps.corridor ≠ .running)
include hr

theorem State.routeEnded_departs (k : StationIx) : Departs s (s.routeEnded k) := by
  rw [State.routeEnded, State.rehold_of_still (s := s.modSt k fun t => { t with routeActive := false }) hr]
  exact .of_same

theorem State.evaluateTransit_of_still (k : StationIx) : s.evaluateTransit k = s := by
  rw [State.evaluateTransit, decide_eq_false hr]
  rfl

theorem State.supersede_departs (k : StationIx) : Departs s (s.supersede k) := by
  unfold State.supersede
  split
  · next e h =>
    have hleave := State.leave_departs (s := s) (List.mem_of_find?_eq_some h) .superseded
    unfold State.endEntry
    dsimp only
    split
    · exact hleave.trans (State.routeEnded_departs (by rw [hleave.ps]; exact hr) _)
    · exact hleave
  · exact .refl s

/-- With no route entry waiting, the emergency taken up is a station's (R125, R127). -/
theorem State.takeUp?_departs {k : StationIx} {t : State} (h : s.takeUp? k = some t) : Departs s t := by
  unfold State.takeUp? at h
  split at h
  · split at h
    · cases h
    · next e l hl =>
      have hmem : e ∈ s.pendingEmergencies k := hl ▸ List.mem_cons_self
      obtain ⟨htable, hpending⟩ := List.mem_filter.1 (mem_of_mem_byLevel hmem)
      simp only [Bool.and_eq_true, decide_eq_true_eq] at hpending
      split at h
      · cases h
        exact (State.supersede_departs hr _).trans (.modEntry fun _ e => by simp [Entry.endsAtStop])
      · next horigin =>
        split at h
        · cases h
          have hposted : Departs s (s.placeUrgent e.station (.preempt e.slot e.dir e.level e.tag)) := .of_same
          refine hposted.trans (.modEntry fun hended => ?_)
          have hends := hended e htable
          simp [Entry.endsAtStop, horigin, hpending.2] at hends
        · cases h
  · cases h

theorem State.resume_departs (k : StationIx) (a b : Bool) : Departs s (s.resume k a b) := by
  unfold State.resume State.takeUp
  split
  · split
    · next h => exact State.takeUp?_departs hr h
    · rw [State.evaluateTransit_of_still hr]; exact .refl s
  · split
    · cases h : s.takeUp? k with
      | none => exact .refl s
      | some t => exact State.takeUp?_departs hr h
    · exact .refl s

/-- The departures of a stop leave no entry that ends there (R131). -/
theorem State.departAll_departs (o : ReqOutcome) :
    Departs s (s.departAll (·.endsAtStop) o) ∧ (s.departAll (·.endsAtStop) o).NoneEnds := by
  have hleft : Departs s (((s.table.filter (·.endsAtStop)).map (·.slot)).foldl (fun s i => s.leaveSlot i o) s) :=
    .foldl (fun u i _ => u.leaveSlot_departs i o) _ hr
  have hended : (((s.table.filter (·.endsAtStop)).map (·.slot)).foldl (fun s i => s.leaveSlot i o) s).NoneEnds := by
    intro e he
    rw [State.leaveSlots_table] at he
    obtain ⟨hmem, hslot⟩ := List.mem_filter.1 he
    by_contra hends
    exact absurd (List.mem_map_of_mem (List.mem_filter.2 ⟨hmem, by simpa using hends⟩)) (of_decide_eq_true hslot)
  have hrest (u : State) (hu : u.ps.corridor ≠ .running) (p q r : StationIx → Bool) :
      Departs u ((u.eachStation fun s k => if p k then s.routeEnded k else s).eachStation fun s k => s.resume k (q k) (r k)) := by
    have hreported : Departs u (u.eachStation fun s k => if p k then s.routeEnded k else s) :=
      .foldl (fun v k hv => by
        split
        · exact State.routeEnded_departs hv k
        · exact .refl v) _ hu
    exact hreported.trans (.foldl (fun v k hv => State.resume_departs hv k _ _) _ (by rw [hreported.ps]; exact hu))
  have hall := hrest _ (by rw [hleft.ps]; exact hr) (fun k => (s.table.filter (·.endsAtStop)).any fun e => e.station = k && e.holdsRoute)
    (fun k => ((s.table.filter (·.endsAtStop)).filter (·.station = k)).any (·.state = .active))
    fun k => ((s.table.filter (·.endsAtStop)).filter (·.station = k)).any (·.posted)
  exact ⟨hleft.trans hall, hall.ended hended⟩

end

/-! ## What stands beside the departures -/

theorem State.eachStation_aside {kept : Prop} {f : State → StationIx → State} (hf : ∀ u k, Aside kept u (f u k)) :
    Aside kept s (s.eachStation f) := by
  have hfold (l : List StationIx) (u : State) : Aside kept u (l.foldl f u) := by
    induction l generalizing u with
    | nil => exact .refl u
    | cons k l ih => exact (hf u k).trans (ih _)
  exact hfold allStations s

theorem State.leaveSlots_aside {kept : Prop} (l : List SlotIx) (o : ReqOutcome) : Aside kept s (l.foldl (fun s i => s.leaveSlot i o) s) := by
  induction l generalizing s with
  | nil => exact .refl s
  | cons i l ih =>
    refine Aside.trans ?_ ih
    dsimp only [State.leaveSlot]
    split
    · exact s.leave_aside _ _
    · exact .refl s

theorem State.resume_aside (k : StationIx) (a b : Bool) : Aside False s (s.resume k a b) := by
  have htaken := s.takeUp_aside k
  unfold State.resume
  split
  · split
    · next t h => rwa [State.takeUp, h] at htaken
    · exact s.evaluateTransit_aside k
  · split
    · exact htaken
    · exact .refl s

theorem State.departAll_aside (p : Entry → Bool) (o : ReqOutcome) : Aside False s (s.departAll p o) := by
  refine ((State.leaveSlots_aside _ o).trans (State.eachStation_aside fun u k => ?_)).trans
    (State.eachStation_aside fun u k => State.resume_aside k _ _)
  split
  · exact u.routeEnded_aside k
  · exact .refl u

end

end Sys2Proof.Machine
end

section
/-! SUPPORT. The entry to STOPPING and the entry to IDLE, followed from a plan evaluation: the stations released, the waiting requests
ended, and the records written (R22 to R24, R41 to R43, R109, R131, R156). -/

-- One proof at a time: elaborated in parallel, each proof that waits for an earlier one holds a thread and its stack.
set_option Elab.async false

namespace Sys2Proof.Machine

variable (s : State)

/-! ## Frames and stamps -/

/-- What a change spares that stays aside (R48, R115). -/
theorem Aside.frame {kept : Prop} {s t : State} (h : Aside kept s t) :
    t = { s with stations := t.stations, clc := t.clc, table := t.table, eq := t.eq, hli := t.hli } := by
  have hcore : t = { t.core with stations := t.stations, clc := t.clc, table := t.table, eq := t.eq, hli := t.hli } := rfl
  rw [h.core] at hcore
  exact hcore

theorem Aside.weaken {kept : Prop} {s t : State} (h : Aside kept s t) : Aside False s t := ⟨h.core, h.station, h.jump, False.elim⟩

/-- A record's stamp is the clock's (R156). -/
theorem State.record_congr {s t : State} (h : t.tb = s.tb) (b : EventBody) : t.record b = s.record b := by
  simp only [State.record, h]

/-! ## Plan evaluation writes one record at most (R24) -/

theorem State.reject_records (g : Nat) : ∃ before : List Event, before.length ≤ 1 ∧ (s.reject g).eq.records = s.eq.records ++ before := by
  have hwritten (b : EventBody) : ∃ before : List Event, before.length ≤ 1 ∧ (s.emit b).eq.records = s.eq.records ++ before := by
    rw [State.emit_records]
    split
    · exact ⟨_, le_rfl, rfl⟩
    · exact ⟨[], Nat.zero_le 1, (List.append_nil _).symm⟩
  unfold State.reject
  split
  · exact ⟨[], Nat.zero_le 1, (List.append_nil _).symm⟩
  · exact hwritten _

theorem State.planEvaluation_records : ∃ before : List Event, before.length ≤ 1
    ∧ (s.governing = 0 ∨ s.planValid s.governing = true → before = [])
    ∧ s.planEvaluation.eq.records = s.eq.records ++ before := by
  have hsame : ∃ before : List Event, before.length ≤ 1 ∧ (s.governing = 0 ∨ s.planValid s.governing = true → before = [])
      ∧ s.eq.records = s.eq.records ++ before := ⟨[], Nat.zero_le 1, fun _ => rfl, (List.append_nil _).symm⟩
  obtain ⟨before, hlength, hrejected⟩ := s.reject_records s.governing
  unfold State.planEvaluation
  dsimp only
  split
  · exact hsame
  · split
    · exact hsame
    · next hbad => exact ⟨before, hlength, fun h => absurd h (by simpa using hbad), hrejected⟩
  · split
    · exact hsame
    · split
      · exact hsame
      · next hzero =>
        split
        · exact hsame
        · next hinvalid => exact ⟨before, hlength, fun h => absurd h (not_or.2 ⟨hzero, hinvalid⟩), hrejected⟩

/-! ## The entry to STOPPING (R42) -/

/-- The corridor STOPPING with its stations released and the requests ended, before it is seen whether a RELEASE is outstanding. -/
def State.drained (r : Reason) : State := ((s.halted r).eachStation (·.releaseStation)).departAll (·.endsAtStop) .cancelled

theorem State.enterStopping_drained (r : Reason) : s.enterStopping r = (s.drained r).settle := rfl

section
variable {s} {r : Reason}

theorem State.halted_still : (s.halted r).ps.corridor ≠ .running := by
  rw [State.halted_ps]; exact CorridorState.noConfusion

theorem State.halted_st (k : StationIx) : (s.halted r).st k = s.st k := State.st_congr (s.halted_stations r) k

theorem State.halted_records (h : s.eq.records.length < Config.eventLimit) :
    (s.halted r).eq.records = s.eq.records ++ [s.record (.corridorState .stopping r)] :=
  State.emit_records_of_room { s with ps := { s.ps with corridor := .stopping } } h _

theorem State.halted_records_length : (s.halted r).eq.records.length ≤ s.eq.records.length + 1 :=
  State.emit_records_length { s with ps := { s.ps with corridor := .stopping } } _

theorem State.halted_frame : s.halted r = { s with ps := (s.halted r).ps, eq := (s.halted r).eq, hli := (s.halted r).hli } := by
  unfold State.halted State.stage
  rw [State.emit_eq]

theorem State.released_still : ((s.halted r).eachStation (·.releaseStation)).ps.corridor ≠ .running := by
  rw [((s.halted r).releaseAll_aside State.halted_still).ps]; exact State.halted_still

theorem State.drained_aside : Aside False (s.halted r) (s.drained r) :=
  ((s.halted r).releaseAll_aside State.halted_still).weaken.trans (State.departAll_aside _ _)

theorem State.drained_ps : (s.drained r).ps = { s.ps with corridor := .stopping, staged := none } :=
  State.drained_aside.ps.trans (s.halted_ps r)

theorem State.drained_frame : s.drained r = { s with
    ps := (s.drained r).ps, stations := (s.drained r).stations, clc := (s.drained r).clc, table := (s.drained r).table
    eq := (s.drained r).eq, hli := (s.drained r).hli } := by
  have h := State.drained_aside (s := s) (r := r).frame
  rw [State.halted_frame] at h
  rw [State.drained_ps, ← s.halted_ps r]
  exact h

theorem State.drained_tb : (s.drained r).tb = s.tb := by rw [State.drained_frame]

theorem State.drained_stays (k : StationIx) :
    (((s.halted r).eachStation (·.releaseStation)).st k).Stays ((s.halted r).eachStation (·.releaseStation)).ps.corridor
      ((s.drained r).st k) :=
  (State.departAll_stays _ _ _).station k

theorem State.drained_releases (k : StationIx) : (s.halted r).Releases True (s.st k) (((s.halted r).eachStation (·.releaseStation)).st k) := by
  have h := (s.halted r).releaseAll_releases State.halted_still k
  rwa [State.halted_st] at h

/-- Every station keeps its coordination state (R42). -/
theorem State.drained_coord (k : StationIx) : ((s.drained r).st k).coord = (s.st k).coord :=
  ((State.drained_stays k).coord State.released_still).trans (State.drained_releases k).coord

/-- A station that is not FREE has its RELEASE (R42, R109). -/
theorem State.drained_order {k : StationIx} (h : (s.st k).coord ≠ .free) :
    ((s.drained r).st k).order = some (s.releaseFor (s.st k)) := by
  have hwaiting := ((State.drained_stays k).release State.released_still).trans ((State.drained_releases (r := r) k).released trivial h)
  have hfor : (s.halted r).releaseFor (s.st k) = s.releaseFor (s.st k) := by
    simp only [State.releaseFor, State.now, State.halted_tb]
  rw [hfor] at hwaiting
  exact (Option.filter_eq_some_iff.1 hwaiting).1

theorem State.drained_waitingRelease {k : StationIx} (h : (s.st k).coord = .free) :
    ((s.drained r).st k).waitingRelease = (s.st k).waitingRelease :=
  ((State.drained_stays k).release State.released_still).trans ((State.drained_releases (r := r) k).spared fun h' => h'.2 h)

/-- No waiting request is left that the stop ends (R131). -/
theorem State.drained_noneEnds : (s.drained r).NoneEnds := (State.departAll_departs State.released_still .cancelled).2

/-- The stop is written before everything that follows from it (R42). -/
theorem State.drained_records (h : s.eq.records.length < Config.eventLimit) :
    ∃ more, (s.drained r).eq.records = s.eq.records ++ s.record (.corridorState .stopping r) :: more := by
  have hquiet : Quiet (s.halted r) (s.drained r) :=
    (State.eachStation_quiet _ fun u k => u.releaseStation_quiet k).trans (State.departAll_quiet _ _ _)
  obtain ⟨more, hmore⟩ := hquiet.records
  exact ⟨more, by rw [← hmore, State.halted_records h, List.append_assoc]; rfl⟩

/-- Where a station has its RELEASE outstanding the corridor stays STOPPING (R43). -/
theorem State.drained_settle_of_out {k : StationIx} (h : (s.st k).coord ≠ .free) : (s.drained r).settle = s.drained r := by
  have hout : (s.drained r).releaseOut k = true := by
    rw [State.releaseOut, State.drained_order h]; rfl
  have hne : (s.drained r).releasesOut ≠ 0 := by
    rw [State.releasesOut, Ne, List.length_eq_zero_iff, List.filter_eq_nil_iff]
    exact fun hnone => hnone k (mem_allStations k) hout
  rw [State.settle, decide_eq_false hne, Bool.and_false]
  rfl

section
variable (hfree : ∀ k : StationIx, (s.st k).coord = .free)
include hfree

/-- With every station FREE there is nothing to release (R42). -/
theorem State.releaseAll_of_free : (s.halted r).eachStation (·.releaseStation) = s.halted r := by
  have hfold (l : List StationIx) : l.foldl State.releaseStation (s.halted r) = s.halted r := by
    induction l with
    | nil => rfl
    | cons k l ih => rwa [List.foldl_cons, State.releaseStation, if_pos (by rw [State.halted_st]; exact hfree k)]
  exact hfold allStations

/-- With every station FREE there is an event for an entry that goes at most, beside the stop's own. -/
theorem State.drained_room : (s.drained r).eq.records.length ≤ s.eq.records.length + s.table.length + 1 := by
  have hroom := (State.departAll_departs (s := s.halted r) State.halted_still .cancelled).1.room
  have hlength := State.halted_records_length (s := s) (r := r)
  have htable : (s.halted r).table = s.table := by rw [State.halted_frame]
  rw [State.drained, State.releaseAll_of_free hfree]
  rw [htable] at hroom
  omega

/-- With every station FREE and no order waiting the corridor is IDLE at once (R43). -/
theorem State.drained_settle_of_free (horder : ∀ k : StationIx, (s.st k).order = none) :
    (s.drained r).settle = (s.drained r).enterIdle := by
  have hnone : (s.drained r).releasesOut = 0 := by
    rw [State.releasesOut, List.length_eq_zero_iff, List.filter_eq_nil_iff]
    intro k _ hout
    refine (State.releaseOut_iff _ k).1 hout ?_
    rw [State.drained_waitingRelease (hfree k), Station.waitingRelease, horder k]
    rfl
  have hstopping : (s.drained r).ps.corridor = .stopping := by rw [State.drained_ps]
  rw [State.settle, if_pos (by simp [hstopping, hnone])]

end

end

/-! ## The entry to IDLE (R43) -/

/-- The corridor IDLE with its targets and tidal ring cleared, before its event is written. -/
def State.cleared : State := (s.idled.modAll fun t => t.enterMins.clearTarget).emptyRing

theorem State.cleared_frame : s.cleared = { s.idled with stations := s.cleared.stations, mu := s.cleared.mu } := by
  unfold State.cleared State.emptyRing
  rw [State.modAll_eq]

theorem State.cleared_st (k : StationIx) : s.cleared.st k = (s.st k).enterMins.clearTarget := by
  rw [State.cleared, State.st_congr (State.emptyRing_stations _), State.modAll_st]
  rfl

theorem State.cleared_tb : s.cleared.tb = { s.tb with m := 0, masterDue := false } := by
  rw [State.cleared_frame]
  rfl

/-- The corridor IDLE with its event written, before the governing plan is evaluated. -/
def State.lulled : State := s.cleared.emit (.corridorState .idle .stopped)

theorem State.rested_eq : s.rested = s.lulled.planEvaluation := rfl

@[simp] theorem State.lulled_ps : s.lulled.ps = { s.ps with corridor := .idle, active := none, staged := none } := by
  rw [State.lulled, State.emit_ps, State.cleared_frame]
  rfl

@[simp] theorem State.lulled_tb : s.lulled.tb = { s.tb with m := 0, masterDue := false } := by
  rw [State.lulled, State.emit_tb, State.cleared_tb]

theorem State.lulled_st (k : StationIx) : s.lulled.st k = (s.st k).enterMins.clearTarget := by
  rw [State.lulled, State.emit_st, State.cleared_st]

theorem State.lulled_governing : s.lulled.governing = s.governing := by
  simp only [State.governing, State.schedulePlan, State.lulled_ps, State.lulled_tb]

theorem State.lulled_records (h : s.eq.records.length < Config.eventLimit) :
    s.lulled.eq.records = s.eq.records ++ [s.record (.corridorState .idle .stopped)] := by
  have heq : s.cleared.eq = s.eq := by rw [State.cleared_frame]; rfl
  have hrecord : s.cleared.record (.corridorState .idle .stopped) = s.record (.corridorState .idle .stopped) := by
    simp only [State.record, State.cleared_tb]
  rw [State.lulled, State.emit_records_of_room _ (by rw [heq]; exact h), heq, hrecord]

theorem State.rested_st (k : StationIx) : s.rested.st k = (s.st k).enterMins.clearTarget := by
  rw [State.rested_eq, State.st_congr (State.planEvaluation_stations _), State.lulled_st]

theorem State.rested_tb : s.rested.tb = { s.tb with m := 0, masterDue := false } := by
  rw [State.rested_eq, State.planEvaluation_tb, State.lulled_tb]

theorem State.rested_governing : s.rested.governing = s.governing := by
  rw [State.rested_eq, State.planEvaluation_governing, State.lulled_governing]

theorem State.rested_ps : s.rested.ps = { s.ps with
    corridor := .idle, active := none, staged := none, rejection := s.rested.ps.rejection } := by
  have hstaged : s.rested.ps.staged = none := by
    rw [Option.eq_none_iff_forall_ne_some]
    intro g hg
    obtain h | ⟨h, -⟩ := s.lulled.planEvaluation_staged hg <;> rw [State.lulled_ps] at h <;> cases h
  have hps : s.rested.ps = { s.lulled.ps with staged := s.rested.ps.staged, rejection := s.rested.ps.rejection } :=
    congrArg State.ps s.lulled.planEvaluation_eq
  rw [hps, hstaged, State.lulled_ps]

/-- The clearing of a target leaves a station's coordination, sets its jump flag, and ends a pending change of minimums (R3, R60). -/
theorem Station.clearTarget_enterMins (t : Station) : t.enterMins.clearTarget.coord = t.coord
    ∧ t.enterMins.clearTarget.target = none ∧ t.enterMins.clearTarget.jump = true ∧ t.enterMins.clearTarget.minsPending = false := by
  refine ⟨by rw [Station.enterMins_eq]; rfl, rfl, rfl, ?_⟩
  show t.enterMins.minsPending = false
  unfold Station.enterMins
  split
  · rfl
  · next h => simpa using h

/-- The corridor stays IDLE where the enable is clear or no plan governs (R39, R43). -/
theorem State.enterIdle_of_not (h : s.ps.enable = false ∨ s.governing = 0) : s.enterIdle = s.rested := by
  have hmay : s.rested.mayRun = false := by
    rw [State.mayRun_eq, State.planTerm, State.rested_corridor, State.rested_governing, State.ready, State.rested_ps]
    obtain h | h := h <;> simp [h]
  rw [State.enterIdle_eq, hmay]
  rfl

end Sys2Proof.Machine
end

section
/-! SUPPORT. An occasion of R39 at which a RUNNING corridor may run no longer: what it leaves in STOPPING, or at once in IDLE (R37, R39,
R41 to R43). -/

-- One proof at a time: elaborated in parallel, each proof that waits for an earlier one holds a thread and its stack.
set_option Elab.async false

namespace Sys2Proof.Machine

variable {s : State} {r : Reason}

/-- The corridor STOPPING after a plan evaluation, before it is seen whether a RELEASE is outstanding. -/
def State.stopped (s : State) (r : Reason) : State := s.planEvaluation.drained r

theorem State.evaluate_of_stop (hr : s.ps.corridor = .running) (h : s.mayRun = false) : s.evaluate r = (s.stopped r).settle := by
  rw [State.evaluate, State.planEvaluation_corridor, hr, State.planEvaluation_mayRun, h, State.stopped, ← State.enterStopping_drained]
  exact if_neg Bool.false_ne_true

theorem State.planEvaluation_st (k : StationIx) : s.planEvaluation.st k = s.st k := State.st_congr s.planEvaluation_stations k

theorem State.stopped_ps : (s.stopped r).ps
    = { s.ps with corridor := .stopping, staged := none, rejection := s.planEvaluation.ps.rejection } := by
  have hps : s.planEvaluation.ps = { s.ps with
      staged := s.planEvaluation.ps.staged, rejection := s.planEvaluation.ps.rejection } := congrArg State.ps s.planEvaluation_eq
  rw [State.stopped, State.drained_ps, hps]

theorem State.stopped_frame : s.stopped r = { s with
    ps := (s.stopped r).ps, stations := (s.stopped r).stations, clc := (s.stopped r).clc, table := (s.stopped r).table
    eq := (s.stopped r).eq, hli := (s.stopped r).hli } := by
  have h := State.drained_frame (s := s.planEvaluation) (r := r)
  have hplan := s.planEvaluation_eq
  unfold State.stopped
  rw [hplan] at h ⊢
  exact h

theorem State.stopped_coord (k : StationIx) : ((s.stopped r).st k).coord = (s.st k).coord := by
  rw [State.stopped, State.drained_coord, State.planEvaluation_st]

theorem State.stopped_order {k : StationIx} (h : (s.st k).coord ≠ .free) :
    ((s.stopped r).st k).order = some (s.releaseFor (s.st k)) := by
  rw [State.stopped, State.drained_order (by rwa [State.planEvaluation_st]), State.planEvaluation_st]
  simp only [State.releaseFor, State.now, State.planEvaluation_tb]

theorem State.stopped_noneEnds : (s.stopped r).NoneEnds := State.drained_noneEnds

/-- The records of an entry to STOPPING: one at most of a plan rejected, the stop's own, and with every station FREE one at most for each
entry that goes. -/
theorem State.stopped_records (s : State) (r : Reason) : ∃ before : List Event, before.length ≤ 1
    ∧ (s.governing = 0 ∨ s.planValid s.governing = true → before = [])
    ∧ (s.eq.records.length + before.length < Config.eventLimit →
      ∃ more, (s.stopped r).eq.records = s.eq.records ++ before ++ s.record (.corridorState .stopping r) :: more)
    ∧ ((∀ k : StationIx, (s.st k).coord = .free) →
      (s.stopped r).eq.records.length ≤ s.eq.records.length + before.length + s.table.length + 1) := by
  obtain ⟨before, hlength, hnone, hrecords⟩ := s.planEvaluation_records
  unfold State.stopped
  refine ⟨before, hlength, hnone, fun hroom => ?_, fun hfree => ?_⟩
  · rw [← State.record_congr s.planEvaluation_tb, ← hrecords]
    exact State.drained_records (by rw [hrecords, List.length_append]; exact hroom)
  · have htable : s.planEvaluation.table = s.table := by rw [State.planEvaluation_eq]
    have hroom := State.drained_room (s := s.planEvaluation) (r := r) fun k => by rw [State.planEvaluation_st]; exact hfree k
    rw [hrecords, List.length_append, htable] at hroom
    exact hroom

theorem State.stopped_governing : (s.stopped r).governing = s.governing :=
  State.governing_congr (by rw [State.stopped_ps]) (by rw [State.stopped_ps]) (by rw [State.stopped_frame])

/-- While a station is not FREE the corridor stays STOPPING (R42, R43). -/
theorem State.evaluate_stops (hr : s.ps.corridor = .running) (h : s.mayRun = false) {k : StationIx} (hk : (s.st k).coord ≠ .free) :
    s.evaluate r = s.stopped r := by
  rw [State.evaluate_of_stop hr h]
  exact State.drained_settle_of_out (by rwa [State.planEvaluation_st])

theorem State.mayRun_of_stopping (hr : s.ps.corridor = .running) (h : s.ps.enable = false ∨ s.governing = 0) : s.mayRun = false := by
  rw [State.mayRun_of_running hr, State.ready]
  obtain h | h := h <;> simp [h]

theorem State.stopped_settle_of_free (hfree : ∀ k : StationIx, (s.st k).coord = .free) (horder : ∀ k : StationIx, (s.st k).order = none) :
    (s.stopped r).settle = (s.stopped r).enterIdle := by
  unfold State.stopped
  exact State.drained_settle_of_free (fun k => by rw [State.planEvaluation_st]; exact hfree k)
    fun k => by rw [State.planEvaluation_st]; exact horder k

/-- With every station FREE and no order waiting the corridor is IDLE, and stays there without the enable or a plan (R42, R43). -/
theorem State.evaluate_idles (hr : s.ps.corridor = .running) (h : s.ps.enable = false ∨ s.governing = 0)
    (hfree : ∀ k : StationIx, (s.st k).coord = .free) (horder : ∀ k : StationIx, (s.st k).order = none) :
    s.evaluate r = (s.stopped r).rested := by
  rw [State.evaluate_of_stop hr (State.mayRun_of_stopping hr h), State.stopped_settle_of_free hfree horder]
  refine State.enterIdle_of_not _ (h.imp (fun he => ?_) fun hg => ?_)
  · rw [State.stopped_ps]; exact he
  · exact State.stopped_governing.trans hg

/-- The record of the entry to IDLE follows those of the stop (R43). -/
theorem State.idle_records (h : (s.stopped r).eq.records.length < Config.eventLimit) : (s.stopped r).lulled.eq.records
    = (s.stopped r).eq.records ++ [s.record (.corridorState .idle .stopped)] := by
  rw [State.lulled_records _ h, State.record_congr (s := s) (by rw [State.stopped_frame])]

/-- The records of a stop that ends in IDLE: those of the stop, with the entries that go, and then the entry to IDLE; no more without a
plan to evaluate (R24, R42, R43). -/
theorem State.rested_records (s : State) (r : Reason) (hfree : ∀ k : StationIx, (s.st k).coord = .free) :
    ∃ before : List Event, before.length ≤ 1 ∧ (s.governing = 0 ∨ s.planValid s.governing = true → before = [])
      ∧ (s.eq.records.length + before.length + s.table.length + 2 ≤ Config.eventLimit → ∃ ends more : List Event,
        (s.stopped r).rested.eq.records = s.eq.records ++ before ++ s.record (.corridorState .stopping r) :: ends
            ++ s.record (.corridorState .idle .stopped) :: more
          ∧ (s.governing = 0 → more = [])) := by
  obtain ⟨before, hlength, hnone, hrecords, hfew⟩ := s.stopped_records r
  refine ⟨before, hlength, hnone, fun hroom => ?_⟩
  have hfew := hfew hfree
  obtain ⟨ends, hends⟩ := hrecords (by omega)
  obtain ⟨more, -, hquiet, hmore⟩ := (s.stopped r).lulled.planEvaluation_records
  refine ⟨ends, more, ?_, fun hzero => hquiet (.inl ((State.lulled_governing _).trans (State.stopped_governing.trans hzero)))⟩
  rw [State.rested_eq, hmore, State.idle_records (by omega), hends, List.append_assoc _ [_] more]
  rfl

theorem State.idle_station (hfree : ∀ k : StationIx, (s.st k).coord = .free) (k : StationIx) :
    ((s.stopped r).rested.st k).coord = .free ∧ ((s.stopped r).rested.st k).target = none ∧ ((s.stopped r).rested.st k).jump = true
      ∧ ((s.stopped r).rested.st k).minsPending = false := by
  rw [State.rested_st]
  obtain ⟨hcoord, htarget, hjump, hmins⟩ := ((s.stopped r).st k).clearTarget_enterMins
  exact ⟨hcoord.trans ((State.stopped_coord k).trans (hfree k)), htarget, hjump, hmins⟩

theorem State.idle_ps : (s.stopped r).rested.ps = { s.ps with
    corridor := .idle, active := none, staged := none, rejection := (s.stopped r).rested.ps.rejection } := by
  rw [State.rested_ps, State.stopped_ps]

/-! ## STOP (R37) -/

theorem exec_stop {u : State} {echo ignored : Byte} (h : s.takesAtOnce) (hu : (s.heard.setEnable false).evaluate .stop = u) :
    exec (.stop echo [ignored]) s = .next (u.answered 0x09 echo (.ok u.stateReply)) := by
  have hbegun : u.begun := hu ▸ (State.evaluate_quiet _ _).begun (s := s.heard.setEnable false) (State.heard_begun h)
  exact exec_served (i := .stop echo [ignored]) h rfl rfl rfl (by rintro _ ⟨⟩; rfl) (by subst hu; rfl) hbegun

theorem State.stateReply_of_stopping (h : s.ps.corridor = .stopping) : s.stateReply = [2] := by
  rw [State.stateReply, h]
  rfl

theorem State.stateReply_of_disabled (h : s.ps.corridor = .idle) (he : s.ps.enable = false) : s.stateReply = [0, 0] := by
  have hterm : s.firstFailing = some .enable := by simp [State.firstFailing, allTerms, State.termHolds, he]
  rw [State.stateReply, h, hterm]
  rfl

end Sys2Proof.Machine

open Sys2Proof Sys2Proof.Machine

/-- Settles O49: a STOP is the occasion at which a corridor without its enable stops, and with every station FREE it is at rest. -/
theorem stopReleasesTheStations : Obligations.StopReleasesTheStations := by
  refine ⟨fun s echo ignored h hr ⟨k, hk⟩ => ?_, fun s echo ignored h hr hfree horder => ?_⟩
  · let v := s.heard.setEnable false
    have hstops : v.evaluate .stop = v.stopped .stop :=
      State.evaluate_stops (s := v) hr (State.mayRun_of_stopping (s := v) hr (.inl rfl)) hk
    obtain ⟨before, hlength, hnone, hrecords, -⟩ := v.stopped_records .stop
    have hps := State.stopped_ps (s := v) (r := .stop)
    refine ⟨v.stopped .stop, ?_, fun hroom => ⟨before, ?_⟩, by rw [hps], by rw [hps]; rfl, by rw [hps]; rfl, by rw [hps],
      State.stopped_frame (s := v), fun j hj => ⟨?_, ?_⟩, fun j hj => ?_, fun e he => ?_⟩
    · rw [exec_stop h hstops, State.stateReply_of_stopping (by rw [hps])]
    · obtain ⟨more, hmore⟩ := hrecords (show s.eq.records.length + before.length < 32 by omega)
      exact ⟨more, hnone, hmore⟩
    · exact State.stopped_coord (s := v) j
    · exact State.stopped_order (s := v) hj
    · exact (State.stopped_coord (s := v) j).trans hj
    · exact State.stopped_noneEnds (s := v).entry he
  · let v := s.heard.setEnable false
    have hidles : v.evaluate .stop = (v.stopped .stop).rested := State.evaluate_idles (s := v) hr (.inl rfl) hfree horder
    obtain ⟨before, hlength, hnone, hrecords⟩ := v.rested_records .stop hfree
    have hps := State.idle_ps (s := v) (r := .stop)
    refine ⟨(v.stopped .stop).rested, ?_, fun hroom => ?_, by rw [hps], by rw [hps]; rfl, by rw [hps], by rw [hps],
      by rw [State.rested_tb], fun k => (State.idle_station (s := v) hfree k).2⟩
    · rw [exec_stop h hidles, State.stateReply_of_disabled (State.rested_corridor _) (by rw [hps]; rfl)]
    · obtain ⟨ends, more, hmore, -⟩ := hrecords (show s.eq.records.length + before.length + s.table.length + 2 ≤ 32 by omega)
      exact ⟨before, ends, more, hnone, hmore⟩
end

section
/-! SUPPORT. The entry to RUNNING in full: the Plan Store, m, W_eff, each station, and the events in their order (R40, R47, R52, R156). -/

-- One proof at a time: elaborated in parallel, each proof that waits for an earlier one holds a thread and its stack.
set_option Elab.async false

namespace Sys2Proof.Machine

/-! ## A station leaves FREE (R47) -/

/-- The station leaves FREE at an entry to RUNNING. -/
def Station.joins (t : Station) : Bool := t.link = .online && t.coord = .free

/-- The coordination state in which a station leaves FREE. -/
def Station.joinedCoord (t : Station) : Coord := if t.hold then .held else .seeking

/-- The record of a station that has left FREE. -/
def Station.joined (t : Station) : Station := { t.unsynced with jump := true, coord := t.joinedCoord }

section
variable {s : State} {k : StationIx}

theorem State.leaveFree_of_joins (hr : s.ps.corridor = .running) (h : (s.st k).joins = true) (x : StateCause) :
    s.leaveFree k x = (s.modSt k (·.joined)).emit (.stationState k (s.st k).joinedCoord x) := by
  obtain ⟨hlink, hcoord⟩ : (s.st k).link = .online ∧ (s.st k).coord = .free := by simpa [Station.joins] using h
  have hleaves : s.leaveFree k x
      = (s.modSt k fun t => { t.unsynced with jump := true }).setCoord k (s.st k).joinedCoord x := by
    unfold State.leaveFree
    exact if_pos (by simp [hr, hlink, hcoord])
  have hmoves : Coord.free ≠ (s.st k).joinedCoord := by unfold Station.joinedCoord; split <;> decide
  have hleft : ((s.modSt k fun t => { t.unsynced with jump := true }).st k).coord ≠ (s.st k).joinedCoord := by
    rw [State.st_modSt_same]
    rwa [← hcoord] at hmoves
  rw [hleaves, State.setCoord, if_neg hleft, State.modSt_modSt]
  rfl

theorem State.leaveFree_of_stays (h : (s.st k).joins = false) (x : StateCause) : s.leaveFree k x = s := by
  have hnot : (decide ((s.st k).link = .online) && decide ((s.st k).coord = .free)) = false := h
  unfold State.leaveFree
  dsimp only
  rw [Bool.and_assoc, hnot, Bool.and_false]
  rfl

end

/-- From `s` to `t` the stations of `l` that were FREE behind an ONLINE link have left FREE, in this order (R47, R52). -/
structure State.Joined (s : State) (l : List StationIx) (t : State) : Prop where
  frame : t = { s with stations := t.stations, eq := t.eq, hli := t.hli }
  station : ∀ k : StationIx, t.st k = if k ∈ l ∧ (s.st k).joins = true then (s.st k).joined else s.st k
  events : SameEvents (s.emitAll ((l.filter fun k => (s.st k).joins).map fun k => .stationState k (s.st k).joinedCoord .run)) t

theorem State.joined_foldl {l : List StationIx} (hl : l.Nodup) {s : State} (hr : s.ps.corridor = .running) :
    s.Joined l (l.foldl (fun s k => s.leaveFree k .run) s) := by
  induction l generalizing s with
  | nil => exact ⟨rfl, fun k => (if_neg (by simp)).symm, {}⟩
  | cons k l ih =>
    obtain ⟨hk, hl⟩ := List.nodup_cons.1 hl
    rw [List.foldl_cons]
    cases h : (s.st k).joins with
    | false =>
      rw [State.leaveFree_of_stays h]
      obtain ⟨hframe, hstation, hevents⟩ := ih hl hr
      refine ⟨hframe, fun j => ?_, ?_⟩
      · have hmem : j ∈ l ∧ (s.st j).joins = true ↔ j ∈ k :: l ∧ (s.st j).joins = true := by
          by_cases hj : j = k
          · subst hj; simp [h]
          · simp [hj]
        rw [hstation]
        exact if_congr hmem rfl rfl
      · rwa [List.filter_cons_of_neg (by rw [h]; decide)]
    | true =>
      rw [State.leaveFree_of_joins hr h]
      let u := (s.modSt k (·.joined)).emit (.stationState k (s.st k).joinedCoord .run)
      have hu : u.ps.corridor = .running := by rw [show u.ps = s.ps from State.emit_ps _ _]; exact hr
      have hst (j : StationIx) : u.st j = if j = k then (s.st j).joined else s.st j := by
        rw [State.emit_st, State.st_modSt]
      have hother {j : StationIx} (hj : j ∈ l) : u.st j = s.st j := by rw [hst, if_neg fun e : j = k => hk (e ▸ hj)]
      have hsame : SameEvents (s.emit (.stationState k (s.st k).joinedCoord .run)) u :=
        SameEvents.emit (s := s) (t := s.modSt k (·.joined)) {} _
      obtain ⟨hframe, hstation, hevents⟩ := ih hl hu
      refine ⟨?_, fun j => ?_, ?_⟩
      · have hleft : u = { s with stations := u.stations, eq := u.eq, hli := u.hli } := by
          have hevent := State.emitAll_eq (s.modSt k (·.joined)) [.stationState k (s.st k).joinedCoord .run]
          rw [show u.stations = (s.modSt k (·.joined)).stations from State.emit_stations _ _]
          exact hevent
        let w := l.foldl (fun (s : State) k => s.leaveFree k .run) u
        exact hframe.trans (congrArg (fun v : State => { v with stations := w.stations, eq := w.eq, hli := w.hli }) hleft)
      · rw [hstation, hst]
        by_cases hj : j = k
        · subst hj
          rw [if_pos rfl, if_neg fun h' => hk h'.1, if_pos ⟨List.mem_cons_self, h⟩]
        · rw [if_neg hj]
          exact if_congr (by simp [hj]) rfl rfl
      · have hfilter : l.filter (fun j => (u.st j).joins) = l.filter fun j => (s.st j).joins :=
          List.filter_congr fun j hj => by rw [hother hj]
        have hbodies : (l.filter fun j => (s.st j).joins).map (fun j => EventBody.stationState j (u.st j).joinedCoord .run)
            = (l.filter fun j => (s.st j).joins).map fun j => EventBody.stationState j (s.st j).joinedCoord .run :=
          List.map_congr_left fun j hj => by rw [hother (List.mem_of_mem_filter hj)]
        rw [List.filter_cons_of_pos (p := fun j => (s.st j).joins) h, List.map_cons, State.emitAll_cons]
        rw [hfilter, hbodies] at hevents
        exact (hsame.emitAll _).trans hevents

/-! ## The entry to RUNNING (R40) -/

section
variable {s : State} {x : PlanSlot} {r : Reason}

/-- The corridor RUNNING with its two events written, before its stations leave FREE. -/
def State.launched (s : State) (p : Plan) (r : Reason) : State :=
  ((((s.underway s.governing p).emitAll [.corridorState .running r, .planTaken s.governing 0]).modAll fun t =>
    { t with jump := true }).emptyRing).takeWeight p

theorem State.enterRunning_launched (hx : s.slot s.governing = some x) (r : Reason) :
    s.enterRunning r = (s.launched x.plan r).eachStation fun s k => s.leaveFree k .run := State.enterRunning_eq hx r

theorem State.launched_eq (p : Plan) : s.launched p r = { s.underway s.governing p with
    stations := (s.launched p r).stations
    mu := { weight := p.weight, accIn := 0, accOut := 0, primed := false, ring := [] }
    eq := ((s.underway s.governing p).emitAll [.corridorState .running r, .planTaken s.governing 0]).eq
    hli := ((s.underway s.governing p).emitAll [.corridorState .running r, .planTaken s.governing 0]).hli } := by
  unfold State.launched State.emptyRing State.takeWeight
  rw [State.modAll_eq, State.emitAll_eq]

theorem State.launched_st (p : Plan) (k : StationIx) : (s.launched p r).st k = { s.st k with jump := true } := by
  have hstations : (s.launched p r).stations = (((s.underway s.governing p).emitAll
    [.corridorState .running r, .planTaken s.governing 0]).modAll fun t => { t with jump := true }).stations := rfl
  have hbefore : ((s.underway s.governing p).emitAll [.corridorState .running r, .planTaken s.governing 0]).stations = s.stations := by
    rw [State.emitAll_eq]; rfl
  rw [State.st_congr hstations, State.modAll_st, State.st_congr hbefore]

variable (hx : s.slot s.governing = some x)
include hx

theorem State.enterRunning_joined : (s.launched x.plan r).Joined allStations (s.enterRunning r) := by
  rw [State.enterRunning_launched hx]
  exact State.joined_foldl allStations_nodup (by rw [State.launched_eq]; rfl)

theorem State.enterRunning_frame : s.enterRunning r = { s.underway s.governing x.plan with
    mu := { weight := x.plan.weight, accIn := 0, accOut := 0, primed := false, ring := [] }
    stations := (s.enterRunning r).stations, eq := (s.enterRunning r).eq, hli := (s.enterRunning r).hli } := by
  have h := (State.enterRunning_joined (r := r) hx).frame
  rw [State.launched_eq] at h
  exact h

theorem State.enterRunning_ps : (s.enterRunning r).ps = { s.ps with
    corridor := .running, active := some s.governing, staged := none } := by
  rw [State.enterRunning_frame hx]; rfl

/-- A station that was FREE behind an ONLINE link leaves FREE; every jump flag is set (R40, R47). -/
theorem State.enterRunning_st (k : StationIx) : (s.enterRunning r).st k
    = if (s.st k).joins = true then (s.st k).joined else { s.st k with jump := true } := by
  rw [(State.enterRunning_joined hx).station, State.launched_st]
  simp only [mem_allStations, true_and]
  rfl

/-- CORRIDOR_STATE and PLAN_TAKEN, and then a STATION_STATE for each station that leaves FREE (R40, R52). -/
theorem State.enterRunning_wrote : s.wrote (s.enterRunning r) ([.corridorState .running r, .planTaken s.governing 0]
    ++ (allStations.filter fun k => (s.st k).joins).map fun k => .stationState k (s.st k).joinedCoord .run) := by
  have hsame : SameEvents (s.emitAll [.corridorState .running r, .planTaken s.governing 0]) (s.launched x.plan r) := by
    have hunderway : SameEvents s (s.underway s.governing x.plan) := {}
    refine (hunderway.emitAll _).trans ?_
    rw [State.launched_eq]
    exact ⟨rfl, rfl, by rw [State.emitAll_eq], by rw [State.emitAll_eq]⟩
  have hjoined := (State.enterRunning_joined (r := r) hx).events
  simp only [State.launched_st] at hjoined
  obtain ⟨heq, hhli, -, -⟩ := (hsame.emitAll _).trans hjoined
  rw [State.wrote, State.emitAll_append]
  exact ⟨heq, hhli⟩

end

end Sys2Proof.Machine
end

section
/-! SUPPORT. SELECT_PLAN and RELEASE_PLAN in each corridor state: the override set or cleared, and the occasion of R39 that follows
(R20, R22, R23, R25, R26, R39 to R43). -/

-- One proof at a time: elaborated in parallel, each proof that waits for an earlier one holds a thread and its stack.
set_option Elab.async false

namespace Sys2Proof.Machine

variable {s : State} {r : Reason}

/-! ## What an occasion leaves of the Plan Store (R39) -/

/-- From `s` to `t` the Plan Store keeps what is loaded and requested: all but the corridor state, the plans in service and the mark. -/
def KeepsRequests (s t : State) : Prop := t.ps = { s.ps with
  corridor := t.ps.corridor, active := t.ps.active, staged := t.ps.staged, rejection := t.ps.rejection }

theorem KeepsRequests.trans {s t u : State} (h : KeepsRequests s t) (h' : KeepsRequests t u) : KeepsRequests s u := by
  unfold KeepsRequests at *
  exact h'.trans (congrArg (fun p : PlanStore => { p with
    corridor := u.ps.corridor, active := u.ps.active, staged := u.ps.staged, rejection := u.ps.rejection }) h)

theorem State.planEvaluation_requests (s : State) : KeepsRequests s s.planEvaluation := by
  unfold KeepsRequests
  rw [s.planEvaluation_eq]

theorem State.enterRunning_requests (s : State) (r : Reason) : KeepsRequests s (s.enterRunning r) := by
  cases hx : s.slot s.governing with
  | none => rw [State.enterRunning_of_empty _ hx]; rfl
  | some x => unfold KeepsRequests; rw [State.enterRunning_ps hx]

theorem State.enterStopping_requests (s : State) (r : Reason) : KeepsRequests s (s.enterStopping r) := by
  have hdrained : KeepsRequests s (s.drained r) := by unfold KeepsRequests; rw [State.drained_ps]
  have hrested : KeepsRequests (s.drained r) (s.drained r).rested := by unfold KeepsRequests; rw [State.rested_ps]
  rw [State.enterStopping_drained, State.settle]
  split
  · rw [State.enterIdle_eq]
    split
    · exact (hdrained.trans hrested).trans (State.enterRunning_requests _ _)
    · exact hdrained.trans hrested
  · exact hdrained

theorem State.evaluate_requests (s : State) (r : Reason) : KeepsRequests s (s.evaluate r) := by
  unfold State.evaluate
  dsimp only
  split
  · split
    · exact s.planEvaluation_requests.trans (State.enterRunning_requests _ _)
    · exact s.planEvaluation_requests
  · split
    · exact s.planEvaluation_requests
    · exact s.planEvaluation_requests.trans (State.enterStopping_requests _ _)
  · exact s.planEvaluation_requests

/-! ## The occasion in each corridor state (R39, R40) -/

/-- No plan governs, or a valid one does. -/
def State.Governable (s : State) : Prop := s.governing = 0 ∨ s.planValid s.governing = true

theorem State.planEvaluation_of_idle (hi : s.ps.corridor = .idle) (h : s.Governable) : s.planEvaluation = s.clearRejection := by
  have hgood : (s.governing = 0 || s.planValid s.governing) = true := by simpa [State.Governable] using h
  rw [State.planEvaluation, hi]
  exact if_pos hgood

theorem State.planEvaluation_rejection (hc : s.ps.corridor ≠ .stopping) (h : s.Governable) : s.planEvaluation.ps.rejection = none := by
  cases hcorridor : s.ps.corridor with
  | idle => rw [State.planEvaluation_of_idle hcorridor h]; rfl
  | stopping => exact absurd hcorridor hc
  | running =>
    by_cases ha : s.ps.active = some s.governing
    · rw [State.planEvaluation_of_active hcorridor ha]
    · obtain hg | hv := h
      · rw [State.planEvaluation_of_zero hcorridor ha hg]; rfl
      · rw [State.planEvaluation_of_valid hcorridor ha hv]

theorem State.evaluate_of_stopping (h : s.ps.corridor = .stopping) : s.evaluate r = s := by
  have hplan : s.planEvaluation = s := by rw [State.planEvaluation, h]
  rw [State.evaluate, hplan, h]

theorem State.evaluate_of_idle (h : s.ps.corridor = .idle) :
    s.evaluate r = if s.mayRun then s.planEvaluation.enterRunning r else s.planEvaluation := by
  rw [State.evaluate, State.planEvaluation_corridor, h, State.planEvaluation_mayRun]

theorem State.mayRun_of_idle (h : s.ps.corridor = .idle) :
    s.mayRun = (s.ready && (decide (s.governing ≠ 0) && s.planValid s.governing)) := by
  rw [State.mayRun_eq, State.planTerm, h]

/-- An IDLE corridor that may not run stays IDLE, with its mark cleared (R24, R39). -/
theorem State.evaluate_rests (hi : s.ps.corridor = .idle) (h : s.Governable) (hm : s.mayRun = false) :
    s.evaluate r = s.clearRejection := by
  rw [State.evaluate_of_idle hi, hm, State.planEvaluation_of_idle hi h]
  rfl

/-- An IDLE corridor under a valid plan enters RUNNING when the other terms hold (R39, R40). -/
theorem State.evaluate_starts (hi : s.ps.corridor = .idle) (hv : s.planValid s.governing = true) (hready : s.ready = true) :
    s.evaluate r = s.clearRejection.enterRunning r := by
  have hne : s.governing ≠ 0 := fun h => by rw [h, State.planValid_zero] at hv; cases hv
  have hmay : s.mayRun = true := by rw [State.mayRun_of_idle hi, hready, hv, decide_eq_true hne]; rfl
  rw [State.evaluate_of_idle hi, hmay, State.planEvaluation_of_idle hi (.inr hv)]
  rfl

/-- A corridor that has no plan to run under does not stay RUNNING (R41 to R43). -/
theorem State.evaluate_leavesRunning (hr : s.ps.corridor = .running) (h : s.governing = 0) : (s.evaluate r).ps.corridor ≠ .running := by
  rw [State.evaluate_of_stop hr (State.mayRun_of_stopping hr (.inr h)), State.settle]
  split
  · rw [State.enterIdle_of_not _ (.inr (State.stopped_governing.trans h)), State.rested_corridor]
    decide
  · rw [State.stopped_ps]
    exact CorridorState.noConfusion

/-! ## The requests at their owner (R25, R26) -/

/-- The terms of Table 3-1 beside the plan term. -/
theorem State.ready_iff : s.ready = true ↔ s.ps.enable = true ∧ s.tb.clockSet = true ∧ s.geometryValid = true := by
  simp [State.ready, and_assoc]

section
variable {g : Byte}

theorem State.ownSelectPlan_badField (h : 8 < g.toNat) : s.ownSelectPlan [g] = (.badField 1, s) := if_pos h

theorem State.ownSelectPlan_conflict {reason : PlanReason} (hlow : 1 ≤ g.toNat) (hhigh : g.toNat ≤ 8)
    (h : s.unselectable g.toNat = some reason) : s.ownSelectPlan [g] = (.conflict reason.code, s) := by
  have hreason : (if rd8 [g] 0 = 0 then none else s.unselectable (rd8 [g] 0)) = some reason :=
    (if_neg (Nat.one_le_iff_ne_zero.1 hlow)).trans h
  unfold State.ownSelectPlan
  dsimp only
  rw [hreason]
  exact if_neg (Nat.not_lt.2 hhigh)

theorem State.ownSelectPlan_served (h : g.toNat = 0 ∨ g.toNat ≤ 8 ∧ s.planValid g.toNat = true) :
    s.ownSelectPlan [g] = (.ok [], (s.setOverride (some g.toNat)).evaluate .selectPlan) := by
  have hhigh : ¬8 < g.toNat := by omega
  have hreason : (if rd8 [g] 0 = 0 then none else s.unselectable (rd8 [g] 0)) = none := by
    by_cases hg : rd8 [g] 0 = 0
    · exact if_pos hg
    · obtain ⟨x, hx, hvalid⟩ := State.planValid_slot (h.resolve_left hg).2
      refine (if_neg hg).trans ?_
      rw [State.unselectable, show s.slot (rd8 [g] 0) = some x from hx]
      simp [hvalid]
  unfold State.ownSelectPlan
  dsimp only
  rw [hreason]
  exact if_neg hhigh

end

theorem exec_selectPlan {u : State} {echo g : Byte} {res : Result} (h : s.takesAtOnce) (ho : s.heard.ownSelectPlan [g] = (res, u))
    (hu : u.begun) : exec (.selectPlan echo [g]) s = .next (u.answered 0x0A echo res) :=
  exec_served (i := .selectPlan echo [g]) h rfl rfl rfl (by rintro _ ⟨⟩; rfl) ho hu

theorem exec_releasePlan {u : State} {echo ignored : Byte} {res : Result} (h : s.takesAtOnce) (ho : s.heard.ownReleasePlan = (res, u))
    (hu : u.begun) : exec (.releasePlan echo [ignored]) s = .next (u.answered 0x0B echo res) :=
  exec_served (i := .releasePlan echo [ignored]) h rfl rfl rfl (by rintro _ ⟨⟩; rfl) ho hu

theorem State.setOverride_evaluate_begun (h : s.takesAtOnce) (g : Option Nat) : ((s.heard.setOverride g).evaluate r).begun :=
  (State.evaluate_quiet _ r).begun (s := s.heard.setOverride g) (State.heard_begun h)

/-! ## SELECT_PLAN of a plan that may govern, case by case (R25) -/

/-- The state in which an accepted SELECT_PLAN is evaluated. -/
abbrev State.selecting (s : State) (g : Nat) : State := s.heard.setOverride (some g)

section
variable {g : Nat}

theorem State.selecting_governable (h : g = 0 ∨ g ≤ 8 ∧ s.planValid g = true) : (s.selecting g).Governable := h.imp id (·.2)

theorem State.selecting_rests (h : g = 0 ∨ g ≤ 8 ∧ s.planValid g = true) (hi : s.ps.corridor = .idle) (hno : g = 0 ∨ ¬s.ready = true) :
    (s.selecting g).evaluate r = (s.selecting g).clearRejection := by
  refine State.evaluate_rests (s := s.selecting g) hi (State.selecting_governable h) ?_
  rw [State.mayRun_of_idle (s := s.selecting g) hi]
  obtain hg | hready := hno
  · rw [show (s.selecting g).governing = 0 from hg]; simp
  · rw [show (s.selecting g).ready = s.ready from rfl, Bool.eq_false_iff.2 hready]; rfl

/-- The corridor starts under the selected plan, whole (R40, R47, R52). -/
theorem State.selecting_starts {x : PlanSlot} (hg : s.planValid g = true) (hi : s.ps.corridor = .idle) (hready : s.ready = true)
    (hx : s.slot g = some x) : let u := (s.selecting g).evaluate r
    u.ps = { (s.selecting g).ps with corridor := .running, active := some g, staged := none, rejection := none }
      ∧ u.tb = { s.tb with m := s.tb.time % x.plan.cycle }
      ∧ u.mu = { weight := x.plan.weight, accIn := 0, accOut := 0, primed := false, ring := [] }
      ∧ (∀ k : StationIx, u.st k = if (s.st k).joins = true then (s.st k).joined else { s.st k with jump := true })
      ∧ (s.selecting g).wrote u ([.corridorState .running r, .planTaken g 0]
        ++ (allStations.filter fun k => (s.st k).joins).map fun k => .stationState k (s.st k).joinedCoord .run)
      ∧ u = { s.selecting g with ps := u.ps, tb := u.tb, mu := u.mu, stations := u.stations, eq := u.eq, hli := u.hli } := by
  intro u
  let w := (s.selecting g).clearRejection
  have hu : u = w.enterRunning r := State.evaluate_starts (s := s.selecting g) hi hg hready
  have hslot : w.slot w.governing = some x := hx
  have hframe := State.enterRunning_frame (r := r) hslot
  have hsame : SameEvents w (s.selecting g) := {}
  obtain ⟨heq, hhli⟩ := State.enterRunning_wrote (r := r) hslot
  have htb : (w.enterRunning r).tb = { s.tb with m := s.tb.time % x.plan.cycle } := by rw [hframe]; rfl
  have hmu : (w.enterRunning r).mu = { weight := x.plan.weight, accIn := 0, accOut := 0, primed := false, ring := [] } := by rw [hframe]
  rw [hu]
  refine ⟨State.enterRunning_ps hslot, htb, hmu, State.enterRunning_st hslot, ⟨?_, ?_⟩, ?_⟩
  · exact heq.trans (hsame.emitAll _).eq.symm
  · exact hhli.trans (hsame.emitAll _).hli.symm
  · conv_lhs => rw [hframe]
    rw [State.enterRunning_ps hslot, htb, hmu]
    rfl

section
variable (hr : s.ps.corridor = .running) (hzero : g = 0)
include hr hzero

/-- SELECT_PLAN of 0 stops a RUNNING corridor; while a station is not FREE it stays STOPPING (R42). -/
theorem State.selecting_stops {k : StationIx} (hk : (s.st k).coord ≠ .free) :
    (s.selecting g).evaluate r = (s.selecting g).stopped r
      ∧ ((s.selecting g).stopped r).ps = { (s.selecting g).ps with corridor := .stopping, staged := none, rejection := none } := by
  refine ⟨State.evaluate_stops (s := s.selecting g) hr (State.mayRun_of_stopping (s := s.selecting g) hr (.inr hzero)) hk, ?_⟩
  rw [State.stopped_ps, State.planEvaluation_rejection (s := s.selecting g) (fun hs => by cases hr.symm.trans hs) (.inl hzero)]

/-- SELECT_PLAN of 0 stops a RUNNING corridor; with every station FREE and no order waiting it is IDLE (R43). -/
theorem State.selecting_idles (hfree : ∀ k : StationIx, (s.st k).coord = .free) (horder : ∀ k : StationIx, (s.st k).order = none) :
    (s.selecting g).evaluate r = ((s.selecting g).stopped r).rested
      ∧ (((s.selecting g).stopped r).rested).ps
        = { (s.selecting g).ps with corridor := .idle, active := none, staged := none, rejection := none } := by
  refine ⟨State.evaluate_idles (s := s.selecting g) hr (.inr hzero) hfree horder, ?_⟩
  have hgoverning : ((s.selecting g).stopped r).lulled.governing = 0 :=
    (State.lulled_governing _).trans (State.stopped_governing.trans hzero)
  have hrejection : ((s.selecting g).stopped r).rested.ps.rejection = none := by
    rw [State.rested_eq]
    exact State.planEvaluation_rejection (by rw [State.lulled_ps]; exact CorridorState.noConfusion) (.inl hgoverning)
  rw [State.idle_ps, hrejection]

end

end

end Sys2Proof.Machine

open Sys2Proof Sys2Proof.Machine

/-- Settles O50: an accepted request sets or clears the override and is an occasion of R39, followed in each corridor state. -/
theorem overridesAreSelectedAndReleased : Obligations.OverridesAreSelectedAndReleased := by
  refine ⟨fun s echo g h => ⟨fun hg => ?_, fun hlow hhigh hx => ?_, fun x item hlow hhigh hx hitem => ?_, fun hg => ?_,
    fun hlow hhigh hv hr he hc hgeometry ha => ?_, fun hg hs => ?_⟩, fun s echo ignored h => ?_⟩
  · exact exec_selectPlan h (State.ownSelectPlan_badField hg) (State.heard_begun h)
  · have hreason : s.heard.unselectable g.toNat = some .empty := by
      rw [State.unselectable, show s.heard.slot g.toNat = none from hx]
    exact exec_selectPlan h (State.ownSelectPlan_conflict hlow hhigh hreason) (State.heard_begun h)
  · have hreason : s.heard.unselectable g.toNat = some item.reason := by
      rw [State.unselectable, show s.heard.slot g.toNat = some x from hx]
      simp [hitem]
    exact exec_selectPlan h (State.ownSelectPlan_conflict hlow hhigh hreason) (State.heard_begun h)
  · intro v u may
    have hrequests : KeepsRequests v u := v.evaluate_requests .selectPlan
    have hoverride : u.ps.override = some g.toNat := by rw [hrequests]
    have hready : may ↔ s.ready = true := State.ready_iff.symm
    refine ⟨exec_selectPlan h (State.ownSelectPlan_served (s := s.heard) hg) (State.setOverride_evaluate_begun h _), hoverride,
      by rw [hrequests], by rw [State.source, hoverride]; rfl, by rw [State.governing, hoverride]; rfl, fun hi hno => ?_,
      fun x hi hne hmay hx => ?_, fun hr hmay hne ha => ?_, fun hr hzero ⟨k, hk⟩ => ?_, fun hr hzero hall => ?_⟩
    · exact State.selecting_rests hg hi (hno.imp_right (mt hready.2))
    · have hstarts := State.selecting_starts (r := .selectPlan) (hg.resolve_left hne).2 hi (hready.1 hmay) hx
      obtain ⟨hps, htb, hmu, hst, hwrote, hframe⟩ := hstarts
      refine ⟨hps, htb, hmu, hst, ?_, hframe⟩
      have hfilter : (fun k : StationIx => (s.st k).joins)
          = fun k => decide ((s.st k).coord = .free) && decide ((s.st k).link = .online) :=
        funext fun k => Bool.and_comm _ _
      rw [hfilter] at hwrote
      exact hwrote
    · have hmayRun : v.mayRun = true := by
        rw [State.mayRun_of_running (s := v) hr, show v.ready = true from hready.1 hmay]
        exact decide_eq_true hne
      exact (State.evaluate_of_running (s := v) hr hmayRun _).trans (State.planEvaluation_of_active (s := v) hr ha)
    · obtain ⟨hu, hps⟩ := State.selecting_stops (r := .selectPlan) hr hzero hk
      obtain ⟨before, -, hnone, hrecords, -⟩ := v.stopped_records .selectPlan
      obtain rfl := hnone (.inl hzero)
      rw [show u = v.stopped .selectPlan from hu]
      refine ⟨fun hroom => ?_, hps, State.stopped_frame (s := v), fun j => ⟨State.stopped_coord (s := v) j, fun hj => ?_⟩,
        fun e he => ?_⟩
      · obtain ⟨more, hmore⟩ := hrecords hroom
        exact ⟨more, by rw [hmore, List.append_nil]; rfl⟩
      · exact State.stopped_order (s := v) hj
      · exact State.stopped_noneEnds (s := v).entry he
    · have hfree (k : StationIx) := (hall k).1
      obtain ⟨hu, hps⟩ := State.selecting_idles (r := .selectPlan) hr hzero hfree fun k => (hall k).2
      obtain ⟨before, -, hnone, hrecords⟩ := v.rested_records .selectPlan hfree
      obtain rfl := hnone (.inl hzero)
      rw [show u = (v.stopped .selectPlan).rested from hu]
      refine ⟨fun hroom => ?_, hps, by rw [State.rested_tb], State.idle_station (s := v) hfree⟩
      obtain ⟨ends, more, hmore, hlast⟩ := hrecords (show s.eq.records.length + 0 + s.table.length + 2 ≤ 32 by omega)
      obtain rfl := hlast hzero
      exact ⟨ends, by rw [hmore, List.append_nil]; rfl⟩
  · have hg : g.toNat = 0 ∨ g.toNat ≤ 8 ∧ s.planValid g.toNat = true := .inr ⟨hhigh, hv⟩
    have hmay : (s.selecting g.toNat).mayRun = true := by
      have hready : (s.selecting g.toNat).ready = true := State.ready_iff.2 ⟨he, hc, hgeometry⟩
      rw [State.mayRun_of_running (s := s.selecting g.toNat) hr, hready]
      exact decide_eq_true (Nat.one_le_iff_ne_zero.1 hlow)
    have hu := (State.evaluate_of_running (s := s.selecting g.toNat) hr hmay .selectPlan).trans
      (State.planEvaluation_of_valid (s := s.selecting g.toNat) hr ha hv)
    have hserved := exec_selectPlan (echo := echo) h (State.ownSelectPlan_served (s := s.heard) hg) (State.setOverride_evaluate_begun h _)
    rw [hu] at hserved
    exact hserved
  · have hserved := exec_selectPlan (echo := echo) h (State.ownSelectPlan_served (s := s.heard) hg) (State.setOverride_evaluate_begun h _)
    rw [State.evaluate_of_stopping (s := s.selecting g.toNat) hs] at hserved
    exact hserved
  · intro u
    have hrequests : KeepsRequests u (u.evaluate .releasePlan) := u.evaluate_requests .releasePlan
    have hoverride : (u.evaluate .releasePlan).ps.override = none := by rw [hrequests]
    refine ⟨fun hnone => ?_, fun hsome => ⟨?_, hoverride, by rw [State.source, hoverride]; rfl, rfl, fun hs => ?_,
      fun hi he hc hgeometry hv hne => ?_, fun hr hzero => ?_, fun hr he hc hgeometry hne => ?_⟩⟩
    · exact exec_releasePlan h (if_pos hnone) (State.heard_begun h)
    · exact exec_releasePlan h (if_neg hsome) (State.setOverride_evaluate_begun h none)
    · exact State.evaluate_of_stopping (s := u) hs
    · obtain ⟨x, hx, -⟩ := State.planValid_slot hv
      rw [State.evaluate_starts (s := u) hi hv (State.ready_iff.2 ⟨he, hc, hgeometry⟩),
        State.enterRunning_ps (s := u.clearRejection) (x := x) hx]
      exact ⟨rfl, rfl⟩
    · exact State.evaluate_leavesRunning (s := u) hr hzero
    · have hmay : u.mayRun = true := by
        rw [State.mayRun_of_running (s := u) hr, show u.ready = true from State.ready_iff.2 ⟨he, hc, hgeometry⟩]
        exact decide_eq_true hne
      rw [State.evaluate_of_running (s := u) hr hmay]
      exact ⟨fun ha => State.planEvaluation_of_active (s := u) hr ha, fun ha hv => State.planEvaluation_of_valid (s := u) hr ha hv⟩
end

section
/-! SUPPORT. The tick, and a plan taken over at a master boundary (R31 to R36, R60, R76, R77, R107). -/

-- One proof at a time: elaborated in parallel, each proof that waits for an earlier one holds a thread and its stack.
set_option Elab.async false

namespace Sys2Proof.Machine

/-! ## The Time Base at a tick (R31 to R33, R35) -/

section
variable (tb : TimeBase)

theorem TimeBase.advanceClock_frame : tb.advanceClock = { tb with time := tb.advanceClock.time, day := tb.advanceClock.day } := by
  unfold TimeBase.advanceClock
  split <;> rfl

theorem TimeBase.advanceMaster_frame (c : Option Nat) :
    tb.advanceMaster c = { tb with m := (tb.advanceMaster c).m, masterDue := (tb.advanceMaster c).masterDue } := by
  unfold TimeBase.advanceMaster
  split
  · split <;> rfl
  · rfl

variable {tb}

theorem TimeBase.advanceClock_of_midnight (h : tb.time + 1 = Config.dayTicks) :
    tb.advanceClock = { tb with time := 0, day := if tb.day = 7 then 1 else tb.day + 1 } := if_pos h

theorem TimeBase.advanceClock_of_day (h : tb.time + 1 ≠ Config.dayTicks) : tb.advanceClock = { tb with time := tb.time + 1 } :=
  if_neg h

theorem TimeBase.advanceMaster_wraps {c : Nat} (h : c ≤ tb.m + 1) :
    tb.advanceMaster (some c) = { tb with m := 0, masterDue := true } := if_pos h

theorem TimeBase.advanceMaster_grows {c : Nat} (h : tb.m + 1 < c) :
    tb.advanceMaster (some c) = { tb with m := tb.m + 1, masterDue := false } := if_neg (Nat.not_le.2 h)

theorem TimeBase.advanceMinute_tick : tb.advanceMinute.tick = tb.tick + 1 := by
  rw [TimeBase.advanceMinute, TimeBase.advanceClock_frame]

theorem TimeBase.advanceMinute_clockSet : tb.advanceMinute.clockSet = tb.clockSet := by
  rw [TimeBase.advanceMinute, TimeBase.advanceClock_frame]

theorem TimeBase.advanceMinute_m : tb.advanceMinute.m = tb.m := TimeBase.advanceClock_m _

theorem TimeBase.advanceMinute_minuteDue :
    tb.advanceMinute.minuteDue = (tb.advanceMinute.clockSet && tb.advanceMinute.time % Config.minuteTicks == 0) := rfl

theorem TimeBase.advanceMinute_midnight (h : tb.time + 1 = Config.dayTicks) :
    tb.advanceMinute.time = 0 ∧ tb.advanceMinute.day = if tb.day = 7 then 1 else tb.day + 1 := by
  rw [TimeBase.advanceMinute, TimeBase.advanceClock_of_midnight (tb := { tb with tick := tb.tick + 1 }) h]
  exact ⟨rfl, rfl⟩

theorem TimeBase.advanceMinute_day (h : tb.time + 1 ≠ Config.dayTicks) :
    tb.advanceMinute.time = tb.time + 1 ∧ tb.advanceMinute.day = tb.day := by
  rw [TimeBase.advanceMinute, TimeBase.advanceClock_of_day (tb := { tb with tick := tb.tick + 1 }) h]
  exact ⟨rfl, rfl⟩

end

/-- The clock's part of a tick, whatever the master cycle time does (R31 to R33). -/
theorem State.advance_clock (s : State) : s.advance.tb = { s.tb.advanceMinute with
    m := s.advance.tb.m, masterDue := s.advance.tb.masterDue } := TimeBase.advanceMaster_frame _ _

theorem State.masterCycle_of_idle {s : State} (h : s.ps.corridor = .idle) : s.masterCycle = none := by
  rw [State.masterCycle, h]

theorem State.masterCycle_of_active {s : State} {p : Plan} (h : s.ps.corridor ≠ .idle) (hp : s.activePlan = some p) :
    s.masterCycle = some p.cycle := by
  rw [State.masterCycle]
  split
  · next hi => exact absurd hi h
  all_goals rw [hp]; rfl

/-! ## The take-over (R36, R60, R76, R77, R107) -/

theorem State.emptyRing_takeWeight (s : State) (p : Plan) : s.emptyRing.takeWeight p
    = { s with mu := { weight := p.weight, accIn := 0, accOut := 0, primed := false, ring := [] } } := rfl

/-- The Plan Store and the Time Base as a take-over sets them, before its event. -/
def State.promoted (s : State) (g : Nat) : State := { s with
  ps := { s.ps with active := some g, staged := none }, tb := { s.tb with m := 0 } }

/-- The take-over with its event written. -/
def State.takenNote (s : State) (g : Nat) : State := (s.promoted g).emit (.planTaken g (s.ps.active.getD 0))

/-- The stations as a take-over leaves them (R60, R107). -/
def State.retargeted (s : State) : State := s.modAll fun t => t.clearTarget.noteTakeOver

section
variable {s : State} {g : Nat} {x : PlanSlot}

theorem State.takenNote_frame : s.takenNote g = { s.promoted g with eq := (s.takenNote g).eq, hli := (s.takenNote g).hli } := by
  unfold State.takenNote
  rw [State.emit_eq]

theorem State.retargeted_frame : s.retargeted = { s with stations := s.retargeted.stations } := State.modAll_eq s _

theorem State.retargeted_st (k : StationIx) : s.retargeted.st k = (s.st k).clearTarget.noteTakeOver := State.modAll_st s _ k

theorem State.takeOver_eq (hx : s.slot g = some x) :
    s.takeOver g = (s.takenNote g).retargeted.emptyRing.takeWeight x.plan := by
  let u := (s.takenNote g).retargeted.emptyRing
  have hps : u.ps = (s.promoted g).ps := by
    rw [State.emptyRing_ps, State.retargeted, State.modAll_ps, State.takenNote, State.emit_ps]
  have hactive : u.activePlan = some x.plan := by
    have hslot : u.slot g = some x := by rw [State.slot, hps]; exact hx
    rw [State.activePlan, hps]
    show (u.slot g).map (·.plan) = _
    rw [hslot]; rfl
  show (match u.activePlan with
    | some p => u.takeWeight p
    | none => u) = u.takeWeight x.plan
  rw [hactive]

theorem State.takeOver_frame (hx : s.slot g = some x) : s.takeOver g = { s.promoted g with
    stations := (s.takenNote g).retargeted.stations, eq := (s.takenNote g).eq, hli := (s.takenNote g).hli
    mu := { weight := x.plan.weight, accIn := 0, accOut := 0, primed := false, ring := [] } } := by
  let mu : Measurement := { weight := x.plan.weight, accIn := 0, accOut := 0, primed := false, ring := [] }
  calc s.takeOver g
    _ = { (s.takenNote g).retargeted with mu } := (State.takeOver_eq hx).trans (State.emptyRing_takeWeight _ _)
    _ = { s.takenNote g with stations := (s.takenNote g).retargeted.stations, mu } :=
        congrArg (fun y : State => { y with mu }) State.retargeted_frame
    _ = _ := congrArg (fun y : State => { y with stations := (s.takenNote g).retargeted.stations, mu }) State.takenNote_frame

theorem State.takeOver_st (hx : s.slot g = some x) (k : StationIx) : (s.takeOver g).st k = (s.st k).clearTarget.noteTakeOver := by
  rw [State.st_congr (s := (s.takenNote g).retargeted) (by rw [State.takeOver_frame hx]), State.retargeted_st, State.takenNote,
    State.emit_st]
  rfl

theorem State.takeOver_wrote (hx : s.slot g = some x) : s.wrote (s.takeOver g) [.planTaken g (s.ps.active.getD 0)] := by
  have hsame : SameEvents s (s.promoted g) := {}
  rw [State.takeOver_frame hx]
  exact hsame.wrote _

end

end Sys2Proof.Machine

open Sys2Proof Sys2Proof.Machine

/-- Settles O15: the clock, the minute boundary and m advance one after another, each as its own rule says. -/
theorem tickAdvancesTheCounts : Obligations.TickAdvancesTheCounts := by
  intro s
  let c := s.tb.advanceMinute
  have hclock : s.advance.tb = { c with m := s.advance.tb.m, masterDue := s.advance.tb.masterDue } := s.advance_clock
  have hset : s.advance.tb.clockSet = c.clockSet := by rw [hclock]
  have htime : s.advance.tb.time = c.time := by rw [hclock]
  have hday : s.advance.tb.day = c.day := by rw [hclock]
  refine ⟨s.advance, rfl, ?_, hset.trans TimeBase.advanceMinute_clockSet, fun h => ?_, fun h => ?_, ?_, fun hi => ?_,
    fun p hc hp => ⟨fun h => ?_, fun h => ?_⟩, rfl⟩
  · rw [hclock]; exact TimeBase.advanceMinute_tick
  · rw [htime, hday]; exact TimeBase.advanceMinute_midnight h
  · rw [htime, hday]; exact TimeBase.advanceMinute_day h
  · rw [show s.advance.tb.minuteDue = c.minuteDue by rw [hclock], htime, TimeBase.advanceMinute_minuteDue,
      TimeBase.advanceMinute_clockSet]
    simp [Config.minuteTicks, c]
  · rw [State.advance_tb, State.masterCycle_of_idle hi]
    exact ⟨TimeBase.advanceMinute_m, rfl⟩
  · rw [State.advance_tb, State.masterCycle_of_active hc hp, TimeBase.advanceMaster_wraps (by rwa [TimeBase.advanceMinute_m])]
    exact ⟨rfl, rfl⟩
  · rw [State.advance_tb, State.masterCycle_of_active hc hp, TimeBase.advanceMaster_grows (by rwa [TimeBase.advanceMinute_m])]
    exact ⟨congrArg (· + 1) TimeBase.advanceMinute_m, rfl⟩

/-- Settles O17: a boundary is handed on when it is raised, and a take-over sets the plan and m, writes its event, and clears the targets
and the tidal ring. -/
theorem masterBoundaryTakesTheStagedPlanOver : Obligations.MasterBoundaryTakesTheStagedPlanOver := by
  refine ⟨fun s g x hdue hstaged hx => ?_, fun s hdue hstaged => ?_, fun s hdue => ?_⟩
  · let u : State := { s with tb := { s.tb with masterDue := false } }
    have hexec : exec .masterBoundary s = .next (u.takeOver g) := by
      show execMasterBoundary s = _
      rw [execMasterBoundary, if_pos hdue]
      dsimp only
      rw [hstaged]
    have hx : u.slot g = some x := hx
    have hframe := State.takeOver_frame hx
    have hsame : SameEvents s u := {}
    obtain ⟨heq, hhli⟩ := State.takeOver_wrote hx
    refine ⟨_, hexec, by rw [hframe]; rfl, by rw [hframe]; rfl, State.takeOver_st hx, by rw [hframe],
      ⟨heq.trans (hsame.emitAll _).eq, hhli.trans (hsame.emitAll _).hli⟩, ?_⟩
    conv_lhs => rw [hframe]
    rw [hframe]
    rfl
  · show execMasterBoundary s = _
    rw [execMasterBoundary, if_pos hdue]
    dsimp only
    rw [hstaged]
  · show execMasterBoundary s = _
    rw [execMasterBoundary, if_neg (by rw [hdue]; decide)]
end

section
/-! SUPPORT. What an occasion of R39 leaves of the clock, and that a corridor which leaves RUNNING at one does not return to it at once
(R32 to R35, R39 to R43). -/

-- One proof at a time: elaborated in parallel, each proof that waits for an earlier one holds a thread and its stack.
set_option Elab.async false

namespace Sys2Proof.Machine

variable {s : State} {r : Reason}

/-! ## The clock (R32, R35) -/

/-- From `s` to `t` the Time Base keeps the tick count, the clock and a raised minute boundary: all but m and its boundary. -/
def KeepsClock (s t : State) : Prop := t.tb = { s.tb with m := t.tb.m, masterDue := t.tb.masterDue }

theorem KeepsClock.of_tb {s t : State} (h : t.tb = s.tb) : KeepsClock s t := by unfold KeepsClock; rw [h]

theorem KeepsClock.trans {s t u : State} (h : KeepsClock s t) (h' : KeepsClock t u) : KeepsClock s u := by
  unfold KeepsClock at *
  exact h'.trans (congrArg (fun tb : TimeBase => { tb with m := u.tb.m, masterDue := u.tb.masterDue }) h)

theorem State.enterRunning_clock (s : State) (r : Reason) : KeepsClock s (s.enterRunning r) := by
  cases hx : s.slot s.governing with
  | none => rw [State.enterRunning_of_empty _ hx]; exact .of_tb rfl
  | some x => unfold KeepsClock; rw [State.enterRunning_frame hx]; rfl

theorem State.enterIdle_clock (s : State) : KeepsClock s s.enterIdle := by
  have hrested : KeepsClock s s.rested := by unfold KeepsClock; rw [State.rested_tb]
  rw [State.enterIdle_eq]
  split
  · exact hrested.trans (State.enterRunning_clock _ _)
  · exact hrested

theorem State.enterStopping_clock (s : State) (r : Reason) : KeepsClock s (s.enterStopping r) := by
  have hdrained : KeepsClock s (s.drained r) := .of_tb State.drained_tb
  rw [State.enterStopping_drained, State.settle]
  split
  · exact hdrained.trans (State.enterIdle_clock _)
  · exact hdrained

theorem State.evaluate_clock (s : State) (r : Reason) : KeepsClock s (s.evaluate r) := by
  have hplan : KeepsClock s s.planEvaluation := .of_tb s.planEvaluation_tb
  unfold State.evaluate
  dsimp only
  split
  · split
    · exact hplan.trans (State.enterRunning_clock _ _)
    · exact hplan
  · split
    · exact hplan
    · exact hplan.trans (State.enterStopping_clock _ _)
  · exact hplan

/-! ## A corridor that stops and is at once at rest (R41 to R43) -/

/-- Every stored N and every station's configuration part decide the geometry (R1). -/
theorem State.geometryValid_congr {s t : State} (hcount : t.count = s.count)
    (hconfig : ∀ k : StationIx, (t.st k).config = (s.st k).config) : t.geometryValid = s.geometryValid := by
  simp only [State.geometryValid, hcount, hconfig]

theorem State.drained_geometryValid : (s.drained r).geometryValid = s.geometryValid := by
  refine State.geometryValid_congr (by rw [State.drained_frame]) fun k => ?_
  rw [State.drained_aside.field (·.config) (fun _ => rfl) k, State.halted_st]

theorem State.rested_geometryValid (s : State) : s.rested.geometryValid = s.geometryValid := by
  refine State.geometryValid_congr ?_ fun k => ?_
  · rw [State.rested_eq, State.planEvaluation_count, State.lulled, State.emit_count, State.cleared_frame]
    rfl
  · rw [State.rested_st]
    exact Station.enterMins_config _

/-- The stop changes none of the terms of Table 3-1 beside the plan term. -/
theorem State.rested_ready : (s.stopped r).rested.ready = s.ready := by
  have henable : (s.stopped r).rested.ps.enable = s.ps.enable := by rw [State.rested_ps, State.stopped_ps]
  have hclock : (s.stopped r).rested.tb.clockSet = s.tb.clockSet := by rw [State.rested_tb, State.stopped_frame]
  have hgeometry : (s.stopped r).rested.geometryValid = s.geometryValid := by
    rw [State.rested_geometryValid, State.stopped, State.drained_geometryValid]
    exact State.geometryValid_congr s.planEvaluation_count fun k => by rw [State.planEvaluation_st]
  simp only [State.ready, henable, hclock, hgeometry]

/-- A RUNNING corridor that may run no longer stops, and what stopped it keeps it at rest (R39, R43). -/
theorem State.evaluate_leaves (hr : s.ps.corridor = .running) (h : s.mayRun = false) : (s.evaluate r).ps.corridor ≠ .running := by
  have hrested : (s.stopped r).rested.mayRun = false := by
    have hgoverning : (s.stopped r).rested.governing = s.governing := (State.rested_governing _).trans State.stopped_governing
    rw [State.mayRun_of_running hr] at h
    rw [State.mayRun_of_idle (State.rested_corridor _), State.rested_ready, hgoverning, ← Bool.and_assoc, h]
    rfl
  rw [State.evaluate_of_stop hr h, State.settle]
  split
  · rw [State.enterIdle_eq, hrested, if_neg (by decide), State.rested_corridor]
    decide
  · rw [State.stopped_ps]
    exact CorridorState.noConfusion

/-- While a corridor stays RUNNING at an occasion, m stands (R34, R39). -/
theorem State.evaluate_master (hr : s.ps.corridor = .running) (h : (s.evaluate r).ps.corridor = .running) :
    (s.evaluate r).tb.m = s.tb.m := by
  cases hm : s.mayRun with
  | false => exact absurd h (State.evaluate_leaves hr hm)
  | true => rw [State.evaluate_of_running hr hm, State.planEvaluation_tb]

end Sys2Proof.Machine
end

section
/-! SUPPORT. SET_CLOCK and START answered whole (R34, R37, R39, R40, R44, R47, R52). -/

-- One proof at a time: elaborated in parallel, each proof that waits for an earlier one holds a thread and its stack.
set_option Elab.async false

namespace Sys2Proof.Machine

variable {s : State}

/-! ## SET_CLOCK (R34) -/

theorem rd32_be32 {n : Nat} (hn : n < 4294967296) (l : List Byte) : rd32 (be32 n ++ l) 0 = n := by
  have hfirst : rd8 (be32 n ++ l) 0 = n / 16777216 := (BitVec.toNat_ofNat _ 8).trans (Nat.mod_eq_of_lt (by omega))
  have hsecond : rd8 (be32 n ++ l) 1 = n / 65536 % 256 := BitVec.toNat_ofNat _ 8
  have hthird : rd8 (be32 n ++ l) 2 = n / 256 % 256 := BitVec.toNat_ofNat _ 8
  have hfourth : rd8 (be32 n ++ l) 3 = n % 256 := BitVec.toNat_ofNat _ 8
  simp only [rd32, rd16, Nat.zero_add, Nat.reduceAdd, hfirst, hsecond, hthird, hfourth]
  omega

/-- The clock set, with its event written, as SET_CLOCK hands it to the evaluation. -/
def State.clocked (s : State) (day time : Nat) : State := (s.setClock day time).emit .clockSet

section
variable {day : Byte} {time : Nat} (ht : time < 4294967296)
include ht

/-- SET_CLOCK with its two checks on the values carried. -/
theorem State.ownSetClock_eq : s.ownSetClock (day :: be32 time)
    = s.checked [fieldCheck 1 (outside 1 7 day.toNat), fieldCheck 2 (864000 ≤ time)]
      (.ok [], (s.clocked day.toNat time).evaluate .setClock) := by
  have htime : rd32 (day :: be32 time) 1 = time := by
    have h := rd32_be32 ht []
    rwa [List.append_nil] at h
  unfold State.ownSetClock
  dsimp only
  rw [htime]
  rfl

theorem State.ownSetClock_badDay (hday : day.toNat < 1 ∨ 7 < day.toNat) : s.ownSetClock (day :: be32 time) = (.badField 1, s) := by
  rw [State.ownSetClock_eq ht, outside_eq_true.2 hday]
  rfl

variable (hlow : 1 ≤ day.toNat) (hhigh : day.toNat ≤ 7)
include hlow hhigh

theorem State.ownSetClock_badTime (htime : 864000 ≤ time) : s.ownSetClock (day :: be32 time) = (.badField 2, s) := by
  rw [State.ownSetClock_eq ht, outside_eq_false.2 ⟨hlow, hhigh⟩, decide_eq_true htime]
  rfl

theorem State.ownSetClock_ok (htime : time < 864000) :
    s.ownSetClock (day :: be32 time) = (.ok [], (s.clocked day.toNat time).evaluate .setClock) := by
  rw [State.ownSetClock_eq ht, outside_eq_false.2 ⟨hlow, hhigh⟩, decide_eq_false (Nat.not_le.2 htime)]
  rfl

end

theorem exec_setClock {u : State} {echo day : Byte} {time : Nat} {res : Result} (h : s.takesAtOnce)
    (ho : s.heard.ownSetClock (day :: be32 time) = (res, u)) (hu : u.begun) :
    exec (.setClock echo (day :: be32 time)) s = .next (u.answered 0x07 echo res) :=
  exec_served (i := .setClock echo (day :: be32 time)) h rfl rfl rfl (by rintro _ ⟨⟩; rfl) ho hu

theorem State.clocked_tb (s : State) (day time : Nat) : (s.clocked day time).tb = { s.tb with day, time, clockSet := true } :=
  State.emit_tb _ _

theorem State.clocked_corridor (s : State) (day time : Nat) : (s.clocked day time).ps = s.ps := State.emit_ps _ _

theorem State.clocked_records {day time : Nat} (h : s.eq.records.length < Config.eventLimit) :
    (s.clocked day time).eq.records = s.eq.records ++ [{ time := some time, body := .clockSet }] :=
  State.emit_records_of_room (s.setClock day time) h _

/-- What the occasion that follows a set clock leaves of the clock, the records and m (R34). -/
theorem State.clocked_evaluated (s : State) (day time : Nat) : let u := (s.clocked day time).evaluate .setClock
    u.tb.day = day ∧ u.tb.time = time ∧ u.tb.clockSet = true ∧ u.tb.tick = s.tb.tick
      ∧ (s.eq.records.length < 32 → ∃ more, u.eq.records = s.eq.records ++ { time := some time, body := .clockSet } :: more)
      ∧ (s.ps.corridor = .running → u.ps.corridor = .running → u.tb.m = s.tb.m)
      ∧ (s.ps.corridor = .stopping → u = s.clocked day time) := by
  intro u
  let v := s.clocked day time
  have hclock : KeepsClock v u := v.evaluate_clock .setClock
  have htb := s.clocked_tb day time
  have hps : v.ps = s.ps := s.clocked_corridor day time
  unfold KeepsClock at hclock
  rw [htb] at hclock
  refine ⟨by rw [hclock], by rw [hclock], by rw [hclock], by rw [hclock], fun hroom => ?_, fun hr hu => ?_, fun hs => ?_⟩
  · obtain ⟨more, hmore⟩ := (v.evaluate_quiet .setClock).records
    exact ⟨more, by rw [← hmore, State.clocked_records hroom, List.append_assoc]; rfl⟩
  · rw [State.evaluate_master (s := v) (by rw [hps]; exact hr) hu, htb]
  · exact State.evaluate_of_stopping (by rw [State.clocked_corridor]; exact hs)

/-! ## START (R37) -/

/-- The enable set, as START hands it to the evaluation. -/
abbrev State.starting (s : State) : State := s.heard.setEnable true

theorem exec_start {u : State} {echo ignored : Byte} (h : s.takesAtOnce) (hu : s.starting.evaluate .start = u) :
    exec (.start echo [ignored]) s = .next (u.answered 0x08 echo (.ok u.stateReply)) := by
  have hbegun : u.begun := hu ▸ (State.evaluate_quiet _ _).begun (s := s.starting) (State.heard_begun h)
  exact exec_served (i := .start echo [ignored]) h rfl rfl rfl (by rintro _ ⟨⟩; rfl) (by subst hu; rfl) hbegun

theorem State.stateReply_of_running (h : s.ps.corridor = .running) : s.stateReply = [1] := by
  rw [State.stateReply, h]
  rfl

theorem State.stateReply_of_unset (h : s.ps.corridor = .idle) (he : s.ps.enable = true) (hc : s.tb.clockSet = false) :
    s.stateReply = [0, 1] := by
  have hterm : s.firstFailing = some .clock := by simp [State.firstFailing, allTerms, State.termHolds, he, hc]
  rw [State.stateReply, h, hterm]
  rfl

/-- No plan governs by the schedule while the clock is not set (R22). -/
theorem State.governing_of_unset (hc : s.tb.clockSet = false) (ho : s.ps.override = none) : s.governing = 0 := by
  rw [State.governing, ho, State.schedulePlan, hc]
  rfl

end Sys2Proof.Machine

open Sys2Proof Sys2Proof.Machine

/-- Settles O47: the two checks in order, and then an evaluation that leaves the clock alone, and m while the corridor stays RUNNING. -/
theorem setClockKeepsTheWave : Obligations.SetClockKeepsTheWave := by
  intro s echo day time h ht
  have hbegun := State.heard_begun h
  refine ⟨fun hday => ?_, fun hlow hhigh htime => ?_, fun hlow hhigh htime => ?_⟩
  · exact exec_setClock h (State.ownSetClock_badDay ht hday) hbegun
  · exact exec_setClock h (State.ownSetClock_badTime ht hlow hhigh htime) hbegun
  · have hquiet : Quiet s.heard ((s.heard.clocked day.toNat time).evaluate .setClock) :=
      ((s.heard.setClock_quiet _ _).emit _).trans (State.evaluate_quiet _ _)
    exact ⟨_, exec_setClock h (State.ownSetClock_ok ht hlow hhigh htime) (hquiet.begun hbegun),
      s.heard.clocked_evaluated day.toNat time⟩

/-- Settles O48: START is an occasion of R39 with the enable set; an entry to RUNNING is followed part by part, and without a clock no
plan governs. -/
theorem startEntersRunning : Obligations.StartEntersRunning := by
  refine ⟨fun s echo ignored g x h hi hc hgeometry hg hg0 hx hvalid => ?_, fun s echo ignored h hi hc ho => ?_⟩
  · subst hg
    let v := s.starting
    let w := v.clearRejection
    have hv : v.planValid v.governing = true := State.planValid_iff.2 ⟨x, hx, hvalid⟩
    have hstarts : v.evaluate .start = w.enterRunning .start :=
      State.evaluate_starts (s := v) hi hv (State.ready_iff.2 ⟨rfl, hc, hgeometry⟩)
    have hslot : w.slot w.governing = some x := hx
    have hframe := State.enterRunning_frame (r := .start) hslot
    have hps : (w.enterRunning .start).ps = _ := State.enterRunning_ps hslot
    have hwrote := State.enterRunning_wrote (r := .start) hslot
    have hsame : SameEvents w s.heard := {}
    have hjoins (k : StationIx) : (w.st k).joins = true ↔ (s.st k).link = .online ∧ (s.st k).coord = .free := by
      show (decide ((s.st k).link = .online) && decide ((s.st k).coord = .free)) = true ↔ _
      simp
    refine ⟨w.enterRunning .start, ?_, hps, by rw [hframe]; rfl, by rw [hframe], fun k => ?_, ?_, ?_⟩
    · rw [exec_start h hstarts, State.stateReply_of_running (by rw [hps])]
    · rw [State.enterRunning_st hslot]
      exact if_congr (hjoins k) rfl rfl
    · exact ⟨hwrote.1.trans (hsame.emitAll _).eq.symm, hwrote.2.trans (hsame.emitAll _).hli.symm⟩
    · conv_lhs => rw [hframe]
      rw [hframe]
      rfl
  · have hgoverning : s.starting.governing = 0 := State.governing_of_unset (s := s.starting) hc ho
    have hrests : s.starting.evaluate .start = s.starting.clearRejection := by
      refine State.evaluate_rests (s := s.starting) hi (.inl hgoverning) ?_
      rw [State.mayRun_of_idle (s := s.starting) hi, hgoverning]
      simp
    rw [exec_start h hrests, State.stateReply_of_unset (s := s.starting.clearRejection) hi rfl hc]
    rfl
end

section
/-! SUPPORT. The end of a waiting order, of a RELEASE while STOPPING, and of a waiting REVISE (R43, R48, R104 to R113, R118 to R122). -/

-- One proof at a time: elaborated in parallel, each proof that waits for an earlier one holds a thread and its stack.
set_option Elab.async false

namespace Sys2Proof.Machine

variable {s : State} {k : StationIx}

/-! ## A grant withdrawn (R122) -/

/-- An entry that loses its grant (R122). -/
def Entry.ungranted (e : Entry) : Entry := { e with state := .pending, grant := none, outstanding := false }

/-- The grant in a slot withdrawn and reported, before the transit requests of its station are evaluated (R122). -/
def State.ungranted (s : State) (k : StationIx) (tag : Word16) (i : SlotIx) : State :=
  ((s.modEntry i (·.ungranted)).setLockout k 0).emit (.grantWithdrawn k tag i)

theorem State.ungranted_ps (s : State) (k : StationIx) (tag : Word16) (i : SlotIx) : (s.ungranted k tag i).ps = s.ps := by
  rw [State.ungranted, State.emit_ps]; rfl

theorem State.withdrawGrant_outstanding {i : SlotIx} {e : Entry} (he : s.entry i = some e) (ho : e.outstanding = true)
    (hk : e.station = k) : s.withdrawGrant i = (s.ungranted k e.tag i).evaluateTransit k := by
  subst hk
  rw [State.withdrawGrant, he]
  exact if_pos ho

theorem State.withdrawGrant_delivered {i : SlotIx} (h : ∀ e : Entry, s.entry i = some e → e.outstanding = false) :
    s.withdrawGrant i = s := by
  unfold State.withdrawGrant
  split
  · next e he => rw [h e he]; rfl
  · rfl

/-! ## An evaluation that grants nothing (R110, R118, R119) -/

theorem State.grantFirst_of_none {p : Plan} {m : CycleModel} {c : Course} {l : List Entry}
    (h : ∀ e ∈ l, s.tryGrant k p m c e = none) : s.grantFirst k p m c l = s := by
  induction l with
  | nil => rfl
  | cons e l ih =>
    rw [State.grantFirst, h e List.mem_cons_self, Option.getD_none]
    exact ih fun x hx => h x (List.mem_cons_of_mem e hx)

theorem State.evaluateTransit_of_none {p : Plan} {m : CycleModel} {c : Course} (hm : (s.st k).model = some m)
    (hp : s.activePlan = some p) (hc : m.basis.course = some c)
    (h : ∀ e ∈ s.candidates k m.zeroTick c.length, s.tryGrant k p m c e = none) : s.evaluateTransit k = s := by
  rw [State.evaluateTransit, hm, hp]
  dsimp only
  rw [hc]
  dsimp only
  rw [State.grantFirst_of_none h, ite_self]

/-- A fold whose latest tick is past is no longer to be had (R110, R119). -/
theorem State.buildRevise_late {m : CycleModel} {c : Course} {i : SlotIx} {kind : FoldKind} {ivs : List Nat}
    (h : s.offsetPast m (latestOffset kind c.firstEnd) = true) : s.buildRevise k m c i kind ivs = none := by
  rw [State.buildRevise, h]
  simp

theorem State.tryGrant_extend_late {p : Plan} {m : CycleModel} {c : Course} {e : Entry} {x : Nat}
    (hcl : classify p.maxExtension (s.st k).lockout c.intervals (s.st k).minsInForce (tickDiff e.eta m.zeroTick) = .extend x)
    (h : s.offsetPast m (latestOffset .extend c.firstEnd) = true) : s.tryGrant k p m c e = none := by
  rw [State.tryGrant]
  dsimp only
  rw [hcl]
  dsimp only [Classified.fold]
  rw [State.buildRevise_late h, Option.map_none]

theorem State.tryGrant_early_late {p : Plan} {m : CycleModel} {c : Course} {e : Entry} {l : Nat}
    (hcl : classify p.maxExtension (s.st k).lockout c.intervals (s.st k).minsInForce (tickDiff e.eta m.zeroTick) = .early l)
    (h : s.offsetPast m (latestOffset .early c.firstEnd) = true) : s.tryGrant k p m c e = none := by
  rw [State.tryGrant]
  dsimp only
  rw [hcl]
  dsimp only [Classified.fold]
  rw [State.buildRevise_late h, Option.map_none]

/-- The first phase interval ends at the end of phase 1. -/
theorem Course.intervals_headD (c : Course) : c.intervals.headD 0 = c.firstEnd := by
  rw [Course.intervals, Course.firstEnd]
  cases c.ends <;> rfl

section
variable {maxExt : Nat} {c : Course} {mins : List Nat} {pos : Int} (hpos : (c.firstEnd : Int) ≤ pos)
include hpos

/-- The classification from the first phase end on, with no lockout (R118). -/
theorem classify_of_late : classify maxExt 0 c.intervals mins pos
    = let x := extensionRoom maxExt c.intervals mins
      if 1 ≤ x ∧ pos < c.firstEnd + x then .extend (min (pos - c.firstEnd + 20).toNat x)
      else
        let l := max (pos - 20).toNat (c.firstEnd + mins.tail.sum)
        if l < c.intervals.sum then .early l else .passive := by
  unfold classify earlyFloor
  dsimp only
  rw [c.intervals_headD, if_neg (not_lt.2 hpos)]
  rfl

theorem classify_extend_of_late (hroom : 1 ≤ extensionRoom maxExt c.intervals mins)
    (hin : pos < c.firstEnd + extensionRoom maxExt c.intervals mins) :
    ∃ x, classify maxExt 0 c.intervals mins pos = .extend x := by
  rw [classify_of_late hpos]
  exact ⟨_, if_pos ⟨hroom, hin⟩⟩

theorem classify_early_of_late (hout : ¬(1 ≤ extensionRoom maxExt c.intervals mins ∧ pos < c.firstEnd + extensionRoom maxExt c.intervals mins))
    (hfloor : max (pos - 20).toNat (c.firstEnd + mins.tail.sum) < c.intervals.sum) :
    ∃ l, classify maxExt 0 c.intervals mins pos = .early l := by
  rw [classify_of_late hpos]
  exact ⟨_, (if_neg hout).trans (if_pos hfloor)⟩

end

/-! ## No order comes from nowhere -/

/-- From `s` to `t` a station without a waiting order is given none. -/
def NoNewOrder (s t : State) : Prop := ∀ k : StationIx, (s.st k).order = none → (t.st k).order = none

namespace NoNewOrder

variable {t u : State}

theorem refl (s : State) : NoNewOrder s s := fun _ h => h

theorem trans (h : NoNewOrder s t) (h' : NoNewOrder t u) : NoNewOrder s u := fun k hk => h' k (h k hk)

theorem of_same (h : SameOrders s t) : NoNewOrder s t := fun k hk => (h k).2.2.trans hk

theorem of_st (h : ∀ k : StationIx, t.st k = s.st k := by simp) : NoNewOrder s t := of_same (.of_st h)

theorem modSt {f : Station → Station} (h : ∀ x : Station, x.order = none → (f x).order = none) : NoNewOrder s (s.modSt k f) := by
  intro j hj
  rw [State.st_modSt]
  split
  · exact h _ hj
  · exact hj

end NoNewOrder

theorem State.withdrawOrder_noNewOrder (s : State) (k : StationIx) : NoNewOrder s (s.withdrawOrder k) := by
  rw [State.withdrawOrder_eq]
  refine .trans (.modSt fun x hx => ?_) (.of_same (State.foldLost_sameOrders _ _))
  unfold Station.withoutCycleOrder
  split
  · rfl
  · exact hx

theorem State.clearRevise_noNewOrder (s : State) (k : StationIx) : NoNewOrder s (s.clearRevise k) :=
  .trans (.modSt (f := fun t => { t with revise := none }) fun _ h => h) (.of_st fun _ => rfl)

theorem State.withdrawRevise_noNewOrder (s : State) (k : StationIx) : NoNewOrder s (s.withdrawRevise k) := by
  unfold State.withdrawRevise
  split
  · exact (s.clearRevise_noNewOrder k).trans (.of_same (State.withdrawGrant_sameOrders _ _))
  · exact .refl s

theorem State.setCoord_noNewOrder (s : State) (k : StationIx) (c : Coord) (x : StateCause) : NoNewOrder s (s.setCoord k c x) := by
  intro j hj
  rw [State.setCoord_st]
  split <;> exact hj

theorem State.uncoordinate_noNewOrder (s : State) (k : StationIx) (c : Coord) (x : StateCause) :
    NoNewOrder s ((((s.setCoord k c x).modSt k (·.unsynced)).withdrawOrder k).withdrawRevise k) := by
  have hunsynced (u : State) : NoNewOrder u (u.modSt k (·.unsynced)) := .modSt fun _ h => h
  exact (((s.setCoord_noNewOrder k c x).trans (hunsynced _)).trans (State.withdrawOrder_noNewOrder _ k)).trans
    (State.withdrawRevise_noNewOrder _ k)

theorem State.enterFree_noNewOrder (s : State) (k : StationIx) (x : StateCause) : NoNewOrder s (s.enterFree k x) :=
  s.uncoordinate_noNewOrder k .free x

/-! ## The end of a RELEASE while STOPPING (R43) -/

theorem State.settle_of_out (h : s.releaseOut k = true) : s.settle = s := by
  have hne : s.releasesOut ≠ 0 := by
    rw [State.releasesOut, Ne, List.length_eq_zero_iff, List.filter_eq_nil_iff]
    exact fun hnone => hnone k (mem_allStations k) h
  rw [State.settle, decide_eq_false hne, Bool.and_false]
  rfl

theorem State.settle_of_none (hc : s.ps.corridor = .stopping) (h : ∀ j : StationIx, s.releaseOut j = false) : s.settle = s.enterIdle := by
  have hnone : s.releasesOut = 0 := by
    rw [State.releasesOut, List.length_eq_zero_iff, List.filter_eq_nil_iff]
    exact fun j _ hj => Bool.false_ne_true ((h j).symm.trans hj)
  rw [State.settle, if_pos (by simp [hc, hnone])]

theorem State.enterIdle_leaves (s : State) : s.enterIdle.ps.corridor ≠ .stopping := by
  rw [State.enterIdle_eq]
  split
  · cases hx : s.rested.slot s.rested.governing with
    | none => rw [State.enterRunning_of_empty _ hx, State.rested_corridor]; exact CorridorState.noConfusion
    | some x => rw [State.enterRunning_ps hx]; exact CorridorState.noConfusion
  · rw [State.rested_corridor]; exact CorridorState.noConfusion

/-- An entry to RUNNING leaves no station synchronised that was not, and gives none an order (R40, R47). -/
theorem State.enterRunning_unsynced (s : State) (k : StationIx) (r : Reason) : ((s.enterRunning r).st k).order = (s.st k).order
    ∧ ((s.st k).synced = false → ((s.enterRunning r).st k).synced = false) := by
  cases hx : s.slot s.governing with
  | none => rw [State.enterRunning_of_empty _ hx]; exact ⟨rfl, id⟩
  | some x =>
    rw [State.enterRunning_st hx]
    split
    · exact ⟨rfl, fun _ => rfl⟩
    · exact ⟨rfl, id⟩

theorem State.enterIdle_unsynced (s : State) (k : StationIx) : (s.enterIdle.st k).order = (s.st k).order
    ∧ ((s.st k).synced = false → (s.enterIdle.st k).synced = false) := by
  have hrested : (s.rested.st k).order = (s.st k).order ∧ (s.rested.st k).synced = (s.st k).synced := by
    rw [State.rested_st, Station.enterMins_eq]; exact ⟨rfl, rfl⟩
  obtain ⟨horder, hsynced⟩ := hrested
  rw [State.enterIdle_eq]
  split
  · obtain ⟨horder', hsynced'⟩ := s.rested.enterRunning_unsynced k .restart
    exact ⟨horder'.trans horder, fun h => hsynced' (hsynced.trans h)⟩
  · exact ⟨horder, hsynced.trans⟩

theorem State.settle_unsynced (s : State) (k : StationIx) : (s.settle.st k).order = (s.st k).order
    ∧ ((s.st k).synced = false → (s.settle.st k).synced = false) := by
  unfold State.settle
  split
  · exact s.enterIdle_unsynced k
  · exact ⟨rfl, id⟩

theorem Station.Stays.releaseOut {s t : State} {c : CorridorState} (h : (s.st k).Stays c (t.st k)) (hc : c ≠ .running) :
    t.releaseOut k = s.releaseOut k := by
  rw [Bool.eq_iff_iff, State.releaseOut_iff, State.releaseOut_iff, h.release hc]

theorem State.releaseOut_of_none (h : (s.st k).order = none) : s.releaseOut k = false := by
  rw [State.releaseOut, h]; rfl

/-- What is left when the RELEASE of a station has ended while STOPPING, from the state `u` in which it is absent (R43, R48). -/
structure State.ReleaseEnded (u : State) (k : StationIx) (t : State) : Prop where
  order : (t.st k).order = none
  synced : (t.st k).synced = false
  free_of_out : (∃ j : StationIx, j ≠ k ∧ u.releaseOut j = true) → t = u.enterFree k .released ∧ (t.st k).coord = .free ∧ t.ps = u.ps
  idle_of_none : (∀ j : StationIx, j ≠ k → u.releaseOut j = false) → t = (u.enterFree k .released).enterIdle

theorem State.releaseEnded (hstop : s.ps.corridor = .stopping) (horder : (s.st k).order = none) :
    s.ReleaseEnded k (s.enterFree k .released).settle := by
  let f := s.enterFree k .released
  obtain ⟨hcoord, hsynced⟩ := s.enterFree_free k .released
  have hf : (f.st k).order = none := s.enterFree_noNewOrder k .released k horder
  have hps : f.ps = s.ps := (s.enterFree_aside (kept := True) k .released).ps
  have hout (j : StationIx) (hj : j ≠ k) : f.releaseOut j = s.releaseOut j :=
    ((s.enterFree_elsewhere k .released).station j hj).releaseOut (by rw [hstop]; exact CorridorState.noConfusion)
  refine ⟨(f.settle_unsynced k).1.trans hf, (f.settle_unsynced k).2 hsynced, fun ⟨j, hj, hrelease⟩ => ?_, fun hnone => ?_⟩
  · have hsettle : f.settle = f := State.settle_of_out ((hout j hj).trans hrelease)
    refine ⟨hsettle, ?_, ?_⟩ <;> rw [hsettle]
    · exact hcoord
    · exact hps
  · refine State.settle_of_none (by rw [hps]; exact hstop) fun j => ?_
    by_cases hj : j = k
    · subst hj; exact State.releaseOut_of_none hf
    · exact (hout j hj).trans (hnone j hj)

/-! ## The two rows (R104, R105, R112) -/

theorem exec_orderDeadline {o : WaitingOrder} (ho : (s.st k).order = some o) (hd : reached s.now o.deadline = true)
    (hover : s.slotOver = true) : exec (.orderDeadlinePassed k) s = .next (s.dropOrder k o) := by
  show execOrderDeadlinePassed k s = _
  rw [execOrderDeadlinePassed, ho]
  exact if_pos (by rw [hd, hover]; rfl)

theorem exec_orderDeadline_before {o : WaitingOrder} (ho : (s.st k).order = some o)
    (h : reached s.now o.deadline = false ∨ s.slotOver = false) : exec (.orderDeadlinePassed k) s = .next s := by
  show execOrderDeadlinePassed k s = _
  rw [execOrderDeadlinePassed, ho]
  exact if_neg (by obtain h | h := h <;> simp [h])

theorem exec_orderDeadline_none (h : (s.st k).order = none) : exec (.orderDeadlinePassed k) s = .next s := by
  show execOrderDeadlinePassed k s = _
  rw [execOrderDeadlinePassed, h]

theorem exec_reviseLatest {r : WaitingRevise} (hr : (s.st k).revise = some r) (hd : reached s.now r.latest = true)
    (hover : s.slotOver = true) : exec (.reviseLatestTickPassed k) s = .next ((s.clearRevise k).withdrawGrant r.slot) := by
  show execReviseLatestTickPassed k s = _
  rw [execReviseLatestTickPassed, hr]
  refine (if_pos (by rw [hd, hover]; rfl)).trans ?_
  rw [State.withdrawRevise, hr]

theorem exec_reviseLatest_before {r : WaitingRevise} (hr : (s.st k).revise = some r)
    (h : reached s.now r.latest = false ∨ s.slotOver = false) : exec (.reviseLatestTickPassed k) s = .next s := by
  show execReviseLatestTickPassed k s = _
  rw [execReviseLatestTickPassed, hr]
  exact if_neg (by obtain h | h := h <;> simp [h])

theorem exec_reviseLatest_none (h : (s.st k).revise = none) : exec (.reviseLatestTickPassed k) s = .next s := by
  show execReviseLatestTickPassed k s = _
  rw [execReviseLatestTickPassed, h]

/-- A waiting cycle order that is dropped (R105, R113). -/
theorem State.dropOrder_cycle {o : WaitingOrder} {b : OrderBody} (hb : o.body = some b) : s.dropOrder k o
    = ((s.modSt k fun t => { t with order := none }).emit (.orderLate k o.number .deadline)).foldLost b.fold := by
  rw [State.dropOrder, hb]

/-- A RELEASE that is dropped has ended (R43, R109). -/
theorem State.dropOrder_release {o : WaitingOrder} (hb : o.body = none) : s.dropOrder k o
    = (((s.modSt k fun t => { t with order := none }).emit (.orderLate k o.number .release)).enterFree k .released).settle := by
  rw [State.dropOrder, hb]

/-! ## A REVISE withdrawn at its latest tick (R112, R122) -/

/-- The REVISE withdrawn with its grant, before the transit requests of its station are evaluated. -/
def State.reviseLost (s : State) (k : StationIx) (tag : Word16) (i : SlotIx) : State := (s.clearRevise k).ungranted k tag i

theorem State.reviseLost_eq (s : State) (k : StationIx) (tag : Word16) (i : SlotIx) : s.reviseLost k tag i
    = ({ s.modSt k (fun t => { t with revise := none, lockout := 0 }) with
        clc := { s.clc with urgent := s.clc.urgent.filter fun f => !(f.station = k && f.kind = .revise) }
        table := s.table.map fun x =>
          if x.slot = i then { x with state := .pending, grant := none, outstanding := false } else x } : State).emit
        (.grantWithdrawn k tag i) := by
  rw [State.reviseLost, State.ungranted]
  refine congrArg (fun u : State => u.emit (.grantWithdrawn k tag i)) ?_
  have hstations := s.modSt_modSt k (fun t => { t with revise := none }) fun t => { t with lockout := 0 }
  exact congrArg (fun u : State => { u with
    clc := { s.clc with urgent := s.clc.urgent.filter fun f => !(f.isRevise k) }
    table := s.table.map fun x : Entry => if x.slot = i then x.ungranted else x }) hstations

section
variable {i : SlotIx} {e : Entry}

theorem State.reviseLost_st (tag : Word16) : (s.reviseLost k tag i).st k = { s.st k with revise := none, lockout := 0 } := by
  have hcleared : ((s.clearRevise k).modEntry i (·.ungranted)).st k = { s.st k with revise := none } :=
    (State.st_congr rfl k).trans (s.st_modSt_same k fun t => { t with revise := none })
  rw [State.reviseLost, State.ungranted, State.emit_st, State.setLockout, State.st_modSt_same, hcleared]

theorem State.reviseLost_ps (tag : Word16) : (s.reviseLost k tag i).ps = s.ps := by rw [State.reviseLost, State.ungranted_ps]; rfl

theorem State.reviseLost_activePlan (tag : Word16) : (s.reviseLost k tag i).activePlan = s.activePlan := by
  simp only [State.activePlan, State.slot, State.reviseLost_ps]

theorem State.reviseLost_offsetPast (tag : Word16) (m : CycleModel) (n : Nat) :
    (s.reviseLost k tag i).offsetPast m n = s.offsetPast m n := by
  have hnow : (s.reviseLost k tag i).now = s.now := by rw [State.now, State.reviseLost_eq, State.emit_tb]; rfl
  have hslot : (s.reviseLost k tag i).slotOver = s.slotOver := by rw [State.slotOver, State.reviseLost_eq, State.emit_clc]; rfl
  rw [State.offsetPast, hnow, hslot]
  rfl

/-- The only candidate left is the entry of the grant withdrawn, where it is the only entry of its station. -/
theorem State.reviseLost_candidate (hn : s.slots.Nodup) (he : s.entry i = some e)
    (honly : ∀ y ∈ s.table, y.station = k → y.slot = i) {tag : Word16} {z : Tick} {L : Nat} {x : Entry}
    (hx : x ∈ (s.reviseLost k tag i).candidates k z L) : x.eta = e.eta := by
  have htable : (s.reviseLost k tag i).table = s.table.map fun x => if x.slot = i then x.ungranted else x := by
    rw [State.reviseLost, State.ungranted, State.emit_table]; rfl
  obtain ⟨hmem, hmeets⟩ := List.mem_filter.1 (mem_of_mem_byLevel hx)
  rw [htable] at hmem
  obtain ⟨y, hy, rfl⟩ := List.mem_map.1 hmem
  simp only [Bool.and_eq_true, decide_eq_true_eq] at hmeets
  have hstation : y.station = k := by
    obtain ⟨⟨⟨⟨hstation, -⟩, -⟩, -⟩, -⟩ := hmeets
    split at hstation <;> exact hstation
  have hslot := honly y hy hstation
  have hentry := State.entry_of_mem hn hy
  rw [hslot, he] at hentry
  obtain rfl := Option.some.inj hentry
  rw [if_pos hslot]
  rfl

/-- The entry whose REVISE was withdrawn earns no grant again from its latest tick on (R110, R118, R119). -/
theorem State.reviseLost_evaluated {p : Plan} {m : CycleModel} {c : Course} {kind : FoldKind} {tag : Word16} (hn : s.slots.Nodup)
    (he : s.entry i = some e) (honly : ∀ y ∈ s.table, y.station = k → y.slot = i) (hm : (s.st k).model = some m)
    (hp : s.activePlan = some p) (hc : m.basis.course = some c) (hlate : s.offsetPast m (latestOffset kind c.firstEnd) = true)
    (hclass : (kind = .extend ∧ ∃ x, classify p.maxExtension 0 c.intervals (s.st k).minsInForce (tickDiff e.eta m.zeroTick) = .extend x)
      ∨ (kind = .early ∧ ∃ l, classify p.maxExtension 0 c.intervals (s.st k).minsInForce (tickDiff e.eta m.zeroTick) = .early l)) :
    (s.reviseLost k tag i).evaluateTransit k = s.reviseLost k tag i := by
  have hst := s.reviseLost_st (k := k) (i := i) tag
  refine State.evaluateTransit_of_none (m := m) (c := c) (by rw [hst]; exact hm) ((s.reviseLost_activePlan tag).trans hp) hc fun x hx => ?_
  have heta := State.reviseLost_candidate hn he honly hx
  have hpast := (s.reviseLost_offsetPast (k := k) (i := i) tag m (latestOffset kind c.firstEnd)).trans hlate
  obtain ⟨rfl, n, hcl⟩ | ⟨rfl, n, hcl⟩ := hclass
  · exact State.tryGrant_extend_late (by rw [hst, heta]; exact hcl) hpast
  · exact State.tryGrant_early_late (by rw [hst, heta]; exact hcl) hpast

end

/-- An offset that is not after the local time of a tick that is over is past. -/
theorem State.offsetPast_of_over {m : CycleModel} {n : Nat} (hover : s.slotOver = true) (h : (n : Int) ≤ tickDiff s.now m.zeroTick) :
    s.offsetPast m n = true := by
  rw [State.offsetPast, hover, CycleModel.localTime]
  obtain h | h := h.lt_or_eq
  · simp [h]
  · simp [h]

end Sys2Proof.Machine

open Sys2Proof Sys2Proof.Machine

/-- Settles O24: a cycle order goes with its fold's grant, a RELEASE leaves its station FREE and the corridor settled, and a REVISE goes
with its grant, whose entry is then past the decision point of the fold that it would earn. -/
theorem deadlineAndLatestTickEndTheWaiting : Obligations.DeadlineAndLatestTickEndTheWaiting := by
  refine ⟨⟨fun s k o ho hd hover => ⟨fun b hb hf => ?_, fun b f hb hf => ?_, fun hb hstop => ?_⟩,
    fun s k o ho h => exec_orderDeadline_before ho h, fun s k h => exec_orderDeadline_none h⟩,
    fun s k r e hr hd hover he hout hk => ?_, fun s k r hr h => exec_reviseLatest_before hr h, fun s k h => exec_reviseLatest_none h⟩
  · rw [exec_orderDeadline ho hd hover, State.dropOrder_cycle hb, hf]
    rfl
  · have hdrop := State.dropOrder_cycle (s := s) (k := k) hb
    rw [exec_orderDeadline ho hd hover, hdrop, hf]
    intro late
    have htable : late.table = s.table := State.emit_table _ _
    have hentry : late.entry f.slot = s.entry f.slot := by rw [State.entry, htable]; rfl
    refine ⟨fun h => congrArg _ (State.withdrawGrant_delivered fun e he => h e (hentry.symm.trans he)), fun e he hout hk => ?_⟩
    intro u v
    have hv : late.ungranted k e.tag f.slot = v := by
      show (({ late.modSt k (fun t => { t with lockout := 0 }) with
        table := late.table.map fun x => if x.slot = f.slot then x.ungranted else x } : State).emit _) = v
      rw [htable]
      rfl
    have hwithdrawn : late.foldLost (some f) = v.evaluateTransit k := by
      rw [← hv]
      exact State.withdrawGrant_outstanding (hentry.trans he) hout hk
    refine ⟨congrArg _ hwithdrawn, fun hc => congrArg _ (hwithdrawn.trans (State.evaluateTransit_of_still ?_ k))⟩
    rw [← hv, State.ungranted_ps, State.emit_ps]
    exact hc
  · let u := (s.modSt k fun t => { t with order := none }).emit (.orderLate k o.number .release)
    have hps : u.ps = s.ps := State.emit_ps _ _
    have hst (j : StationIx) : u.st j = if j = k then { s.st j with order := none } else s.st j := by
      rw [State.emit_st, State.st_modSt]
    have hrelease (j : StationIx) (hj : j ≠ k) : u.releaseOut j = s.releaseOut j := by
      simp only [State.releaseOut, hst, if_neg hj]
    have hended : u.ReleaseEnded k (u.enterFree k .released).settle :=
      State.releaseEnded (by rw [hps]; exact hstop) (by rw [hst, if_pos rfl])
    refine ⟨_, (exec_orderDeadline ho hd hover).trans (congrArg _ (State.dropOrder_release hb)), hended.order, hended.synced,
      fun hroom => ?_, fun ⟨j, hj, h⟩ => ?_, fun hnone => ?_⟩
    · have hquiet : Quiet u (u.enterFree k .released).settle := (u.enterFree_quiet k .released).trans (State.settle_quiet _)
      obtain ⟨more, hmore⟩ := hquiet.records
      refine ⟨more, ?_⟩
      rw [← hmore, State.emit_records_of_room _ (show (s.modSt k _).eq.records.length < _ from hroom), List.append_assoc]
      rfl
    · obtain ⟨-, hcoord, hsame⟩ := hended.free_of_out ⟨j, hj, (hrelease j hj).trans h⟩
      exact ⟨hcoord, hsame.trans hps⟩
    · rw [hended.idle_of_none fun j hj => (hrelease j hj).trans (hnone j hj)]
      exact State.enterIdle_leaves _
  · intro u v
    have hv : s.reviseLost k e.tag r.slot = v := s.reviseLost_eq k e.tag r.slot
    have hrow : exec (.reviseLatestTickPassed k) s = .next (v.evaluateTransit k) := by
      rw [exec_reviseLatest hr hd hover, ← hv]
      exact congrArg _ (State.withdrawGrant_outstanding (s := s.clearRevise k) he hout hk)
    refine ⟨hrow, fun hc => ?_, fun m p c htable honly hm hp hcourse hsum hE1 => ?_⟩
    · rw [hrow, State.evaluateTransit_of_still]
      rw [← hv, State.reviseLost_ps]
      exact hc
    · intro pos E1 mins X hlow hhigh
      obtain ⟨-, hslots, -⟩ := htable
      rw [hrow, ← hv]
      refine ⟨fun hX hin hlate => congrArg _ (State.reviseLost_evaluated (kind := .extend) hslots he honly hm hp hcourse ?_
        (.inl ⟨rfl, classify_extend_of_late hlow hX hin⟩)), fun hX hfloor hlate => congrArg _
        (State.reviseLost_evaluated (kind := .early) hslots he honly hm hp hcourse ?_ (.inr ⟨rfl, classify_early_of_late hlow ?_ ?_⟩))⟩
      · refine State.offsetPast_of_over hover ?_
        rw [latestOffset, Nat.cast_sub hE1]
        exact hlate
      · refine State.offsetPast_of_over hover ?_
        rw [latestOffset, Nat.cast_sub (by omega)]
        exact hlate
      · change ¬(1 ≤ X ∧ pos < E1 + X)
        omega
      · rw [hsum]
        exact hfloor
end

section
/-! SUPPORT. The priority part of a reply stays aside and gives no station an order (R115 to R129). -/

-- One proof at a time: elaborated in parallel, each proof that waits for an earlier one holds a thread and its stack.
set_option Elab.async false

namespace Sys2Proof.Machine

variable (s : State)

/-- From `s` to `t` nothing but coordination, waiting orders, holds and requests has changed, and no station is given an order. -/
structure Beside (s t : State) : Prop where
  aside : Aside False s t
  order : NoNewOrder s t

namespace Beside

variable {s t u : State}

theorem refl (s : State) : Beside s s := ⟨.refl s, .refl s⟩

theorem trans (h : Beside s t) (h' : Beside t u) : Beside s u := ⟨h.aside.trans h'.aside, h.order.trans h'.order⟩

theorem of_same {kept : Prop} (h : Aside kept s t) (hs : SameOrders s t) : Beside s t := ⟨h.weaken, .of_same hs⟩

theorem of_stations (hcore : t.core = s.core) (hst : t.stations = s.stations) : Beside s t :=
  ⟨.of_stations hcore hst, .of_st (State.st_congr hst)⟩

theorem foldl {α : Type} {f : State → α → State} (hf : ∀ s a, Beside s (f s a)) (l : List α) (s : State) : Beside s (l.foldl f s) := by
  induction l generalizing s with
  | nil => exact .refl s
  | cons a l ih => exact (hf s a).trans (ih _)

end Beside

theorem State.emit_beside (b : EventBody) : Beside s (s.emit b) := ⟨s.emit_aside b, .of_st⟩
theorem State.modEntry_beside (i : SlotIx) (f : Entry → Entry) : Beside s (s.modEntry i f) := .of_stations rfl rfl
theorem State.removeEntry_beside (i : SlotIx) : Beside s (s.removeEntry i) := .of_stations rfl rfl
theorem State.dropUrgent_beside (p : UrgentFrame → Bool) : Beside s (s.dropUrgent p) := .of_stations rfl rfl
theorem State.placeUrgent_beside (k : StationIx) (x : UrgentKind) : Beside s (s.placeUrgent k x) := .of_stations rfl rfl
theorem State.evaluateTransit_beside (k : StationIx) : Beside s (s.evaluateTransit k) :=
  .of_same (s.evaluateTransit_aside (kept := True) k) (s.evaluateTransit_sameOrders k)

theorem State.addEntry_beside (mk : SlotIx → Entry) : Beside s (s.addEntry mk) := by
  obtain ⟨i, -, -, h⟩ | h := State.addEntry_cases s mk <;> rw [h]
  · exact .of_stations rfl rfl
  · exact .refl s

/-! ## The effective hold (R49, R53) -/

theorem State.holdChanged_noNewOrder (k : StationIx) : NoNewOrder s (s.holdChanged k) := by
  have hunsynced : NoNewOrder s (s.modSt k fun t => { t with synced := false, jump := true }) := .modSt fun _ h => h
  unfold State.holdChanged
  dsimp only
  split
  · split
    · split
      · exact s.uncoordinate_noNewOrder k .held .hold
      · exact .refl s
    · split
      · exact hunsynced.trans (State.setCoord_noNewOrder _ _ _ _)
      · exact .refl s
  · exact .refl s

theorem State.rehold_beside (k : StationIx) : Beside s (s.rehold k) := by
  refine ⟨s.rehold_aside k, ?_⟩
  have hheld (b : Bool) : NoNewOrder s (s.modSt k fun t => { t with hold := b }) := .modSt fun _ h => h
  unfold State.rehold
  dsimp only
  split
  · exact .refl s
  · exact (hheld _).trans (State.holdChanged_noNewOrder _ k)

/-! ## Departures (R115, R124, R125, R129) -/

theorem State.letGo_beside (e : Entry) : Beside s (s.letGo e) := by
  refine ⟨s.letGo_aside e, ?_⟩
  have hfold (u : State) : NoNewOrder u (u.modSt e.station fun t =>
      { t with order := t.order.map fun o => { o with body := o.body.map (·.dropFold e.slot) } }) := .modSt fun _ h => by rw [h]; rfl
  unfold State.letGo
  split
  · dsimp only
    split
    · exact (s.clearRevise_noNewOrder _).trans (hfold _)
    · exact hfold _
  · exact .refl s

theorem State.leave_beside (e : Entry) (o : ReqOutcome) : Beside s (s.leave e o) := by
  have hgone : Beside s ((s.emit (.requestEnd e.station o e.grant e.tag)).letGo e) := (s.emit_beside _).trans (State.letGo_beside _ _)
  unfold State.leave
  dsimp only
  split
  · exact (hgone.trans (State.dropUrgent_beside _ _)).trans (State.removeEntry_beside _ _)
  · exact hgone.trans (State.removeEntry_beside _ _)

theorem State.routeEnded_beside (k : StationIx) : Beside s (s.routeEnded k) := by
  have hended : Beside s (s.modSt k fun t => { t with routeActive := false }) :=
    ⟨.modSt rfl (fun _ => rfl) False.elim, .modSt fun _ h => h⟩
  exact hended.trans (State.rehold_beside _ k)

theorem State.endEntry_beside (e : Entry) (o : ReqOutcome) : Beside s (s.endEntry e o) := by
  unfold State.endEntry
  dsimp only
  split
  · exact (s.leave_beside e o).trans (State.routeEnded_beside _ _)
  · exact s.leave_beside e o

theorem State.supersede_beside (k : StationIx) : Beside s (s.supersede k) := by
  unfold State.supersede
  split
  · exact s.endEntry_beside _ _
  · exact .refl s

theorem State.activateEmergency_beside (e : Entry) : Beside s (s.activateEmergency e) :=
  (s.supersede_beside _).trans (State.modEntry_beside _ _ _)

theorem State.takeUp?_beside {k : StationIx} {t : State} (h : s.takeUp? k = some t) : Beside s t := by
  unfold State.takeUp? at h
  split at h
  · split at h
    · cases h
    · split at h
      · cases h; exact s.activateEmergency_beside _
      · split at h
        · cases h; exact (s.placeUrgent_beside _ _).trans (State.modEntry_beside _ _ _)
        · cases h
  · cases h

theorem State.takeUp_beside (k : StationIx) : Beside s (s.takeUp k) := by
  unfold State.takeUp
  cases h : s.takeUp? k with
  | none => exact .refl s
  | some t => exact s.takeUp?_beside h

theorem State.resume_beside (k : StationIx) (a b : Bool) : Beside s (s.resume k a b) := by
  unfold State.resume
  split
  · split
    · next h => exact s.takeUp?_beside h
    · exact s.evaluateTransit_beside k
  · split
    · exact s.takeUp_beside k
    · exact .refl s

theorem State.depart_beside (i : SlotIx) (o : ReqOutcome) : Beside s (s.depart i o) := by
  unfold State.depart
  split
  · exact (s.endEntry_beside _ _).trans (State.resume_beside _ _ _ _)
  · exact .refl s

theorem State.displace_beside (n : Nat) : Beside s (s.displace n) := .foldl (fun s i => s.depart_beside i _) _ s

/-! ## Notices, check-outs and the preempt flag (R116, R123 to R125) -/

theorem State.transitNotice_beside (k : StationIx) (t : Tick) (n : Notice) : Beside s (s.transitNotice k t n) := by
  unfold State.transitNotice
  split
  · split
    · exact (s.addEntry_beside _).trans (State.evaluateTransit_beside _ _)
    · exact s.emit_beside _
  · exact .refl s

theorem State.enterEmergency_beside (k : StationIx) (t : Tick) (n : Notice) : Beside s (s.enterEmergency k t n) := by
  have hunposted (u : State) (e : Entry) : Beside u (u.unpost e) := (u.dropUrgent_beside _).trans (State.modEntry_beside _ _ _)
  unfold State.enterEmergency
  dsimp only
  split
  · exact .refl s
  · split
    · exact s.addEntry_beside _
    · split
      · exact ((s.addEntry_beside _).trans (hunposted _ _)).trans (State.activateEmergency_beside _ _)
      · exact (s.addEntry_beside _).trans (State.activateEmergency_beside _ _)

theorem State.emergencyNotice_beside (k : StationIx) (t : Tick) (n : Notice) : Beside s (s.emergencyNotice k t n) := by
  unfold State.emergencyNotice
  split
  · exact s.enterEmergency_beside k t n
  · split
    · exact s.emit_beside _
    · exact (s.displace_beside _).trans (State.enterEmergency_beside _ k t n)

theorem State.takeNotice_beside (k : StationIx) (t : Tick) (n : Notice) : Beside s (s.takeNotice k t n) := by
  unfold State.takeNotice
  split
  · exact .refl s
  · split
    · exact s.transitNotice_beside k t n
    · exact s.emergencyNotice_beside k t n
    · exact .refl s

theorem State.checkOut_beside (k : StationIx) (tag : Word16) : Beside s (s.checkOut k tag) := by
  unfold State.checkOut
  split
  · exact s.depart_beside _ _
  · exact .refl s

theorem State.observePreempt_beside (k : StationIx) (b : Bool) : Beside s (s.observePreempt k b) := by
  unfold State.observePreempt
  split
  · split
    · exact s.modEntry_beside _ _
    · split
      · exact s.depart_beside _ _
      · exact .refl s
  · exact .refl s

theorem State.takePriority_beside (k : StationIx) (t : Tick) (r : Status) : Beside s (s.takePriority k t r) := by
  have hnotices : Beside s (r.notices.foldl (fun s n => s.takeNotice k t n) s) := .foldl (fun s n => s.takeNotice_beside k t n) _ s
  have houts (u : State) : Beside u (r.checkOuts.foldl (fun s tag => s.checkOut k tag) u) :=
    .foldl (fun s tag => s.checkOut_beside k tag) _ u
  exact (hnotices.trans (houts _)).trans (State.observePreempt_beside _ k _)

end Sys2Proof.Machine
end

section
/-! SUPPORT. What grants, withdrawals and a resynchronisation spare: the emergencies of the request table, the posted PREEMPT frames, the
holds, and the absence of an order (R96 to R98, R107, R112, R118 to R122). -/

-- One proof at a time: elaborated in parallel, each proof that waits for an earlier one holds a thread and its stack.
set_option Elab.async false

namespace Sys2Proof.Machine

variable (s : State)

/-- From the entry `a` to the entry `b` the slot and the class stand, and so does the whole of an emergency with no grant outstanding. -/
structure Entry.Spared (a b : Entry) : Prop where
  slot : b.slot = a.slot
  cls : b.cls = a.cls
  emergency : a.cls = .emergency → a.outstanding = false → b = a

theorem Entry.Spared.refl (a : Entry) : a.Spared a := ⟨rfl, rfl, fun _ _ => rfl⟩

theorem Entry.Spared.trans {a b c : Entry} (h : a.Spared b) (h' : b.Spared c) : a.Spared c where
  slot := h'.slot.trans h.slot
  cls := h'.cls.trans h.cls
  emergency hc ho := by
    obtain rfl := h.emergency hc ho
    exact h'.emergency hc ho

/-- From `s` to `t` the slots in use stand with their classes, and so do the emergencies with no grant outstanding; no PREEMPT is
placed, no hold changes, and no station is given an order. -/
structure Spares (s t : State) : Prop where
  slots : t.slots = s.slots
  entries : s.slots.Nodup → ∀ b ∈ t.table, ∃ a ∈ s.table, a.Spared b
  urgent : ∀ g ∈ t.clc.urgent, g ∈ s.clc.urgent ∨ g.kind = .revise
  hold : ∀ k : StationIx, (t.st k).hold = (s.st k).hold ∧ (t.st k).routeActive = (s.st k).routeActive
  order : NoNewOrder s t

namespace Spares

variable {s t u : State}

theorem trans (h : Spares s t) (h' : Spares t u) : Spares s u where
  slots := h'.slots.trans h.slots
  entries hn c hc := by
    obtain ⟨b, hb, hbc⟩ := h'.entries (h.slots ▸ hn) c hc
    obtain ⟨a, ha, hab⟩ := h.entries hn b hb
    exact ⟨a, ha, hab.trans hbc⟩
  urgent g hg := (h'.urgent g hg).elim (h.urgent g) .inr
  hold k := ⟨(h'.hold k).1.trans (h.hold k).1, (h'.hold k).2.trans (h.hold k).2⟩
  order := h.order.trans h'.order

/-- The requests and URGENT stand. -/
theorem of_stations (hold : ∀ k : StationIx, (t.st k).hold = (s.st k).hold ∧ (t.st k).routeActive = (s.st k).routeActive)
    (order : NoNewOrder s t) (table : t.table = s.table := by rfl) (urgent : t.clc.urgent = s.clc.urgent := by rfl) : Spares s t where
  slots := by rw [State.slots, State.slots, table]
  entries _ b hb := ⟨b, table ▸ hb, .refl b⟩
  urgent g hg := .inl (urgent ▸ hg)
  hold := hold
  order := order

/-- The stations, the requests and URGENT stand. -/
theorem of_same (stations : t.stations = s.stations := by rfl) (table : t.table = s.table := by rfl)
    (urgent : t.clc.urgent = s.clc.urgent := by rfl) : Spares s t :=
  .of_stations (fun k => by rw [State.st_congr stations]; exact ⟨rfl, rfl⟩) (.of_st (State.st_congr stations)) table urgent

theorem refl (s : State) : Spares s s := .of_same

theorem modSt {k : StationIx} {f : Station → Station} (hold : (f (s.st k)).hold = (s.st k).hold := by rfl)
    (route : (f (s.st k)).routeActive = (s.st k).routeActive := by rfl)
    (order : (s.st k).order = none → (f (s.st k)).order = none := by exact id) : Spares s (s.modSt k f) := by
  refine .of_stations (fun j => ?_) fun j hj => ?_
  · rw [State.st_modSt]
    split
    · next h => subst h; exact ⟨hold, route⟩
    · exact ⟨rfl, rfl⟩
  · rw [State.st_modSt]
    split
    · next h => subst h; exact order hj
    · exact hj

/-- An entry changes that is no emergency without an outstanding grant. -/
theorem modEntry {i : SlotIx} {f : Entry → Entry}
    (h : s.slots.Nodup → ∀ a ∈ s.table, a.slot = i → a.cls = .emergency → a.outstanding = true)
    (slot : ∀ e, (f e).slot = e.slot := by exact fun _ => rfl) (cls : ∀ e, (f e).cls = e.cls := by exact fun _ => rfl) :
    Spares s (s.modEntry i f) where
  slots := s.modEntry_slots i slot
  entries hn b hb := by
    obtain ⟨a, ha, rfl⟩ := List.mem_map.1 hb
    refine ⟨a, ha, ?_⟩
    split
    · next hi => exact ⟨slot a, cls a, fun hc ho => absurd ((h hn a ha hi hc).symm.trans ho) Bool.noConfusion⟩
    · exact .refl a
  urgent g hg := .inl hg
  hold _ := ⟨rfl, rfl⟩
  order := .of_st fun _ => rfl

/-- The entry in a slot changes, and it is no emergency without an outstanding grant. -/
theorem modEntry_of_entry {i : SlotIx} {e : Entry} {f : Entry → Entry} (he : s.entry i = some e)
    (h : e.cls = .emergency → e.outstanding = true) (slot : ∀ e, (f e).slot = e.slot := by exact fun _ => rfl)
    (cls : ∀ e, (f e).cls = e.cls := by exact fun _ => rfl) : Spares s (s.modEntry i f) := by
  refine .modEntry (fun hn a ha hi => ?_) slot cls
  have hentry := State.entry_of_mem hn ha
  rw [hi, he] at hentry
  obtain rfl := Option.some.inj hentry
  exact h

end Spares

/-! ## Events, frames and grants (R118 to R122) -/

theorem State.emit_spares (b : EventBody) : Spares s (s.emit b) := .of_same (by simp) (by simp) (by simp)

theorem State.placeRevise_spares (k : StationIx) : Spares s (s.placeUrgent k .revise) where
  slots := rfl
  entries _ b hb := ⟨b, hb, .refl b⟩
  urgent g hg := (List.mem_append.1 hg).imp id fun h => by rw [List.mem_singleton.1 h]
  hold _ := ⟨rfl, rfl⟩
  order := .of_st fun _ => rfl

theorem State.dropUrgent_spares (p : UrgentFrame → Bool) : Spares s (s.dropUrgent p) where
  slots := rfl
  entries _ b hb := ⟨b, hb, .refl b⟩
  urgent _ hg := .inl (List.mem_of_mem_filter hg)
  hold _ := ⟨rfl, rfl⟩
  order := .of_st fun _ => rfl

theorem State.setLockout_spares (k : StationIx) (n : Nat) : Spares s (s.setLockout k n) := .modSt

/-- The entry is a TRANSIT entry of the table. -/
def State.HasTransit (s : State) (e : Entry) : Prop := e ∈ s.table ∧ e.cls = .transit

theorem State.candidates_hasTransit {k : StationIx} {z : Tick} {L : Nat} : ∀ e ∈ s.candidates k z L, s.HasTransit e := by
  intro e he
  obtain ⟨hmem, h⟩ := List.mem_filter.1 (mem_of_mem_byLevel he)
  simp only [Bool.and_eq_true, decide_eq_true_eq] at h
  obtain ⟨⟨⟨⟨-, hcls⟩, -⟩, -⟩, -⟩ := h
  exact ⟨hmem, hcls⟩

theorem State.grantEntry_spares {e : Entry} (he : s.HasTransit e) (g : GrantKind) (b : Bool) : Spares s (s.grantEntry e g b) := by
  obtain ⟨hmem, hcls⟩ := he
  refine Spares.trans (.modEntry fun hn a ha hslot hc => ?_) (State.emit_spares _ _)
  obtain rfl := List.inj_on_of_nodup_map hn ha hmem hslot
  rw [hcls] at hc
  cases hc

theorem State.tryGrant_spares {k : StationIx} {p : Plan} {m : CycleModel} {c : Course} {e : Entry} {t : State} (he : s.HasTransit e)
    (h : s.tryGrant k p m c e = some t) : Spares s t := by
  unfold State.tryGrant at h
  dsimp only at h
  split at h
  · cases h; exact s.grantEntry_spares he _ _
  · cases h
  · split at h
    · cases h
    · simp only [Option.map_eq_some_iff] at h
      obtain ⟨r, -, rfl⟩ := h
      have hrevise : Spares s (s.modSt k fun t => { t with revise := some r }) := .modSt
      refine ((hrevise.trans (State.placeRevise_spares _ k)).trans (State.setLockout_spares _ k p.lockout)).trans ?_
      refine State.grantEntry_spares _ ?_ _ _
      exact he

theorem State.grantFirst_spares (k : StationIx) (p : Plan) (m : CycleModel) (c : Course) {l : List Entry}
    (hl : ∀ e ∈ l, s.HasTransit e) : Spares s (s.grantFirst k p m c l) := by
  induction l with
  | nil => exact .refl s
  | cons e es ih =>
    unfold State.grantFirst
    cases h : s.tryGrant k p m c e with
    | none => exact ih fun x hx => hl x (List.mem_cons_of_mem e hx)
    | some t => exact s.tryGrant_spares (hl e List.mem_cons_self) h

theorem State.evaluateTransit_spares (k : StationIx) : Spares s (s.evaluateTransit k) := by
  unfold State.evaluateTransit
  dsimp only
  split
  · split
    · split
      · exact s.grantFirst_spares k _ _ _ s.candidates_hasTransit
      · exact .refl s
    · exact .refl s
  · exact .refl s

theorem State.withdrawGrant_spares (i : SlotIx) : Spares s (s.withdrawGrant i) := by
  unfold State.withdrawGrant
  split
  · next e he =>
    split
    · next ho =>
      exact (((Spares.modEntry_of_entry he fun _ => ho).trans (State.setLockout_spares _ _ _)).trans (State.emit_spares _ _)).trans
        (State.evaluateTransit_spares _ _)
    · exact .refl s
  · exact .refl s

theorem State.foldLost_spares (f : Option Fold) : Spares s (s.foldLost f) := by
  cases f
  · exact .refl s
  · exact s.withdrawGrant_spares _

theorem State.foldFirst_spares (k : StationIx) (p : Plan) (z : Tick) (ivs : List Nat) {l : List Entry} (hl : ∀ e ∈ l, s.HasTransit e) :
    Spares s (s.foldFirst k p z ivs l).1 := by
  induction l with
  | nil => exact .refl s
  | cons e es ih =>
    have he := hl e List.mem_cons_self
    unfold State.foldFirst
    dsimp only
    split
    · exact s.grantEntry_spares he _ _
    · exact ih fun x hx => hl x (List.mem_cons_of_mem e hx)
    · split
      · exact .refl s
      · refine (s.setLockout_spares k p.lockout).trans ?_
        refine State.grantEntry_spares _ ?_ _ _
        exact he

theorem State.offerFold_spares (k : StationIx) (p : Plan) (z : Tick) (ivs : List Nat) : Spares s (s.offerFold k p z ivs).1 := by
  unfold State.offerFold
  split
  · exact s.foldFirst_spares k p z ivs s.candidates_hasTransit
  · exact .refl s

theorem State.refold_spares (k : StationIx) (p : Plan) (z : Tick) (ivs : List Nat) (f : Fold) : Spares s (s.refold k p z ivs f).1 := by
  unfold State.refold
  split
  · exact .refl s
  · next e he =>
    obtain ⟨hentry, hcls⟩ := Option.filter_eq_some_iff.1 he
    have hno : e.cls = .emergency → e.outstanding = true := fun hc => by
      rw [of_decide_eq_true hcls] at hc; cases hc
    dsimp only
    split
    · exact s.withdrawGrant_spares _
    · split
      · exact .modEntry_of_entry hentry hno
      · exact (Spares.modEntry_of_entry hentry hno).trans (State.setLockout_spares _ _ _)

theorem State.refolded_spares (k : StationIx) (p : Plan) (z : Tick) (ivs : List Nat) (f : Option Fold) :
    Spares s (s.refolded k p z ivs f).1 := by
  cases f
  · exact s.offerFold_spares k p z ivs
  · exact s.refold_spares k p z ivs _

/-! ## Withdrawals and the effective hold (R48, R49, R106, R112) -/

theorem State.withdrawOrder_spares (k : StationIx) : Spares s (s.withdrawOrder k) := by
  rw [State.withdrawOrder_eq]
  refine Spares.trans (.modSt ?_ ?_ fun h => ?_) (State.foldLost_spares _ _)
  · rw [Station.withoutCycleOrder_eq]
  · rw [Station.withoutCycleOrder_eq]
  · unfold Station.withoutCycleOrder
    split
    · rfl
    · exact h

theorem State.clearRevise_spares (k : StationIx) : Spares s (s.clearRevise k) := Spares.trans .modSt (State.dropUrgent_spares _ _)

theorem State.withdrawRevise_spares (k : StationIx) : Spares s (s.withdrawRevise k) := by
  unfold State.withdrawRevise
  split
  · exact (s.clearRevise_spares k).trans (State.withdrawGrant_spares _ _)
  · exact .refl s

theorem State.setCoord_spares (k : StationIx) (c : Coord) (x : StateCause) : Spares s (s.setCoord k c x) := by
  unfold State.setCoord
  split
  · exact .refl s
  · exact Spares.trans .modSt (State.emit_spares _ _)

theorem State.holdChanged_spares (k : StationIx) : Spares s (s.holdChanged k) := by
  have hunsynced (u : State) : Spares u (u.modSt k (·.unsynced)) := .modSt
  have hseeking : Spares s (s.modSt k fun t => { t with synced := false, jump := true }) := .modSt
  unfold State.holdChanged
  dsimp only
  split
  · split
    · split
      · exact (((s.setCoord_spares k _ _).trans (hunsynced _)).trans (State.withdrawOrder_spares _ k)).trans
          (State.withdrawRevise_spares _ k)
      · exact .refl s
    · split
      · exact hseeking.trans (State.setCoord_spares _ _ _ _)
      · exact .refl s
  · exact .refl s

/-! ## The cycle part of a reply (R78, R83 to R85, R96 to R98, R107, R112) -/

theorem State.tidalEvaluation_spares : Spares s s.tidalEvaluation := by
  unfold State.tidalEvaluation
  dsimp only
  split
  · exact .refl s
  · split
    · exact Spares.trans (.of_same (t := { s with mu := _ })) (State.emit_spares _ _)
    · exact .refl s

theorem State.tidalZero_spares : Spares s s.tidalZero := by
  unfold State.tidalZero
  dsimp only
  split
  · exact Spares.trans (.of_same (t := { s with mu := _ })) (State.tidalEvaluation_spares _)
  · exact .of_same

theorem State.handOn_spares (k : StationIx) : Spares s (s.handOn k) := by
  have hage : Spares s (s.modSt k fun t => { t with age := min Config.sampleLife (t.age + 1) }) := .modSt
  have hend (u : State) : Spares u ((u.modSt k fun t => { t with lockout := t.lockout - 1 }).evaluateTransit k) :=
    Spares.trans .modSt (State.evaluateTransit_spares _ _)
  unfold State.handOn
  dsimp only
  split
  · exact (hage.trans (State.tidalZero_spares _)).trans (hend _)
  · exact hage.trans (hend _)

theorem State.takeZero_spares (k : StationIx) (m : CycleModel) (n : Byte) (t : Tick) : Spares s (s.takeZero k m n t) := by
  have hmodel : Spares s (s.modSt k fun x => { x with model := some (m.zero n t) }) := .modSt
  unfold State.takeZero
  dsimp only
  split
  · exact hmodel
  · exact hmodel.trans (State.handOn_spares _ _)

/-- A waiting order is rebuilt where there is one. -/
theorem State.rebuildOrder_spares {k : StationIx} {o : WaitingOrder} (b : OrderBody) (p : Plan) (z : Tick)
    (h : (s.st k).order = some o) : Spares s (s.rebuildOrder k o b p z) := by
  obtain ⟨d, heq⟩ := s.rebuildOrder_eq k o b p z
  rw [heq]
  have hnoted (c : Option Correction) : Spares s (s.modSt k fun t => { t with lastError := some d, correction := c }) := .modSt
  have hrefolded := State.refolded_spares (s.modSt k fun t => { t with
    lastError := some d, correction := some (transition p k (s.st k).minsInForce d).correction }) k p z
    (transition p k (s.st k).minsInForce d).intervals b.fold
  have hsame := State.refolded_sameOrders (s.modSt k fun t => { t with
    lastError := some d, correction := some (transition p k (s.st k).minsInForce d).correction }) k p z
    (transition p k (s.st k).minsInForce d).intervals b.fold k
  obtain ⟨-, -, horder⟩ := hsame
  rw [State.st_modSt_same] at horder
  refine ((hnoted _).trans hrefolded).trans (.modSt rfl rfl fun hnone => ?_)
  have hsome := (hnone.symm.trans horder).symm
  rw [show (s.st k).order = none from hsome] at h
  cases h

theorem State.orderAfterResync_spares (k : StationIx) : Spares s (s.orderAfterResync k) := by
  have hlate (e : EventBody) (f : Option Fold) : Spares s (((s.modSt k fun t => { t with order := none }).emit e).foldLost f) :=
    (Spares.trans (.modSt rfl rfl fun _ => rfl) (State.emit_spares _ _)).trans (State.foldLost_spares _ _)
  unfold State.orderAfterResync
  dsimp only
  split
  · next o m ho hm =>
    split
    · exact .refl s
    · split
      · exact hlate _ _
      · split
        · exact .refl s
        · split
          · exact hlate _ _
          · split
            · exact .modSt rfl rfl fun h => by rw [h] at ho; cases ho
            · split
              · exact s.rebuildOrder_spares _ _ _ ho
              · exact .refl s
  · exact .refl s

theorem State.reviseAfterResync_spares (k : StationIx) : Spares s (s.reviseAfterResync k) := by
  unfold State.reviseAfterResync
  dsimp only
  split
  · split
    · exact s.withdrawRevise_spares k
    · exact .modSt
  · exact .refl s

theorem State.resync_spares (k : StationIx) (m : CycleModel) (t : Tick) (n : Byte) (c : Nat) (w : Bool) :
    Spares s (s.resync k m t n c w) := by
  have hmodel (u : State) (f : CycleModel → CycleModel) : Spares u (u.modModel k f) := .modSt
  have hend (u : State) : Spares u (((((u.modSt k fun t => { t with synced := t.synced || t.coord = .seeking }).markResync k t)
      ).orderAfterResync k).reviseAfterResync k) := by
    have hsync : Spares u (u.modSt k fun t => { t with synced := t.synced || t.coord = .seeking }) := .modSt
    have hmark (v : State) : Spares v (v.markResync k t) := by rw [State.markResync_notes]; exact .of_same
    exact ((hsync.trans (hmark _)).trans (State.orderAfterResync_spares _ k)).trans (State.reviseAfterResync_spares _ k)
  have hstepped : Spares s (if 0 < numberStep n m.number then s.takeZero k m n t
      else if numberStep n m.number < 0 then s.modModel k fun m => { m with number := n, next := none } else s) := by
    split
    · exact s.takeZero_spares k m n t
    · split
      · exact hmodel _ _
      · exact .refl s
  unfold State.resync
  dsimp only
  refine Spares.trans ?_ (hend _)
  split
  · exact (hstepped.trans (hmodel _ _)).trans (State.emit_spares _ _)
  · exact hstepped.trans (hmodel _ _)

theorem State.cyclePart_spares (k : StationIx) (t : Tick) (n : Byte) (c : Nat) (w : Bool) : Spares s (s.cyclePart k t n c w) := by
  have hcreated : Spares s (s.createModel k t n c) := by
    unfold State.createModel
    exact .modSt
  unfold State.cyclePart
  dsimp only
  split
  · exact hcreated
  · split
    · exact s.resync_spares k _ t n c w
    · exact .refl s

/-! ## The link state and the measurements of a reply (R73, R77, R142) -/

theorem State.linkSuccess_spares (k : StationIx) : Spares s (s.linkSuccess k) := by
  have honline : Spares s (s.modSt k fun t => { t with link := .online, misses := 0, ackMark := true }) := .modSt
  unfold State.linkSuccess
  dsimp only
  split
  · exact honline.trans (State.emit_spares _ _)
  · exact honline

theorem State.takeMeasures_spares (k : StationIx) (r : Status) : Spares s (s.takeMeasures k r) := by
  have hsample : Spares s (s.modSt k (·.takeSample r)) := by
    refine .modSt ?_ ?_ fun h => ?_
    · rw [Station.takeSample_eq]
    · rw [Station.takeSample_eq]
    · rw [Station.takeSample_eq]; exact h
  unfold State.takeMeasures State.takeCounts
  split
  · exact hsample.trans .of_same
  · exact hsample

end Sys2Proof.Machine
end

section
/-! SUPPORT. What a reply leaves of the state in which the frame was delivered (R51, R53, R73, R96, R137, R142). -/

-- One proof at a time: elaborated in parallel, each proof that waits for an earlier one holds a thread and its stack.
set_option Elab.async false

namespace Sys2Proof.Machine

variable (s : State)

/-! ## The parts of an accepted reply (R137) -/

/-- The link state of a station whose reply was accepted (R142, R143). -/
def State.acknowledged (k : StationIx) : State := s.modSt k fun t => { t with link := .online, misses := 0, ackMark := true }

/-- The queue and count fields and the cycle part of a reply, in either order. -/
def State.partsTaken (x : Exchange) (r : Status) (wasSynced queuesFirst : Bool) : State :=
  if queuesFirst then (s.takeMeasures x.station r).cyclePart x.station x.slotTick r.number r.time wasSynced
  else (s.cyclePart x.station x.slotTick r.number r.time wasSynced).takeMeasures x.station r

/-- The flags of a reply and the return of the link, in either order. -/
def State.flagsTaken (k : StationIx) (r : Status) (back returnFirst : Bool) : State :=
  if returnFirst then (s.linkReturn k back).takeFlags k r else (s.takeFlags k r).linkReturn k back

/-- What follows the delivery in a successful exchange (R137, steps 2 and 3). -/
def State.replyTaken (x : Exchange) (r : Status) (a b : Bool) : State :=
  (((s.linkSuccess x.station).flagsTaken x.station r ((s.st x.station).link = .lost) a).partsTaken x r (s.st x.station).synced b).takePriority
    x.station x.slotTick r

theorem State.exchangeSucceeded_eq (x : Exchange) (r : Status) (a b : Bool) :
    s.exchangeSucceeded x r a b = (s.deliver x).replyTaken x r a b := rfl

variable {s} {k : StationIx} {x : Exchange} {r : Status} {a b w : Bool}

theorem exec_exchangeEnd {cfg : StationConfig} {heard : List Byte} (h : s.replied x cfg heard r) :
    exec (.exchangeEnd heard a b) s = .next ((s.deliver x).replyTaken x r a b).clearExchange := by
  obtain ⟨hx, hd, hc, hr⟩ := h
  show execExchangeEnd heard a b s = _
  rw [execExchangeEnd, hx]
  show Host.Outcome.next (s.takeResult x heard a b).clearExchange = _
  rw [State.takeResult, hd, hc]
  dsimp only
  rw [hr]
  rfl

/-! ## A reply gives no station an order -/

theorem State.leaveFree_noNewOrder (s : State) (k : StationIx) (x : StateCause) : NoNewOrder s (s.leaveFree k x) := by
  have hunsynced : NoNewOrder s (s.modSt k fun t => { t.unsynced with jump := true }) := .modSt fun _ h => h
  unfold State.leaveFree
  dsimp only
  split
  · exact hunsynced.trans (State.setCoord_noNewOrder _ _ _ _)
  · exact .refl s

theorem State.takeFlags_noNewOrder (s : State) (k : StationIx) (r : Status) : NoNewOrder s (s.takeFlags k r) := by
  have hflags : NoNewOrder s (s.modSt k fun t => { t with manualFlag := r.manual, preemptFlag := r.preempt }) := .modSt fun _ h => h
  exact hflags.trans (State.rehold_beside _ k).order

theorem State.flagsTaken_noNewOrder (s : State) (k : StationIx) (r : Status) (back a : Bool) :
    NoNewOrder s (s.flagsTaken k r back a) := by
  have hreturn (u : State) : NoNewOrder u (u.linkReturn k back) := by
    unfold State.linkReturn
    split
    · exact (u.leaveFree_noNewOrder k _).trans (State.takeUp_beside _ k).order
    · exact .refl u
  unfold State.flagsTaken
  split
  · exact (hreturn s).trans (State.takeFlags_noNewOrder _ k r)
  · exact (s.takeFlags_noNewOrder k r).trans (hreturn _)

theorem State.partsTaken_spares (s : State) (x : Exchange) (r : Status) (w b : Bool) : Spares s (s.partsTaken x r w b) := by
  unfold State.partsTaken
  split
  · exact (s.takeMeasures_spares _ r).trans (State.cyclePart_spares _ _ _ _ _ _)
  · exact (s.cyclePart_spares _ _ _ _ _).trans (State.takeMeasures_spares _ _ r)

theorem State.replyTaken_noNewOrder (s : State) (x : Exchange) (r : Status) (a b : Bool) : NoNewOrder s (s.replyTaken x r a b) :=
  (((s.linkSuccess_spares _).order.trans (State.flagsTaken_noNewOrder _ _ r _ a)).trans (State.partsTaken_spares _ x r _ b).order).trans
    (State.takePriority_beside _ _ _ r).order

theorem State.replyTaken_stays (s : State) (x : Exchange) (r : Status) (a b : Bool) : Stays s (s.replyTaken x r a b) :=
  State.exchangeSucceeded_stays s { x with frame := .poll } r a b

theorem State.replyTaken_quiet (s : State) (x : Exchange) (r : Status) (a b : Bool) : Quiet s (s.replyTaken x r a b) :=
  State.exchangeSucceeded_quiet s { x with frame := .poll } r a b

/-! ## Behind a link that was ONLINE (R142) -/

theorem State.linkSuccess_of_online (h : (s.st k).link = .online) : s.linkSuccess k = s.acknowledged k := by
  rw [State.linkSuccess, h]
  rfl

theorem State.flagsTaken_of_online : s.flagsTaken k r false a = s.takeFlags k r := by
  unfold State.flagsTaken
  split <;> rfl

/-- With the link ONLINE nothing returns: the flags, then the queue and count fields and the cycle part, then the priority part. -/
theorem State.replyTaken_of_online (h : (s.st x.station).link = .online) : s.replyTaken x r a b
    = (((s.acknowledged x.station).takeFlags x.station r).partsTaken x r (s.st x.station).synced b).takePriority
        x.station x.slotTick r := by
  have hback : decide ((s.st x.station).link = .lost) = false := by rw [h]; rfl
  rw [State.replyTaken, State.linkSuccess_of_online h, hback, State.flagsTaken_of_online]

theorem State.acknowledged_st : (s.acknowledged k).st k = { s.st k with link := .online, misses := 0, ackMark := true } :=
  s.st_modSt_same k _

/-! ## A cycle part that agrees with the model (R51, R96) -/

theorem numberStep_self (n : Byte) : numberStep n n = 0 := by rw [numberStep, Int.sub_self]; rfl

theorem State.cyclePart_of_agrees {m : CycleModel} {tick : Tick} (h : s.agrees k tick m r) :
    s.cyclePart k tick r.number r.time w = s := by
  obtain ⟨hm, hn, hd, hsync, hbasis⟩ := h
  have hnot : ¬(numberStep r.number m.number ≠ 0 ∨ Config.driftTolerance < (m.timeDifference tick r.time).natAbs
      ∨ ((s.st k).coord = .seeking ∧ (s.st k).synced = false) ∨ (m.basis = .none ∧ s.activePlan.isSome = true)) := by
    rintro (hstep | hdrift | ⟨hseeking, hunsynced⟩ | ⟨hnone, hactive⟩)
    · exact hstep (by rw [hn, numberStep_self])
    · exact absurd hd (Nat.not_le.2 hdrift)
    · rw [hsync hseeking] at hunsynced; cases hunsynced
    · rw [hbasis hnone] at hactive; cases hactive
  unfold State.cyclePart
  dsimp only
  rw [hm]
  refine if_neg fun hcond => hnot ?_
  simpa [or_assoc] using hcond

theorem State.takeMeasures_eq (s : State) (k : StationIx) (r : Status) : s.takeMeasures k r
    = { s.modSt k (·.takeSample r) with mu := (s.takeMeasures k r).mu } := by
  unfold State.takeMeasures State.takeCounts
  split <;> rfl

theorem State.takeMeasures_st (s : State) (k j : StationIx) (r : Status) :
    (s.takeMeasures k r).st j = if j = k then (s.st j).takeSample r else s.st j := by
  rw [State.takeMeasures_eq]
  exact s.st_modSt j k (·.takeSample r)

theorem State.agrees.takeMeasures {m : CycleModel} {tick : Tick} (h : s.agrees k tick m r) :
    (s.takeMeasures k r).agrees k tick m r := by
  have hactive : (s.takeMeasures k r).activePlan = s.activePlan := by rw [State.takeMeasures_eq]; rfl
  rw [State.agrees, State.takeMeasures_st, if_pos rfl, hactive, Station.takeSample_eq]
  exact h

theorem State.partsTaken_of_agrees {m : CycleModel} (h : s.agrees x.station x.slotTick m r) :
    s.partsTaken x r w b = s.takeMeasures x.station r := by
  unfold State.partsTaken
  split
  · exact State.cyclePart_of_agrees h.takeMeasures
  · rw [State.cyclePart_of_agrees h]

/-! ## A reply that changes no hold and brings no request (R53, R125) -/

theorem State.rehold_of_same (h : (s.st k).hold = s.anySource k) : s.rehold k = s := if_pos h

/-- The hold sources read the host hold, the flags, the route flag and the configuration of the station, beside the incident input. -/
theorem State.anySource_congr {s t : State} (hl : t.hl = s.hl) (host : (t.st k).hostHold = (s.st k).hostHold)
    (manual : (t.st k).manualFlag = (s.st k).manualFlag) (preempt : (t.st k).preemptFlag = (s.st k).preemptFlag)
    (route : (t.st k).routeActive = (s.st k).routeActive) (config : (t.st k).config = (s.st k).config) :
    t.anySource k = s.anySource k := by
  simp only [State.anySource, State.sources, State.incidentActive, Station.honours, Station.gated, hl, host, manual, preempt, route, config]

theorem State.takeFlags_of_steady (h : s.steady k r) : s.takeFlags k r = s := by
  obtain ⟨-, hmanual, hpreempt, hhold⟩ := h
  have hflags : (s.modSt k fun t => { t with manualFlag := r.manual, preemptFlag := r.preempt }) = s :=
    s.modSt_self (by rw [← hmanual, ← hpreempt])
  rw [State.takeFlags, hflags, State.rehold_of_same hhold]

theorem State.steady.acknowledged (h : s.steady k r) : (s.acknowledged k).steady k r := by
  obtain ⟨-, hmanual, hpreempt, hhold⟩ := h
  have hsource : (s.acknowledged k).anySource k = s.anySource k := by
    refine State.anySource_congr rfl ?_ ?_ ?_ ?_ ?_ <;> rw [State.acknowledged_st]
  rw [State.steady, hsource, State.acknowledged_st]
  exact ⟨rfl, hmanual, hpreempt, hhold⟩

theorem State.agrees.acknowledged {m : CycleModel} {tick : Tick} (h : s.agrees k tick m r) :
    (s.acknowledged k).agrees k tick m r := by
  rw [State.agrees, State.acknowledged_st]
  exact h

theorem State.takePriority_of_quiet {tick : Tick} (hn : r.notices = []) (ho : r.checkOuts = []) (h : s.activeEmergency k = none) :
    s.takePriority k tick r = s := by
  rw [State.takePriority, hn, ho]
  show s.observePreempt k r.preempt = s
  rw [State.observePreempt, h]

/-- A steady reply without requests that agrees with the model: the link's counts and the sample change alone. -/
theorem State.replyTaken_of_steady {m : CycleModel} (hs : s.steady x.station r) (ha : s.agrees x.station x.slotTick m r)
    (hn : r.notices = []) (ho : r.checkOuts = []) (h : s.activeEmergency x.station = none) :
    s.replyTaken x r a b = (s.acknowledged x.station).takeMeasures x.station r := by
  rw [State.replyTaken_of_online hs.1, State.takeFlags_of_steady hs.acknowledged, State.partsTaken_of_agrees ha.acknowledged]
  refine State.takePriority_of_quiet hn ho ?_
  rw [State.takeMeasures_eq]
  exact h

/-- What such a reply leaves. -/
theorem State.measured_spares (s : State) (k : StationIx) (r : Status) :
    let t := (s.acknowledged k).takeMeasures k r
    (t.st k).model = (s.st k).model ∧ (t.st k).revise = (s.st k).revise ∧ (t.st k).order = (s.st k).order
      ∧ (t.st k).lockout = (s.st k).lockout ∧ t.clc = s.clc ∧ t.table = s.table ∧ t.eq = s.eq ∧ t.hli = s.hli := by
  intro t
  have hst : t.st k = ({ s.st k with link := .online, misses := 0, ackMark := true } : Station).takeSample r := by
    rw [State.takeMeasures_st, if_pos rfl, State.acknowledged_st]
  have hframe : t = _ := (s.acknowledged k).takeMeasures_eq k r
  rw [hst, Station.takeSample_eq]
  refine ⟨rfl, rfl, rfl, rfl, ?_, ?_, ?_, ?_⟩ <;> rw [hframe] <;> rfl

end Sys2Proof.Machine
end

section
/-! SUPPORT. The deliveries of a cycle order, a REVISE and a RELEASE, followed through the reply that reports them (R43, R86, R87, R104,
R109, R112, R122, R137). -/

-- One proof at a time: elaborated in parallel, each proof that waits for an earlier one holds a thread and its stack.
set_option Elab.async false

namespace Sys2Proof.Machine

variable {s : State} {k : StationIx} {x : Exchange} {r : Status} {a b : Bool}

/-! ## A cycle order (R86, R104) -/

theorem State.stillWaiting_of_order {o : WaitingOrder} (h : (s.st k).order = some o) : s.stillWaiting k o = true := by
  rw [State.stillWaiting, h]
  simp

theorem State.foldDelivered_st (s : State) (f : Option Fold) (j : StationIx) : (s.foldDelivered f).st j = s.st j := by
  cases f <;> rfl

theorem CycleModel.ordered_next {m : CycleModel} {n : Byte} (h : n = m.number + 1) (c : Course) :
    m.ordered n c = { m with next := some { number := n, course := c } } := if_pos h

/-- A waiting cycle order for the model's next number is absent when it is delivered, and the ordered next. -/
theorem State.deliverOrder_st {o : WaitingOrder} {body : OrderBody} {m : CycleModel} (ho : (s.st k).order = some o)
    (hm : (s.st k).model = some m) (hn : o.number = m.number + 1) : (s.deliverOrder k o body).st k
      = { s.st k with order := none, model := some { m with next := some { number := o.number, course := body.course } } } := by
  rw [State.deliverOrder, State.foldDelivered_st, State.stillWaiting_of_order ho, State.clearOrder, if_pos rfl, State.modModel,
    State.st_modSt_same, State.st_modSt_same, ← CycleModel.ordered_next hn, hm]
  rfl

/-- A changed hold that ends none leaves no station newly SEEKING (R49). -/
theorem State.holdChanged_synced (hh : (s.st k).coord ≠ .held) (hs : (s.st k).coord = .seeking → (s.st k).synced = true) :
    ((s.holdChanged k).st k).coord = .seeking → ((s.holdChanged k).st k).synced = true := by
  unfold State.holdChanged
  dsimp only
  split
  · split
    · split
      · obtain ⟨hcoord, -⟩ := State.withdrawn_coord ((s.setCoord k .held .hold).modSt k (·.unsynced)) k k
        rw [State.st_modSt_same, State.setCoord_st, if_pos rfl] at hcoord
        exact fun h => absurd (hcoord.symm.trans h) Coord.noConfusion
      · exact hs
    · exact hs
  · exact hs

theorem State.takeFlags_synced (r : Status) (hh : (s.st k).coord ≠ .held) (hs : (s.st k).coord = .seeking → (s.st k).synced = true) :
    ((s.takeFlags k r).st k).coord = .seeking → ((s.takeFlags k r).st k).synced = true := by
  let u := s.modSt k fun t => { t with manualFlag := r.manual, preemptFlag := r.preempt }
  have hu : u.st k = { s.st k with manualFlag := r.manual, preemptFlag := r.preempt } := s.st_modSt_same k _
  show ((u.rehold k).st k).coord = .seeking → ((u.rehold k).st k).synced = true
  unfold State.rehold
  dsimp only
  split
  · rw [hu]; exact hs
  · refine State.holdChanged_synced ?_ ?_ <;> rw [State.st_modSt_same, hu]
    · exact hh
    · exact hs

theorem State.takeFlags_rest (s : State) (k : StationIx) (r : Status) :
    ((s.takeFlags k r).st k).model = (s.st k).model ∧ (s.takeFlags k r).ps = s.ps := by
  let u := s.modSt k fun t => { t with manualFlag := r.manual, preemptFlag := r.preempt }
  have hu : u.st k = { s.st k with manualFlag := r.manual, preemptFlag := r.preempt } := s.st_modSt_same k _
  have haside : Aside False u (s.takeFlags k r) := u.rehold_aside k
  have hmodel := haside.field (·.model) (fun _ => rfl) k
  rw [hu] at hmodel
  exact ⟨hmodel, haside.ps⟩

/-- After a reply that agrees with the model and may change the hold, the model stands and no order has come. -/
theorem State.replyTaken_of_agrees {m : CycleModel} (hl : (s.st x.station).link = .online)
    (ha : s.agrees x.station x.slotTick m r) (hh : (s.st x.station).coord ≠ .held) :
    ((s.replyTaken x r a b).st x.station).model = some m
      ∧ ((s.st x.station).order = none → ((s.replyTaken x r a b).st x.station).order = none) := by
  refine ⟨?_, s.replyTaken_noNewOrder x r a b x.station⟩
  let u := (s.acknowledged x.station).takeFlags x.station r
  obtain ⟨hm, hn, hd, hsync, hbasis⟩ := ha.acknowledged
  obtain ⟨hmodel, hps⟩ := (s.acknowledged x.station).takeFlags_rest x.station r
  have hactive : u.activePlan = (s.acknowledged x.station).activePlan := by simp only [State.activePlan, State.slot, u, hps]
  have hu : u.agrees x.station x.slotTick m r := by
    refine ⟨hmodel.trans hm, hn, hd, State.takeFlags_synced r ?_ hsync, hactive ▸ hbasis⟩
    rw [State.acknowledged_st]
    exact hh
  rw [State.replyTaken_of_online hl, State.partsTaken_of_agrees hu]
  have hkept := (State.takePriority_beside (u.takeMeasures x.station r) x.station x.slotTick r).aside.field (·.model) (fun _ => rfl)
    x.station
  rw [hkept, State.takeMeasures_st, if_pos rfl, Station.takeSample_eq]
  exact hmodel.trans hm

/-! ## A REVISE (R87, R112, R122) -/

theorem tickAdd_tickAdd (t : Tick) (i j : Int) : tickAdd (tickAdd t i) j = tickAdd t (i + j) := by
  rw [tickAdd, tickAdd, tickAdd, BitVec.ofInt_add, BitVec.add_assoc]

/-- A waiting cycle order for the model's next cycle has the deadline that the next zero gives it (R87). -/
def WaitingOrder.retimed (o : WaitingOrder) (m : CycleModel) (zero : Tick) : WaitingOrder :=
  if !o.release && o.number = nextNumber m.number then { o with deadline := tickAdd zero (-(Config.orderDeadlineLead : Int)) } else o

theorem State.modSt_congr {f g : Station → Station} (h : f (s.st k) = g (s.st k)) : s.modSt k f = s.modSt k g :=
  congrArg (fun y => { s with stations := s.stations.set k y }) h

theorem State.retimeOrder_eq {m : CycleModel} {zero : Tick} (hm : (s.st k).model = some m) (hz : m.nextZero = some zero) :
    s.retimeOrder k = s.modSt k fun t => { t with order := t.order.map (·.retimed m zero) } := by
  have hsame (y : Option WaitingOrder) (hy : y = (s.st k).order) : s = s.modSt k fun t => { t with order := y } :=
    (s.modSt_self (by rw [hy])).symm
  rw [State.retimeOrder, hm]
  cases ho : (s.st k).order with
  | none => exact (hsame none ho.symm).trans (State.modSt_congr (by rw [ho]; rfl))
  | some o =>
    dsimp only
    rw [hz]
    dsimp only
    split
    · next h => exact State.modSt_congr (by rw [ho, Option.map_some, WaitingOrder.retimed, if_pos h])
    · next h => exact (hsame (some o) ho.symm).trans (State.modSt_congr (by rw [ho, Option.map_some, WaitingOrder.retimed, if_neg h]))

theorem State.clearRevise_st : (s.clearRevise k).st k = { s.st k with revise := none } :=
  s.st_modSt_same k fun t => { t with revise := none }

/-- The REVISE delivered for the model's own cycle: the state before the reply's parts. -/
def State.reviseTaken (s : State) (k : StationIx) (v : WaitingRevise) : State :=
  (((s.clearRevise k).modModel k (·.revised v.course)).retimeOrder k).grantDelivered v.slot

theorem State.deliverRevise_same {v : WaitingRevise} {f : UrgentFrame} {m : CycleModel} (hf : f ∈ s.clc.urgent)
    (hm : (s.st k).model = some m) (hn : v.number = m.number) : s.deliverRevise k v f = s.reviseTaken k v := by
  have hcontains : s.clc.urgent.contains f = true := List.contains_iff_mem.2 hf
  have hmodel : ((s.clearRevise k).st k).model = some m := by
    rw [State.clearRevise_st]; exact hm
  rw [State.deliverRevise, hcontains, if_pos rfl, hmodel]
  exact if_pos (by simp [hn])

theorem State.deliverRevise_other {v : WaitingRevise} {f : UrgentFrame} {m : CycleModel} (hf : f ∈ s.clc.urgent)
    (hm : (s.st k).model = some m) (hn : v.number ≠ m.number) : s.deliverRevise k v f = (s.clearRevise k).withdrawGrant v.slot := by
  have hcontains : s.clc.urgent.contains f = true := List.contains_iff_mem.2 hf
  have hmodel : ((s.clearRevise k).st k).model = some m := by
    rw [State.clearRevise_st]; exact hm
  rw [State.deliverRevise, hcontains, if_pos rfl, hmodel]
  exact if_neg (by simpa using fun h => hn h.symm)

section
variable {v : WaitingRevise} {m : CycleModel} (hm : (s.st k).model = some m)
include hm

theorem State.reviseTaken_retimed : s.reviseTaken k v = (((s.clearRevise k).modModel k (·.revised v.course)).modSt k fun t => { t with
    order := t.order.map (·.retimed (m.revised v.course) (tickAdd m.zeroTick v.course.length)) }).grantDelivered v.slot := by
  have hmodel : (((s.clearRevise k).modModel k (·.revised v.course)).st k).model = some (m.revised v.course) := by
    rw [State.modModel, State.st_modSt_same, State.clearRevise_st, hm]
    rfl
  rw [State.reviseTaken, State.retimeOrder_eq hmodel rfl]
  rfl

theorem State.reviseTaken_st : (s.reviseTaken k v).st k = { s.st k with
    revise := none, model := some (m.revised v.course)
    order := (s.st k).order.map (·.retimed (m.revised v.course) (tickAdd m.zeroTick v.course.length)) } := by
  rw [State.reviseTaken_retimed hm, State.grantDelivered, State.modEntry_st, State.st_modSt_same, State.modModel, State.st_modSt_same,
    State.clearRevise_st, hm]
  rfl

theorem State.reviseTaken_frame : s.reviseTaken k v = { s with
    stations := (s.reviseTaken k v).stations
    clc := { s.clc with urgent := s.clc.urgent.filter fun f => !f.isRevise k }
    table := s.table.map fun y => if y.slot = v.slot then { y with outstanding := false } else y } := by
  rw [State.reviseTaken_retimed hm]
  rfl

end

/-- A change of entries that makes none ACTIVE leaves a station without an ACTIVE emergency. -/
theorem State.activeEmergency_none_of_map {t : State} {f : Entry → Entry} (htable : t.table = s.table.map f)
    (hf : ∀ y, (f y).station = y.station ∧ (f y).cls = y.cls ∧ ((f y).state = .active → y.state = .active))
    (h : s.activeEmergency k = none) : t.activeEmergency k = none := by
  rw [State.activeEmergency, List.find?_eq_none] at h ⊢
  rw [htable]
  intro z hz
  obtain ⟨y, hy, rfl⟩ := List.mem_map.1 hz
  obtain ⟨hstation, hcls, hactive⟩ := hf y
  have := h y hy
  simp only [Bool.and_eq_true, decide_eq_true_eq, not_and, hstation, hcls] at this ⊢
  exact fun h => this ⟨h.1, hactive h.2⟩

/-! ## A RELEASE (R43, R86, R109) -/

/-- The RELEASE of a station absent and its model's basis returned to NONE (R86, R109). -/
def State.releaseTaken (s : State) (k : StationIx) : State := (s.modSt k fun t => { t with order := none }).modModel k (·.released)

theorem State.releaseTaken_st (s : State) (k j : StationIx) : (s.releaseTaken k).st j
    = if j = k then { s.st j with order := none, model := (s.st j).model.map (·.released) } else s.st j := by
  rw [State.releaseTaken, State.modModel, State.st_modSt, State.st_modSt]
  split <;> rfl

theorem State.deliverRelease_waiting {o : WaitingOrder} (ho : (s.st k).order = some o) :
    s.deliverRelease k o = ((s.releaseTaken k).enterFree k .released).settle := by
  rw [State.deliverRelease, State.stillWaiting_of_order ho]
  rfl

/-- A station that was not FREE reports that it is before anything else that its entry to FREE brings (R48, R52). -/
theorem State.enterFree_records {c : StateCause} (h : (s.st k).coord ≠ .free) (hroom : s.eq.records.length < Config.eventLimit) :
    s.eq.records ++ [s.record (.stationState k .free c)] <+: (s.enterFree k c).eq.records := by
  let u := (s.setCoord k .free c).modSt k (·.unsynced)
  have hquiet : Quiet u (s.enterFree k c) := (u.withdrawOrder_quiet k).trans (State.withdrawRevise_quiet _ k)
  have hu : u.eq.records = s.eq.records ++ [s.record (.stationState k .free c)] := by
    show (s.setCoord k .free c).eq.records = _
    rw [State.setCoord, if_neg h]
    exact State.emit_records_of_room (s.modSt k fun t => { t with coord := .free }) hroom _
  exact hu ▸ hquiet.records

end Sys2Proof.Machine
end

section
/-! SUPPORT. The delivery of a PREEMPT, followed through the reply that reports it: its entry ACTIVE, the ROUTE source holding the station,
and a station that is HELD and has nothing waiting (R49, R58, R112, R125, R127, R137). -/

-- One proof at a time: elaborated in parallel, each proof that waits for an earlier one holds a thread and its stack.
set_option Elab.async false

namespace Sys2Proof.Machine

variable {s : State} {k : StationIx} {r : Status}

/-! ## A station that is HELD (R49) -/

/-- The station is HELD, not synchronised, and has neither a REVISE nor a cycle order waiting. -/
structure Station.AtRest (t : Station) : Prop where
  coord : t.coord = .held
  synced : t.synced = false
  revise : t.revise = none
  cycleOrder : t.cycleOrder = none

theorem Station.AtRest.uncoordinated {t : Station} (h : t.AtRest) : t.coordinated = false := by
  rw [Station.coordinated, h.coord]; rfl

theorem State.evaluateTransit_of_uncoordinated (h : (s.st k).coordinated = false) : s.evaluateTransit k = s := by
  rw [State.evaluateTransit, h, Bool.and_false]
  rfl

theorem State.tryGrant_st_ne {j : StationIx} {p : Plan} {m : CycleModel} {c : Course} {e : Entry} {t : State} (hne : k ≠ j)
    (h : s.tryGrant j p m c e = some t) : t.st k = s.st k := by
  have hgrant (u : State) (g : GrantKind) (b : Bool) : (u.grantEntry e g b).st k = u.st k := by rw [State.grantEntry, State.emit_st]; rfl
  unfold State.tryGrant at h
  dsimp only at h
  split at h
  · cases h; exact hgrant _ _ _
  · cases h
  · split at h
    · cases h
    · simp only [Option.map_eq_some_iff] at h
      obtain ⟨r, -, rfl⟩ := h
      rw [hgrant, State.setLockout, State.st_modSt_ne _ hne, State.placeUrgent_st, State.st_modSt_ne _ hne]

theorem State.evaluateTransit_st_ne {j : StationIx} (hne : k ≠ j) : (s.evaluateTransit j).st k = s.st k := by
  have hfirst (p : Plan) (m : CycleModel) (c : Course) (l : List Entry) : (s.grantFirst j p m c l).st k = s.st k := by
    induction l with
    | nil => rfl
    | cons e es ih =>
      unfold State.grantFirst
      cases h : s.tryGrant j p m c e with
      | none => exact ih
      | some t => exact State.tryGrant_st_ne hne h
  unfold State.evaluateTransit
  dsimp only
  split
  · split
    · split
      · exact hfirst _ _ _ _
      · rfl
    · rfl
  · rfl

/-- The withdrawal of a grant builds no REVISE for a station that is not coordinated (R119, R122). -/
theorem State.withdrawGrant_revise (h : (s.st k).coordinated = false) (i : SlotIx) :
    ((s.withdrawGrant i).st k).revise = (s.st k).revise := by
  unfold State.withdrawGrant
  split
  · next e _ =>
    split
    · let u := s.ungranted e.station e.tag i
      have hu : u.st k = if k = e.station then { s.st k with lockout := 0 } else s.st k := by
        show (s.ungranted e.station e.tag i).st k = _
        rw [State.ungranted, State.emit_st, State.setLockout, State.st_modSt]
        rfl
      show ((u.evaluateTransit e.station).st k).revise = _
      by_cases hk : k = e.station
      · subst hk
        rw [State.evaluateTransit_of_uncoordinated (by rw [hu, if_pos rfl]; exact h), hu, if_pos rfl]
      · rw [State.evaluateTransit_st_ne hk, hu, if_neg hk]
    · rfl
  · rfl

theorem State.withdrawRevise_sameOrders (s : State) (k : StationIx) : SameOrders s (s.withdrawRevise k) := by
  have hclear : SameOrders s (s.clearRevise k) :=
    SameOrders.trans (.modSt (f := fun t => { t with revise := none }) fun _ => ⟨rfl, rfl, rfl⟩) (.of_st fun _ => rfl)
  unfold State.withdrawRevise
  split
  · exact hclear.trans (State.withdrawGrant_sameOrders _ _)
  · exact .refl s

theorem State.withdrawRevise_revise (h : (s.st k).coordinated = false) : ((s.withdrawRevise k).st k).revise = none := by
  unfold State.withdrawRevise
  split
  · rw [State.withdrawGrant_revise (by rw [State.clearRevise_st]; exact h), State.clearRevise_st]
  · assumption

/-- A station that becomes HELD has nothing waiting (R49, R106, R112). -/
theorem State.uncoordinate_atRest (s : State) (k : StationIx) (x : StateCause) :
    (((((s.setCoord k .held x).modSt k (·.unsynced)).withdrawOrder k).withdrawRevise k).st k).AtRest := by
  let u := (s.setCoord k .held x).modSt k (·.unsynced)
  have hu : u.st k = ({ s.st k with coord := .held } : Station).unsynced := by
    show ((s.setCoord k .held x).modSt k (·.unsynced)).st k = _
    rw [State.st_modSt_same, State.setCoord_st, if_pos rfl]
  have hwithout : SameOrders (u.modSt k (·.withoutCycleOrder)) (u.withdrawOrder k) := by
    rw [State.withdrawOrder_eq]
    exact State.foldLost_sameOrders _ _
  obtain ⟨hcoord, hsynced, horder⟩ := hwithout k
  obtain ⟨hcoord', hsynced', horder'⟩ := (u.withdrawOrder k).withdrawRevise_sameOrders k k
  rw [State.st_modSt_same] at hcoord hsynced horder
  rw [Station.withoutCycleOrder_eq, hu] at hcoord hsynced
  have hcoordinated : ((u.withdrawOrder k).st k).coordinated = false := by rw [Station.coordinated, hcoord]; rfl
  refine ⟨hcoord'.trans hcoord, hsynced'.trans hsynced, State.withdrawRevise_revise hcoordinated, ?_⟩
  rw [Station.cycleOrder, horder', horder]
  exact Station.withoutCycleOrder_cycleOrder _

/-- A HELD station with nothing waiting stays so where coordination, the flag, the REVISE and the order stand. -/
theorem Station.AtRest.congr {t u : Station} (h : t.AtRest) (coord : u.coord = t.coord := by rfl) (synced : u.synced = t.synced := by rfl)
    (revise : u.revise = t.revise := by rfl) (order : u.order = t.order := by rfl) : u.AtRest where
  coord := coord.trans h.coord
  synced := synced.trans h.synced
  revise := revise.trans h.revise
  cycleOrder := by rw [Station.cycleOrder, order]; exact h.cycleOrder

theorem State.modSt_atRest {f : Station → Station} (hf : ∀ t : Station, t.AtRest → (f t).AtRest) (h : (s.st k).AtRest) :
    ((s.modSt k f).st k).AtRest := by
  rw [State.st_modSt_same]; exact hf _ h

theorem State.tidalZero_stations (s : State) : s.tidalZero.stations = s.stations := by
  have hevaluated (u : State) : u.tidalEvaluation.stations = u.stations := by
    unfold State.tidalEvaluation
    dsimp only
    split
    · rfl
    · split
      · rw [State.emit_stations]
      · rfl
  unfold State.tidalZero
  dsimp only
  split
  · rw [hevaluated]
  · rfl

theorem State.handOn_atRest (h : (s.st k).AtRest) : ((s.handOn k).st k).AtRest := by
  have hage : ((s.modSt k fun t => { t with age := min Config.sampleLife (t.age + 1) }).st k).AtRest :=
    State.modSt_atRest (fun _ ht => ht.congr) h
  have hend (u : State) (hu : (u.st k).AtRest) : (((u.modSt k fun t => { t with lockout := t.lockout - 1 }).evaluateTransit k).st k).AtRest := by
    have hlower : ((u.modSt k fun t => { t with lockout := t.lockout - 1 }).st k).AtRest := State.modSt_atRest (fun _ ht => ht.congr) hu
    rw [State.evaluateTransit_of_uncoordinated hlower.uncoordinated]
    exact hlower
  unfold State.handOn
  dsimp only
  split
  · exact hend _ (by rw [State.st_congr (State.tidalZero_stations _)]; exact hage)
  · exact hend _ hage

theorem State.takeZero_atRest (h : (s.st k).AtRest) (m : CycleModel) (n : Byte) (t : Tick) : ((s.takeZero k m n t).st k).AtRest := by
  have hmodel : ((s.modSt k fun x => { x with model := some (m.zero n t) }).st k).AtRest := State.modSt_atRest (fun _ ht => ht.congr) h
  unfold State.takeZero
  dsimp only
  split
  · exact hmodel
  · exact State.handOn_atRest hmodel

/-- With neither a cycle order nor a REVISE waiting, a resynchronisation has none to act on (R107, R112). -/
theorem State.afterResync_of_rest (h : (s.st k).AtRest) : (s.orderAfterResync k).reviseAfterResync k = s := by
  have horder : s.orderAfterResync k = s := by
    unfold State.orderAfterResync
    dsimp only
    split
    · next o m ho hm =>
      split
      · rfl
      · next b hb =>
        have hnone := h.cycleOrder
        rw [Station.cycleOrder, ho, Option.bind_some, hb] at hnone
        cases hnone
    · rfl
  rw [horder, State.reviseAfterResync, h.revise]

theorem State.cyclePart_atRest (h : (s.st k).AtRest) (t : Tick) (n : Byte) (c : Nat) (w : Bool) :
    ((s.cyclePart k t n c w).st k).AtRest := by
  have hmodel (u : State) (f : CycleModel → CycleModel) (hu : (u.st k).AtRest) : ((u.modModel k f).st k).AtRest :=
    State.modSt_atRest (fun _ ht => ht.congr) hu
  have hsynced {u : Station} (hu : u.AtRest) : (u.synced || decide (u.coord = .seeking)) = u.synced := by rw [hu.coord, hu.synced]; rfl
  have hend (u : State) (hu : (u.st k).AtRest) : ((((((u.modSt k fun t => { t with synced := t.synced || t.coord = .seeking }).markResync k t)
      ).orderAfterResync k).reviseAfterResync k).st k).AtRest := by
    have hmarked : (((u.modSt k fun t => { t with synced := t.synced || t.coord = .seeking }).markResync k t).st k).AtRest := by
      rw [State.st_congr (State.markResync_stations _ k t)]
      exact State.modSt_atRest (fun _ ht => ht.congr rfl (hsynced ht)) hu
    rw [State.afterResync_of_rest hmarked]
    exact hmarked
  have hstepped (m : CycleModel) : ((if 0 < numberStep n m.number then s.takeZero k m n t
      else if numberStep n m.number < 0 then s.modModel k fun m => { m with number := n, next := none } else s).st k).AtRest := by
    split
    · exact State.takeZero_atRest h m n t
    · split
      · exact hmodel _ _ h
      · exact h
  unfold State.cyclePart
  dsimp only
  split
  · unfold State.createModel
    exact State.modSt_atRest (fun _ ht => ht.congr rfl (hsynced ht)) h
  · next m _ =>
    split
    · unfold State.resync
      dsimp only
      refine hend _ ?_
      split
      · rw [State.emit_st]; exact hmodel _ _ (hstepped m)
      · exact hmodel _ _ (hstepped m)
    · exact h

theorem State.partsTaken_atRest {x : Exchange} (h : (s.st x.station).AtRest) (w b : Bool) :
    ((s.partsTaken x r w b).st x.station).AtRest := by
  have hmeasured (u : State) (hu : (u.st x.station).AtRest) : ((u.takeMeasures x.station r).st x.station).AtRest := by
    rw [State.takeMeasures_st, if_pos rfl, Station.takeSample_eq]
    exact hu.congr
  unfold State.partsTaken
  split
  · exact State.cyclePart_atRest (hmeasured _ h) _ _ _ _
  · exact hmeasured _ (State.cyclePart_atRest h _ _ _ _)

/-! ## What supersedes leaves (R115, R124, R127) -/

theorem State.endEntry_of_station {e : Entry} (h : e.origin = .station) (o : ReqOutcome) : s.endEntry e o = s.leave e o := by
  rw [State.endEntry, Entry.holdsRoute, h]
  exact if_neg (by simp)

theorem State.leave_coord (s : State) (e : Entry) (o : ReqOutcome) (j : StationIx) : ((s.leave e o).st j).coord = (s.st j).coord := by
  have hmod (u : State) (f : Station → Station) (hf : ∀ t, (f t).coord = t.coord) : ((u.modSt e.station f).st j).coord = (u.st j).coord := by
    rw [State.st_modSt]
    split
    · exact hf _
    · rfl
  have hgone (u : State) : ((u.letGo e).st j).coord = (u.st j).coord := by
    unfold State.letGo
    dsimp only
    split
    · refine (hmod _ _ ?_).trans ?_
      · exact fun _ => rfl
      · split
        · exact hmod u (fun t => { t with revise := none }) fun _ => rfl
        · rfl
    · rfl
  have hbefore := (hgone (s.emit (.requestEnd e.station o e.grant e.tag))).trans (by rw [State.emit_st])
  unfold State.leave
  dsimp only
  split <;> exact hbefore

theorem State.leave_urgent (s : State) (e : Entry) (o : ReqOutcome) : ∀ g ∈ (s.leave e o).clc.urgent, g ∈ s.clc.urgent := by
  have hgone (u : State) : ∀ g ∈ (u.letGo e).clc.urgent, g ∈ u.clc.urgent := by
    unfold State.letGo
    dsimp only
    split
    · split
      · exact fun _ hg => List.mem_of_mem_filter hg
      · exact fun _ hg => hg
    · exact fun _ hg => hg
  have hbefore : ∀ g ∈ ((s.emit (.requestEnd e.station o e.grant e.tag)).letGo e).clc.urgent, g ∈ s.clc.urgent := by
    intro g hg
    have := hgone _ g hg
    rwa [State.emit_clc] at this
  unfold State.leave
  dsimp only
  split
  · exact fun g hg => hbefore g (List.mem_of_mem_filter hg)
  · exact hbefore

theorem eq_of_length_le_one {α : Type} {l : List α} {x y : α} (h : l.length ≤ 1) (hx : x ∈ l) (hy : y ∈ l) : x = y := by
  match l, h with
  | [], _ => cases hx
  | [z], _ => rw [List.mem_singleton.1 hx, List.mem_singleton.1 hy]

/-- The station's ACTIVE TRANSIT entry (R114). -/
def Entry.activeTransitAt (e : Entry) (k : StationIx) : Prop := e.station = k ∧ e.cls = .transit ∧ e.state = .active

/-- From `s` to `t` the ACTIVE TRANSIT entry of a station has left the table, if there was one. -/
structure State.Superseded (s : State) (k : StationIx) (t : State) : Prop where
  aside : Aside True s t
  coord : ∀ j : StationIx, (t.st j).coord = (s.st j).coord
  urgent : ∀ g ∈ t.clc.urgent, g ∈ s.clc.urgent
  table : t.table.Sublist s.table
  others : ∀ y ∈ s.table, (∀ z ∈ s.table, z.activeTransitAt k → y.slot ≠ z.slot) → y ∈ t.table
  gone : ∀ y ∈ s.table, y.activeTransitAt k → ∀ z ∈ t.table, z.slot ≠ y.slot

theorem State.supersede_superseded (ht : s.TableLaw) (he : s.EntryLaw) (k : StationIx) : s.Superseded k (s.supersede k) := by
  obtain ⟨-, -, hone, -, -⟩ := ht
  cases h : s.activeTransit k with
  | none =>
    rw [State.supersede, h]
    refine ⟨.refl s, fun _ => rfl, fun _ hg => hg, .refl _, fun _ hy _ => hy, fun y hy ⟨hstation, hcls, hactive⟩ => ?_⟩
    rw [State.activeTransit, List.find?_eq_none] at h
    exact absurd (by simp [hstation, hcls, hactive]) (h y hy)
  | some e =>
    have hmem : e ∈ s.table := List.mem_of_find?_eq_some h
    have hmeets : e.activeTransitAt k := by
      have := List.find?_some h
      simp only [Bool.and_eq_true, decide_eq_true_eq] at this
      exact ⟨this.1.1, this.2, this.1.2⟩
    obtain ⟨hstation, hcls, hactive⟩ := hmeets
    obtain ⟨horigin, -⟩ := (he e hmem).1 hcls
    have hsole (y : Entry) (hy : y ∈ s.table) (hat : y.activeTransitAt k) : y = e := by
      obtain ⟨hystation, -, hyactive⟩ := hat
      exact eq_of_length_le_one (hone k) (List.mem_filter.2 ⟨hy, by simp [hystation, hyactive]⟩) (List.mem_filter.2 ⟨hmem, by simp [hstation, hactive]⟩)
    have hleft : s.supersede k = s.leave e .superseded := by
      rw [State.supersede, h]
      exact State.endEntry_of_station horigin _
    have htable : (s.supersede k).table = s.table.filter (·.slot ≠ e.slot) := by rw [hleft, State.leave_table]
    refine ⟨hleft ▸ s.leave_aside e _, fun j => by rw [hleft, State.leave_coord], fun g hg => ?_, ?_, fun y hy hother => ?_,
      fun y hy hat z hz => ?_⟩
    · rw [hleft] at hg
      exact s.leave_urgent e _ g hg
    · rw [htable]; exact List.filter_sublist
    · rw [htable]
      exact List.mem_filter.2 ⟨hy, decide_eq_true (hother e hmem ⟨hstation, hcls, hactive⟩)⟩
    · rw [hsole y hy hat]
      rw [htable] at hz
      exact of_decide_eq_true (List.mem_filter.1 hz).2

/-! ## The entry ACTIVE and the station held by its route (R58, R127) -/

/-- In `t` the emergency `e` is ACTIVE in its slot, alone so at its station, which the ROUTE source holds; the slot's PREEMPT has left
URGENT, and so have the TRANSIT entries ACTIVE at the station in `s` left the table. -/
structure State.Armed (s : State) (k : StationIx) (i : SlotIx) (e : Entry) (t : State) : Prop where
  route : (t.st k).routeActive = true
  hold : (t.st k).hold = true
  entry : t.entry i = some e
  active : e.station = k ∧ e.state = .active ∧ e.cls = .emergency
  slots : t.slots.Nodup
  delivered : ∀ y ∈ t.table, y.cls = .emergency → y.outstanding = false
  sole : ∀ y ∈ t.table, y.station = k → y.state = .active → y.cls = .emergency → y = e
  gone : ∀ y ∈ s.table, y.activeTransitAt k → y.slot ∉ t.slots
  urgent : ∀ g ∈ t.clc.urgent, g.isPreempt i = false

namespace State.Armed

variable {t u : State} {i : SlotIx} {e : Entry}

/-- Grants, withdrawals and resynchronisations leave it so. -/
theorem of_spares (h : s.Armed k i e t) (hs : Spares t u) : s.Armed k i e u := by
  have hslots : u.slots.Nodup := hs.slots ▸ h.slots
  have hkept (y : Entry) (hy : y ∈ u.table) (hc : y.cls = .emergency) : y ∈ t.table := by
    obtain ⟨a, ha, hay⟩ := hs.entries h.slots y hy
    have hac : a.cls = .emergency := hay.cls.symm.trans hc
    rwa [hay.emergency hac (h.delivered a ha hac)]
  obtain ⟨hmem, hslot⟩ := State.entry_mem h.entry
  have hentry : u.entry i = some e := by
    have hin : i ∈ u.slots := by rw [hs.slots, ← hslot]; exact List.mem_map_of_mem hmem
    obtain ⟨y, hy, hyi⟩ := List.mem_map.1 hin
    obtain ⟨a, ha, hay⟩ := hs.entries h.slots y hy
    obtain rfl : a = e := List.inj_on_of_nodup_map h.slots ha hmem (by rw [← hay.slot, hyi, hslot])
    obtain ⟨-, -, hc⟩ := h.active
    obtain rfl := hay.emergency hc (h.delivered _ ha hc)
    rw [← hyi]
    exact State.entry_of_mem hslots hy
  exact {
    route := (hs.hold k).2.trans h.route
    hold := (hs.hold k).1.trans h.hold
    entry := hentry
    active := h.active
    slots := hslots
    delivered := fun y hy hc => h.delivered y (hkept y hy hc) hc
    sole := fun y hy hstation hactive hc => h.sole y (hkept y hy hc) hstation hactive hc
    gone := fun y hy hat => by rw [hs.slots]; exact h.gone y hy hat
    urgent := fun g hg => (hs.urgent g hg).elim (h.urgent g) fun hk => by rw [UrgentFrame.isPreempt, hk] }

theorem activeEmergency (h : s.Armed k i e t) : t.activeEmergency k = some e := by
  obtain ⟨hstation, hactive, hcls⟩ := h.active
  cases hfind : t.activeEmergency k with
  | none =>
    rw [State.activeEmergency, List.find?_eq_none] at hfind
    exact absurd (by simp [hstation, hactive, hcls]) (hfind e (State.entry_mem h.entry).1)
  | some y =>
    have hmeets := List.find?_some hfind
    simp only [Bool.and_eq_true, decide_eq_true_eq] at hmeets
    rw [h.sole y (List.mem_of_find?_eq_some hfind) hmeets.1.1 hmeets.1.2 hmeets.2]

/-- The ROUTE source holds the station, so its flags change no hold (R53, R58). -/
theorem takeFlags (h : s.Armed k i e t) : t.takeFlags k r = t.modSt k fun x => { x with manualFlag := r.manual, preemptFlag := r.preempt } := by
  let u := t.modSt k fun x => { x with manualFlag := r.manual, preemptFlag := r.preempt }
  have hu : u.st k = { t.st k with manualFlag := r.manual, preemptFlag := r.preempt } := t.st_modSt_same k _
  refine State.rehold_of_same (s := u) ?_
  simp [State.anySource, State.sources, hu, h.hold, h.route]

end State.Armed

theorem State.entry_modEntry (s : State) (i : SlotIx) {f : Entry → Entry} (hf : ∀ e, (f e).slot = e.slot) :
    (s.modEntry i f).entry i = (s.entry i).map f := by
  have hsame : ((fun e : Entry => decide (e.slot = i)) ∘ fun e => if e.slot = i then f e else e) = fun e => decide (e.slot = i) := by
    funext e
    show decide ((if e.slot = i then f e else e).slot = i) = _
    split
    · rw [hf]
    · rfl
  show (s.table.map _).find? _ = _
  rw [List.find?_map, hsame]
  cases h : s.table.find? fun e => decide (e.slot = i) with
  | none => rw [State.entry, h]; rfl
  | some e =>
    rw [State.entry, h, Option.map_some, Option.map_some, if_pos (State.entry_mem h).2]

/-- The preempt flag is observed for the entry that has just become ACTIVE: it is seen set, or nothing changes (R125). -/
theorem State.Armed.observed {t : State} {i : SlotIx} {e : Entry} (h : s.Armed k i e t) (hseen : e.seen = false) (flag : Bool) :
    let u := t.observePreempt k flag
    u.entry i = some { e with seen := flag } ∧ u.slots = t.slots ∧ u.clc = t.clc ∧ u.stations = t.stations := by
  intro u
  obtain ⟨hmem, hslot⟩ := State.entry_mem h.entry
  have hu : u = if flag = true then t.modEntry i fun e => { e with seen := true } else t := by
    show t.observePreempt k flag = _
    rw [State.observePreempt, h.activeEmergency]
    dsimp only
    rw [hseen, hslot]
    rfl
  cases flag with
  | true =>
    rw [if_pos rfl] at hu
    rw [hu]
    refine ⟨?_, t.modEntry_slots i fun _ => rfl, rfl, rfl⟩
    have hseen := t.entry_modEntry i (f := fun e => { e with seen := true }) fun _ => rfl
    rw [hseen, h.entry, Option.map_some]
  | false =>
    rw [if_neg Bool.false_ne_true] at hu
    rw [hu]
    refine ⟨h.entry.trans ?_, rfl, rfl, rfl⟩
    rw [← hseen]

/-! ## The delivery (R127) -/

/-- The entry that a delivered PREEMPT makes ACTIVE. -/
def Entry.preempting (e : Entry) (tick : Tick) : Entry := { e with state := .active, seen := false, posted := false, delivered := some tick }

/-- A PREEMPT taken by its entry, before its station is held. -/
def State.preemptTaken (s : State) (i : SlotIx) (k : StationIx) (tick : Tick) : State :=
  ((s.dropUrgent (·.isPreempt i)).supersede k).modEntry i (·.preempting tick)

theorem State.deliverPreempt_posted {i : SlotIx} {e : Entry} {f : UrgentFrame} {tick : Tick} (he : s.entry i = some e)
    (hp : e.posted = true) (hf : f ∈ s.clc.urgent) (hk : e.station = k) :
    s.deliverPreempt i f tick = ((s.preemptTaken i k tick).modSt k fun t => { t with routeActive := true }).rehold k := by
  have hcontains : s.clc.urgent.contains f = true := List.contains_iff_mem.2 hf
  subst hk
  rw [State.deliverPreempt, he]
  dsimp only
  rw [hp, hcontains]
  rfl

/-- The ROUTE source holds its station: a hold that was not there before is handed to the Station Tracker (R49, R53). -/
theorem State.rehold_of_route (h : (s.st k).routeActive = true) : s.rehold k
    = if (s.st k).hold = true then s else (s.modSt k fun t => { t with hold := true }).holdChanged k := by
  have hsource : s.anySource k = true := by simp [State.anySource, State.sources, h]
  rw [State.rehold, hsource]

section
variable {i : SlotIx} {e : Entry} {tick : Tick} (ht : s.TableLaw) (he : s.EntryLaw) (hentry : s.entry i = some e)
  (hposted : e.posted = true) (hcls : e.cls = .emergency) (hk : e.station = k)
include ht he hentry hposted hcls hk

/-- The entry of a delivered PREEMPT is ACTIVE alone at its station. -/
theorem State.preemptTaken_armed :
    s.Armed k i (e.preempting tick) ((s.preemptTaken i k tick).modSt k fun t => { t with routeActive := true, hold := true }) := by
  let d := s.dropUrgent (·.isPreempt i)
  have hsup : d.Superseded k (d.supersede k) := State.supersede_superseded (s := d) ht he k
  obtain ⟨-, hnodup, -, -, hfree⟩ := ht
  obtain ⟨hmem, hslot⟩ := State.entry_mem hentry
  have hnone := hfree e hmem hposted
  rw [hk, State.activeEmergency, List.find?_eq_none] at hnone
  have hst : ((s.preemptTaken i k tick).modSt k fun t => { t with routeActive := true, hold := true }).st k
      = { (s.preemptTaken i k tick).st k with routeActive := true, hold := true } := State.st_modSt_same _ k _
  have hslots : (s.preemptTaken i k tick).slots = (d.supersede k).slots := State.modEntry_slots _ i fun _ => rfl
  have hnodup' : (d.supersede k).slots.Nodup := (hsup.table.map _).nodup hnodup
  have hin : e ∈ (d.supersede k).table := hsup.others e hmem fun z hz ⟨_, hzcls, _⟩ hsame => by
    obtain rfl := List.inj_on_of_nodup_map hnodup hmem hz hsame
    rw [hcls] at hzcls
    cases hzcls
  have hfrom (y : Entry) (hy : y ∈ (s.preemptTaken i k tick).table) : y = e.preempting tick ∨ y ∈ s.table := by
    obtain ⟨a, ha, rfl⟩ := List.mem_map.1 hy
    have has : a ∈ s.table := hsup.table.subset ha
    dsimp only
    split
    · next hi => exact .inl (congrArg (·.preempting tick) (List.inj_on_of_nodup_map hnodup has hmem (hi.trans hslot.symm)))
    · exact .inr has
  obtain ⟨-, hemergency, -⟩ := he e hmem
  obtain ⟨-, -, -, -, hout⟩ := hemergency hcls
  exact {
    route := by rw [hst]
    hold := by rw [hst]
    entry := by
      show ((d.supersede k).modEntry i (·.preempting tick)).entry i = _
      have hkept := State.entry_of_mem hnodup' hin
      rw [hslot] at hkept
      have htaken := (d.supersede k).entry_modEntry i (f := (·.preempting tick)) fun _ => rfl
      rw [htaken, hkept, Option.map_some]
    active := ⟨hk, rfl, hcls⟩
    slots := by
      show (s.preemptTaken i k tick).slots.Nodup
      rw [hslots]; exact hnodup'
    delivered := fun y hy hc => by
      obtain rfl | hy := hfrom y hy
      · exact hout
      · obtain ⟨-, hlaw, -⟩ := he y hy
        obtain ⟨-, -, -, -, hyout⟩ := hlaw hc
        exact hyout
    sole := fun y hy hstation hactive hc => by
      obtain rfl | hy := hfrom y hy
      · rfl
      · exact absurd (by simp [hstation, hactive, hc]) (hnone y hy)
    gone := fun y hy hat hyin => by
      have hyin : y.slot ∈ (d.supersede k).slots := hslots ▸ hyin
      obtain ⟨z, hz, hzy⟩ := List.mem_map.1 hyin
      exact hsup.gone y hy hat z hz hzy
    urgent := fun g hg => by
      have hmeets := (List.mem_filter.1 (hsup.urgent g hg)).2
      simpa using hmeets }

end

/-- What the taking of a PREEMPT leaves of the stations: everything but waiting orders and REVISEs. -/
theorem State.preemptTaken_rest (ht : s.TableLaw) (he : s.EntryLaw) (i : SlotIx) (k : StationIx) (tick : Tick) :
    Aside True s (s.preemptTaken i k tick) ∧ ∀ j : StationIx, ((s.preemptTaken i k tick).st j).coord = (s.st j).coord := by
  let d := s.dropUrgent (·.isPreempt i)
  have hsup : d.Superseded k (d.supersede k) := State.supersede_superseded (s := d) ht he k
  exact ⟨((s.dropUrgent_aside _).trans hsup.aside).trans (State.modEntry_aside _ _ _), hsup.coord⟩

end Sys2Proof.Machine
end

section
/-! SUPPORT. The four deliveries of R137, each with the reply that follows it (R43, R86, R87, R104, R109, R112, R122, R127). -/

-- One proof at a time: elaborated in parallel, each proof that waits for an earlier one holds a thread and its stack.
set_option Elab.async false

namespace Sys2Proof.Machine

variable {s : State} {k : StationIx} {r : Status}

/-! ## The station of a delivered PREEMPT (R49, R58, R127) -/

section
variable {i : SlotIx} {e : Entry} {f : UrgentFrame} {tick : Tick} (ht : s.TableLaw) (he : s.EntryLaw) (hentry : s.entry i = some e)
  (hposted : e.posted = true) (hk : e.station = k) (hf : f ∈ s.clc.urgent)
include ht he hentry hposted hk hf

/-- The station of a delivered PREEMPT is held: as it was, or by the Station Tracker. -/
theorem State.deliverPreempt_held : s.deliverPreempt i f tick
    = let w := (s.preemptTaken i k tick).modSt k fun t => { t with routeActive := true, hold := true }
      if (s.st k).hold = true then w else w.holdChanged k := by
  obtain ⟨haside, -⟩ := State.preemptTaken_rest ht he i k tick
  obtain ⟨hhold, -⟩ := haside.hold trivial k
  let u := (s.preemptTaken i k tick).modSt k fun t => { t with routeActive := true }
  have hu : u.st k = { (s.preemptTaken i k tick).st k with routeActive := true } := State.st_modSt_same _ k _
  have hroute : u.rehold k = if (s.st k).hold = true then u else (u.modSt k fun t => { t with hold := true }).holdChanged k := by
    rw [State.rehold_of_route (by rw [hu]), hu]
    exact if_congr (by rw [← hhold]) rfl rfl
  rw [State.deliverPreempt_posted hentry hposted hf hk]
  refine hroute.trans ?_
  dsimp only
  split
  · next hheld => exact State.modSt_congr (by rw [hhold.trans hheld] )
  · rw [State.modSt_modSt]

theorem State.deliverPreempt_armed (hcls : e.cls = .emergency) : s.Armed k i (e.preempting tick) (s.deliverPreempt i f tick) := by
  have harmed := State.preemptTaken_armed (tick := tick) ht he hentry hposted hcls hk
  rw [State.deliverPreempt_held ht he hentry hposted hk hf]
  dsimp only
  split
  · exact harmed
  · exact harmed.of_spares (State.holdChanged_spares _ k)

theorem State.deliverPreempt_link : ((s.deliverPreempt i f tick).st k).link = (s.st k).link := by
  obtain ⟨haside, -⟩ := State.preemptTaken_rest ht he i k tick
  have hroute : Aside False (s.preemptTaken i k tick) ((s.preemptTaken i k tick).modSt k fun t => { t with routeActive := true }) :=
    .modSt rfl (fun _ => rfl) False.elim
  rw [State.deliverPreempt_posted hentry hposted hf hk]
  exact ((haside.weaken.trans hroute).trans (State.rehold_aside _ k)).field (·.link) (fun _ => rfl) k

/-- A SEEKING or IN_STEP station that was not held becomes HELD (R49). -/
theorem State.deliverPreempt_atRest (hr : s.ps.corridor = .running) (hl : (s.st k).link = .online)
    (hc : (s.st k).coordinated = true) (hh : (s.st k).hold = false) : ((s.deliverPreempt i f tick).st k).AtRest := by
  obtain ⟨haside, hcoord⟩ := State.preemptTaken_rest ht he i k tick
  let w := (s.preemptTaken i k tick).modSt k fun t => { t with routeActive := true, hold := true }
  have hst : w.st k = { (s.preemptTaken i k tick).st k with routeActive := true, hold := true } := State.st_modSt_same _ k _
  have hrunning : w.ps.corridor = .running := (congrArg (·.corridor) haside.ps).trans hr
  have honline : (w.st k).link = .online := by
    rw [hst]; exact (haside.field (·.link) (fun _ => rfl) k).trans hl
  have hcoordinated : (w.st k).coordinated = true := by
    rw [hst]
    show (decide (((s.preemptTaken i k tick).st k).coord = .seeking) || decide (((s.preemptTaken i k tick).st k).coord = .inStep)) = true
    rw [hcoord k]
    exact hc
  have hheld : (w.st k).hold = true := by rw [hst]
  have hchanged : w.holdChanged k = (((w.setCoord k .held .hold).modSt k (·.unsynced)).withdrawOrder k).withdrawRevise k := by
    rw [State.holdChanged, if_pos (by rw [hrunning, honline]; rfl), if_pos hheld, if_pos hcoordinated]
  rw [State.deliverPreempt_held ht he hentry hposted hk hf]
  rw [hh, if_neg Bool.false_ne_true, show w.holdChanged k = _ from hchanged]
  exact w.uncoordinate_atRest k .hold

end

/-- What an accepted reply leaves of a station whose emergency has just become ACTIVE (R53, R58, R125). -/
theorem State.Armed.replied {t : State} {x : Exchange} {i : SlotIx} {e : Entry} {a b : Bool} (h : s.Armed x.station i e t)
    (hl : (t.st x.station).link = .online) (hn : r.notices = []) (ho : r.checkOuts = []) :
    ∃ u : State, s.Armed x.station i e u ∧ ((t.st x.station).AtRest → (u.st x.station).AtRest)
      ∧ t.replyTaken x r a b = u.observePreempt x.station r.preempt := by
  have hack : Spares t (t.acknowledged x.station) := .modSt
  have harmed := h.of_spares hack
  have hflags : Spares (t.acknowledged x.station) ((t.acknowledged x.station).takeFlags x.station r) := by
    rw [harmed.takeFlags]; exact .modSt
  refine ⟨_, (harmed.of_spares hflags).of_spares (State.partsTaken_spares _ x r (t.st x.station).synced b), fun hrest => ?_, ?_⟩
  · refine State.partsTaken_atRest ?_ _ b
    rw [harmed.takeFlags]
    exact State.modSt_atRest (fun _ ht => ht.congr) (State.modSt_atRest (fun _ ht => ht.congr) hrest)
  · rw [State.replyTaken_of_online hl, State.takePriority, hn, ho]
    rfl

/-! ## The replies to a REVISE (R87, R112, R122) -/

theorem State.steady.congr {t : State} (h : s.steady k r) (hl : t.hl = s.hl) (link : (t.st k).link = (s.st k).link)
    (manual : (t.st k).manualFlag = (s.st k).manualFlag) (preempt : (t.st k).preemptFlag = (s.st k).preemptFlag)
    (hold : (t.st k).hold = (s.st k).hold) (host : (t.st k).hostHold = (s.st k).hostHold)
    (route : (t.st k).routeActive = (s.st k).routeActive) (config : (t.st k).config = (s.st k).config) : t.steady k r := by
  rw [State.steady, State.anySource_congr hl host manual preempt route config, link, manual, preempt, hold]
  exact h

section
variable {x : Exchange} {m : CycleModel} {v : WaitingRevise} {a b : Bool} (hs : s.steady x.station r) (hn : r.notices = [])
  (ho : r.checkOuts = []) (h : s.activeEmergency x.station = none)
include hs hn ho h

/-- A reply that agrees with the revised model. -/
theorem State.reviseTaken_replied (hm : (s.st x.station).model = some m) (hnumber : r.number = m.number)
    (htime : ((m.revised v.course).timeDifference x.slotTick r.time).natAbs ≤ 3)
    (hsync : (s.st x.station).coord = .seeking → (s.st x.station).synced = true) :
    (s.reviseTaken x.station v).replyTaken x r a b = ((s.reviseTaken x.station v).acknowledged x.station).takeMeasures x.station r := by
  have hst := State.reviseTaken_st (v := v) hm
  have hframe := State.reviseTaken_frame (v := v) hm
  refine State.replyTaken_of_steady (m := m.revised v.course) (hs.congr (by rw [hframe]) ?_ ?_ ?_ ?_ ?_ ?_ ?_) ?_ hn ho
    (State.activeEmergency_none_of_map (by rw [hframe]) (fun y => ?_) h)
  case refine_8 =>
    rw [State.agrees, hst]
    exact ⟨rfl, hnumber, htime, hsync, Basis.noConfusion⟩
  case refine_9 => split <;> exact ⟨rfl, rfl, id⟩
  all_goals rw [hst]

/-- A reply that agrees with a model that no REVISE changed. -/
theorem State.reviseLost_replied (tag : Word16) (i : SlotIx) (hagrees : s.agrees x.station x.slotTick m r) :
    (s.reviseLost x.station tag i).replyTaken x r a b
      = ((s.reviseLost x.station tag i).acknowledged x.station).takeMeasures x.station r := by
  have hst := s.reviseLost_st (k := x.station) (i := i) tag
  have htable : (s.reviseLost x.station tag i).table = s.table.map fun y => if y.slot = i then y.ungranted else y := by
    rw [State.reviseLost, State.ungranted, State.emit_table]; rfl
  have hl : (s.reviseLost x.station tag i).hl = s.hl := by rw [State.reviseLost, State.ungranted, State.emit_hl]; rfl
  refine State.replyTaken_of_steady (m := m) (hs.congr hl ?_ ?_ ?_ ?_ ?_ ?_ ?_) ?_ hn ho
    (State.activeEmergency_none_of_map htable (fun y => ?_) h)
  case refine_8 =>
    rw [State.agrees, hst, State.reviseLost_activePlan]
    exact hagrees
  case refine_9 =>
    split
    · exact ⟨rfl, rfl, fun hactive => by cases hactive⟩
    · exact ⟨rfl, rfl, id⟩
  all_goals rw [hst]

end

/-- The withdrawal of a REVISE writes GRANT_WITHDRAWN alone. -/
theorem State.reviseLost_wrote (s : State) (k : StationIx) (tag : Word16) (i : SlotIx) :
    s.wrote (s.reviseLost k tag i) [.grantWithdrawn k tag i] := by
  have hcleared : SameEvents s ((s.clearRevise k).modEntry i (·.ungranted) |>.setLockout k 0) := {}
  exact hcleared.wrote _

/-- The deadline of a waiting cycle order for the next cycle lies 5 ticks before the zero that the REVISE moves (R87). -/
theorem WaitingOrder.retimed_revised (o : WaitingOrder) (m : CycleModel) (c : Course) :
    o.retimed (m.revised c) (tickAdd m.zeroTick c.length)
      = if o.body ≠ none ∧ o.number = m.number + 1 then { o with deadline := tickAdd m.zeroTick ((c.length : Int) - 5) } else o := by
  have hcond : (!o.release && o.number = nextNumber (m.revised c).number) = true ↔ o.body ≠ none ∧ o.number = m.number + 1 := by
    rw [WaitingOrder.release, Bool.and_eq_true, decide_eq_true_eq]
    cases o.body <;> simp [nextNumber, CycleModel.revised]
  rw [WaitingOrder.retimed, tickAdd_tickAdd]
  exact if_congr hcond rfl rfl

/-! ## The reply to a RELEASE (R43) -/

/-- What the reply leaves of a corridor at rest. -/
theorem Stays.of_rested {v t : State} (h : Stays v.rested t) : t.ps.corridor = .idle ∧ t.ps.active = none ∧ t.tb.m = 0
    ∧ ∀ k : StationIx, (v.st k).coord = .free → (t.st k).coord = .free := by
  have hcorridor : t.ps.corridor = .idle := by rw [h.ps, State.rested_corridor]
  refine ⟨hcorridor, by rw [h.ps, State.rested_ps], by rw [h.master, State.rested_tb], fun k hfree => ?_⟩
  rw [(h.station k).coord (by rw [State.rested_corridor]; exact CorridorState.noConfusion), State.rested_st]
  obtain ⟨hcoord, -⟩ := (v.st k).clearTarget_enterMins
  exact hcoord.trans hfree

section
variable {u d t : State} (h : u.ReleaseEnded k d) (hstays : Stays d t)
include h hstays

/-- With another RELEASE outstanding the corridor stays STOPPING, and the station FREE. -/
theorem State.ReleaseEnded.stays_stopping (hstop : u.ps.corridor = .stopping) (hout : ∃ j : StationIx, j ≠ k ∧ u.releaseOut j = true) :
    t.ps = u.ps ∧ (t.st k).coord = .free ∧ (t.st k).synced = false := by
  obtain ⟨-, hfree, hps⟩ := h.free_of_out hout
  have hfree' : (t.st k).coord = .free :=
    ((hstays.station k).coord (by rw [hps, hstop]; exact CorridorState.noConfusion)).trans hfree
  have huncoordinated : (t.st k).coordinated = false := by rw [Station.coordinated, hfree']; rfl
  refine ⟨hstays.ps.trans hps, hfree', Bool.eq_false_iff.2 fun hset => ?_⟩
  have hcoordinated := (hstays.station k).synced (fun hd => by rw [h.synced] at hd; cases hd) hset
  rw [huncoordinated] at hcoordinated
  cases hcoordinated

/-- With no other RELEASE outstanding the corridor leaves STOPPING, and without the enable it is IDLE. -/
theorem State.ReleaseEnded.leaves_stopping (hnone : ∀ j : StationIx, j ≠ k → u.releaseOut j = false) :
    t.ps.corridor ≠ .stopping ∧ (u.ps.enable = false →
      t.ps.corridor = .idle ∧ t.ps.active = none ∧ t.tb.m = 0 ∧ (t.st k).coord = .free) := by
  have hidle := h.idle_of_none hnone
  subst hidle
  refine ⟨by rw [hstays.ps]; exact State.enterIdle_leaves _, fun henable => ?_⟩
  have hps : (u.enterFree k .released).ps = u.ps := (u.enterFree_aside (kept := True) k .released).ps
  rw [State.enterIdle_of_not _ (.inl (by rw [hps]; exact henable))] at hstays
  obtain ⟨hcorridor, hactive, hmaster, hcoord⟩ := hstays.of_rested
  obtain ⟨hfree, -⟩ := u.enterFree_free k .released
  exact ⟨hcorridor, hactive, hmaster, hcoord k hfree⟩

end

end Sys2Proof.Machine

open Sys2Proof Sys2Proof.Machine

/-- Settles O31: each frame is delivered first, and then the reply's parts are followed to the end of the exchange. -/
theorem deliveredFramesTakeEffect : Obligations.DeliveredFramesTakeEffect := by
  refine ⟨fun s x cfg heard r o body m a b hx hframe hd hcfg hr ho hb hm hn hrn hbasis htime hl hheld hsync => ?_,
    fun s x cfg heard r v f e m a b h hframe hsteady hnotices houts hnone hv hf hfk hkind he hout hk hm => ?_,
    fun s x cfg heard r o a b h hframe hb ho hstop hcoord hl hlaw => ?_,
    fun s x cfg heard r i f e a b h hframe hl hnotices houts ht he hentry hposted hcls horigin hk hf hpreempt hhold => ?_⟩
  · have hdeliver : s.deliver x = s.deliverOrder x.station o body := by rw [State.deliver, hframe]; dsimp only; rw [hb]
    have hst := State.deliverOrder_st (body := body) ho hm hn
    obtain ⟨hmodel, horder⟩ := State.replyTaken_of_agrees (s := s.deliver x) (x := x) (r := r) (a := a) (b := b)
      (m := { m with next := some { number := o.number, course := body.course } })
      (by rw [hdeliver, hst]; exact hl)
      (by
        rw [State.agrees, hdeliver, hst]
        exact ⟨rfl, hrn, htime, hsync, fun hnone => absurd hnone hbasis⟩)
      (by rw [hdeliver, hst]; exact hheld)
    exact ⟨_, exec_exchangeEnd ⟨hx, hd, hcfg, hr⟩, horder (by rw [hdeliver, hst]), hmodel⟩
  · intro k revised cleared
    have hdeliver : s.deliver x = s.deliverRevise k v f := by rw [State.deliver, hframe]
    refine ⟨fun hvn hrn htime hsync => ?_, fun hvn hagrees hstill => ?_⟩
    · let d := s.reviseTaken k v
      have hd : s.deliver x = d := hdeliver.trans (State.deliverRevise_same hf hm hvn)
      have hst : d.st k = _ := State.reviseTaken_st hm
      have hframe' : d = _ := State.reviseTaken_frame hm
      have hreply : d.replyTaken x r a b = (d.acknowledged k).takeMeasures k r :=
        State.reviseTaken_replied hsteady hnotices houts hnone hm hrn htime hsync
      obtain ⟨hmodel, hrevise, horder, -, hclc, htable, heq, hhli⟩ := d.measured_spares k r
      refine ⟨_, exec_exchangeEnd h, ?_⟩
      rw [hd, hreply]
      refine ⟨hmodel.trans (by rw [hst]; rfl), hrevise.trans (by rw [hst]), ?_, horder.trans ?_, htable.trans (by rw [hframe']), ?_⟩
      · exact congrArg (fun c : LinkControl => { c with exchange := none }) (hclc.trans (congrArg State.clc hframe'))
      · rw [hst]
        exact Option.map_congr fun y _ => y.retimed_revised m v.course
      · exact ⟨heq.trans (by rw [hframe']; rfl), hhli.trans (by rw [hframe']; rfl)⟩
    · let d := s.reviseLost k e.tag v.slot
      have hwithdrawn : (s.clearRevise k).withdrawGrant v.slot = d.evaluateTransit k :=
        State.withdrawGrant_outstanding (s := s.clearRevise k) he hout hk
      have hps : d.ps = s.ps := s.reviseLost_ps e.tag
      have hd : s.deliver x = d := by
        rw [hdeliver, State.deliverRevise_other hf hm hvn, hwithdrawn]
        exact State.evaluateTransit_of_still (by rw [hps]; exact hstill) k
      have hst : d.st k = { s.st k with revise := none, lockout := 0 } := s.reviseLost_st e.tag
      have hframe' : d = _ := s.reviseLost_eq k e.tag v.slot
      have hreply : d.replyTaken x r a b = (d.acknowledged k).takeMeasures k r :=
        State.reviseLost_replied hsteady hnotices houts hnone e.tag v.slot hagrees
      obtain ⟨hmodel, hrevise, -, hlockout, hclc, htable, heq, hhli⟩ := d.measured_spares k r
      obtain ⟨hwroteEq, hwroteHli⟩ := s.reviseLost_wrote k e.tag v.slot
      refine ⟨_, exec_exchangeEnd h, ?_⟩
      rw [hd, hreply]
      refine ⟨hmodel.trans (by rw [hst]; exact hm), hrevise.trans (by rw [hst]), hlockout.trans (by rw [hst]), ?_,
        htable.trans (by rw [hframe', State.emit_table]), heq.trans hwroteEq, hhli.trans hwroteHli⟩
      exact congrArg (fun c : LinkControl => { c with exchange := none })
        (hclc.trans ((congrArg State.clc hframe').trans (State.emit_clc _ _)))
  · let k := x.station
    let u := s.releaseTaken k
    have hdeliver : s.deliver x = (u.enterFree k .released).settle := by
      rw [State.deliver, hframe]; dsimp only; rw [hb]; exact State.deliverRelease_waiting ho
    have hst (j : StationIx) := s.releaseTaken_st k j
    have hrelease (j : StationIx) (hj : j ≠ k) : u.releaseOut j = s.releaseOut j := by
      simp only [State.releaseOut, u, hst, if_neg hj]
    have hended : u.ReleaseEnded k (s.deliver x) := by
      rw [hdeliver]; exact State.releaseEnded hstop (by rw [hst, if_pos rfl])
    have hstays := (s.deliver x).replyTaken_stays x r a b
    have horder := (s.deliver x).replyTaken_noNewOrder x r a b k hended.order
    refine ⟨_, exec_exchangeEnd h, fun hroom => ?_, fun ⟨j, hj, hout⟩ => ?_, fun hnone => ?_⟩
    · have hfirst := State.enterFree_records (s := u) (k := k) (c := .released) (by rw [hst, if_pos rfl]; exact hcoord) hroom
      have hquiet : Quiet (u.enterFree k .released) ((s.deliver x).replyTaken x r a b) := by
        rw [hdeliver]; exact (State.settle_quiet _).trans (State.replyTaken_quiet _ x r a b)
      obtain ⟨more, hmore⟩ := hfirst.trans hquiet.records
      exact ⟨more, by
        show ((s.deliver x).replyTaken x r a b).eq.records = _
        rw [← hmore, List.append_assoc]; rfl⟩
    · obtain ⟨hps, hfree, hsynced⟩ := hended.stays_stopping hstays hstop ⟨j, hj, (hrelease j hj).trans hout⟩
      exact ⟨hps, horder, hfree, hsynced⟩
    · obtain ⟨hleaves, hidle⟩ := hended.leaves_stopping hstays fun j hj => (hrelease j hj).trans (hnone j hj)
      refine ⟨hleaves, fun henable => ?_⟩
      obtain ⟨hcorridor, hactive, hmaster, hfree⟩ := hidle henable
      exact ⟨hcorridor, hactive, hmaster, horder, hfree⟩
  · intro k
    have hdeliver : s.deliver x = s.deliverPreempt i f x.slotTick := by rw [State.deliver, hframe]
    have harmed : s.Armed k i (e.preempting x.slotTick) (s.deliver x) := by
      rw [hdeliver]; exact State.deliverPreempt_armed ht he hentry hposted hk hf hcls
    have hlink : ((s.deliver x).st k).link = .online := by
      rw [hdeliver, State.deliverPreempt_link ht he hentry hposted hk hf]; exact hl
    obtain ⟨u, hu, hrest, hreply⟩ := harmed.replied (a := a) (b := b) hlink hnotices houts
    obtain ⟨hseen, hslots, hclc, hstations⟩ := hu.observed rfl r.preempt
    have hst (j : StationIx) : (u.observePreempt k r.preempt).st j = u.st j := State.st_congr hstations j
    refine ⟨_, exec_exchangeEnd h, ?_⟩
    rw [hreply]
    refine ⟨(congrArg (·.routeActive) (hst k)).trans hu.route, (congrArg (·.hold) (hst k)).trans hu.hold, hseen, fun y hy hyk hyc hya => ?_,
      fun g hg => ?_, fun hr hc hh => ?_⟩
    · refine State.entry_none.2 fun z hz hzy => hu.gone y hy ⟨hyk, hyc, hya⟩ ?_
      rw [← hslots, ← hzy]
      exact List.mem_map_of_mem hz
    · refine hu.urgent g ?_
      rw [← hclc]
      exact hg
    · have hheld : (s.deliver x).st k |>.AtRest := by
        rw [hdeliver]; exact State.deliverPreempt_atRest ht he hentry hposted hk hf hr hl hc hh
      obtain ⟨hcoord, hsynced, hrevise, hcycle⟩ := hrest hheld
      refine ⟨(congrArg (·.coord) (hst k)).trans hcoord, (congrArg (·.synced) (hst k)).trans hsynced,
        (congrArg (·.revise) (hst k)).trans hrevise, fun o ho => ?_⟩
      have ho : (u.st k).order = some o := (congrArg (·.order) (hst k)).symm.trans ho
      rw [Station.cycleOrder, ho] at hcycle
      exact hcycle
end

section
/-! SUPPORT. What the operations on single stations, grants, holds and the request table carry through of a station's record: what it says
of its link, of its hold's sources and of its last sample; a hold that agrees with its sources; and the rest of a station whose link is
LOST (R47, R48, R53, R73, R112, R137, R141). -/

-- One proof at a time: elaborated in parallel, each proof that waits for an earlier one holds a thread and its stack.
set_option Elab.async false

namespace Sys2Proof.Machine

/-- What a station's record says of its configuration, its link, the sources of its hold that have no request, and its sample. -/
def Station.reported (t : Station) : Option StationConfig × (LinkState × Nat × Option FailureCause × Bool) × (Bool × Bool × Bool)
    × Nat × Nat × Option Byte :=
  (t.config, (t.link, t.misses, t.lastFailure, t.ackMark), (t.hostHold, t.manualFlag, t.preemptFlag), t.queueIn, t.queueOut, t.sampleNo)

/-- A station behind a LOST link that is FREE with no REVISE waiting (R48, R112, R141). -/
structure Station.Detached (t : Station) : Prop where
  link : t.link = .lost
  coord : t.coord = .free
  revise : t.revise = none

/-- The hold sources are among what the record reports, but for the route flag. -/
theorem State.anySource_of_reported {s t : State} {k : StationIx} (hl : t.hl = s.hl) (reported : (t.st k).reported = (s.st k).reported)
    (route : (t.st k).routeActive = (s.st k).routeActive) : t.anySource k = s.anySource k := by
  simp only [Station.reported, Prod.mk.injEq] at reported
  obtain ⟨hconfig, -, ⟨hhost, hmanual, hpreempt⟩, -⟩ := reported
  exact State.anySource_congr hl hhost hmanual hpreempt route hconfig

theorem Aside.cs {kept : Prop} {s t : State} (h : Aside kept s t) : t.cs = s.cs :=
  show t.core.cs = s.core.cs from congrArg State.cs h.core

/-- From `s` to `t` the geometry, the incident input, the image and what the records report stand; a hold that agrees with its sources
agrees still, and a station that is detached is detached still. -/
structure Carries (s t : State) : Prop where
  count : t.count = s.count
  hl : t.hl = s.hl
  cs : t.cs = s.cs
  reported : ∀ k : StationIx, (t.st k).reported = (s.st k).reported
  hold : ∀ k : StationIx, (s.st k).hold = s.anySource k → (t.st k).hold = t.anySource k
  detached : ∀ k : StationIx, (s.st k).Detached → (t.st k).Detached

namespace Carries

variable {s t u : State}

theorem trans (h : Carries s t) (h' : Carries t u) : Carries s u where
  count := h'.count.trans h.count
  hl := h'.hl.trans h.hl
  cs := h'.cs.trans h.cs
  reported k := (h'.reported k).trans (h.reported k)
  hold k := h'.hold k ∘ h.hold k
  detached k := h'.detached k ∘ h.detached k

/-- A field of what the record reports. -/
theorem field (h : Carries s t) {α : Type} (f : Station → α) (hf : ∀ a b : Station, a.reported = b.reported → f a = f b := by
    intro a b h; simp only [Station.reported, Prod.mk.injEq] at h; simp only [h]) (k : StationIx) : f (t.st k) = f (s.st k) :=
  hf _ _ (h.reported k)

/-- The holds and the route flags stand too. -/
theorem of_held (count : t.count = s.count) (hl : t.hl = s.hl) (cs : t.cs = s.cs)
    (reported : ∀ k : StationIx, (t.st k).reported = (s.st k).reported)
    (held : ∀ k : StationIx, (t.st k).hold = (s.st k).hold ∧ (t.st k).routeActive = (s.st k).routeActive)
    (detached : ∀ k : StationIx, (s.st k).Detached → (t.st k).Detached) : Carries s t where
  count := count
  hl := hl
  cs := cs
  reported := reported
  detached := detached
  hold k hk := by
    rw [(held k).1, hk]
    exact (State.anySource_of_reported hl (reported k) (held k).2).symm

/-- The station records stand. -/
theorem of_stations (stations : t.stations = s.stations := by rfl) (count : t.count = s.count := by rfl) (hl : t.hl = s.hl := by rfl)
    (cs : t.cs = s.cs := by rfl) : Carries s t := by
  have hst (k : StationIx) : t.st k = s.st k := State.st_congr stations k
  refine .of_held count hl cs (fun k => ?_) (fun k => ?_) fun k h => ?_ <;> rw [hst]
  · exact ⟨rfl, rfl⟩
  · exact h

theorem refl (s : State) : Carries s s := of_stations

theorem foldl {α : Type} {f : State → α → State} (hf : ∀ s a, Carries s (f s a)) (l : List α) (s : State) :
    Carries s (l.foldl f s) := by
  induction l generalizing s with
  | nil => exact .refl s
  | cons a l ih => exact (hf s a).trans (ih _)

/-- One record changes in what no hold and no link reads. -/
theorem modSt {k : StationIx} {f : Station → Station} (reported : (f (s.st k)).reported = (s.st k).reported := by rfl)
    (hold : (f (s.st k)).hold = (s.st k).hold := by rfl) (route : (f (s.st k)).routeActive = (s.st k).routeActive := by rfl)
    (detached : (s.st k).Detached → (f (s.st k)).Detached := by exact fun h => ⟨h.link, h.coord, h.revise⟩) :
    Carries s (s.modSt k f) := by
  have hst (j : StationIx) : (s.modSt k f).st j = if j = k then f (s.st k) else s.st j := by
    rw [State.st_modSt]; split
    · next h => rw [h]
    · rfl
  refine .of_held rfl rfl rfl (fun j => ?_) (fun j => ?_) fun j h => ?_ <;> rw [hst] <;> split
  · next hj => rw [hj]; exact reported
  · rfl
  · next hj => rw [hj]; exact ⟨hold, route⟩
  · exact ⟨rfl, rfl⟩
  · next hj => exact detached (hj ▸ h)
  · exact h

/-- Every record changes in what no hold and no link reads. -/
theorem modAll {f : Station → Station} (reported : ∀ t : Station, (f t).reported = t.reported := by exact fun _ => rfl)
    (hold : ∀ t : Station, (f t).hold = t.hold := by exact fun _ => rfl)
    (route : ∀ t : Station, (f t).routeActive = t.routeActive := by exact fun _ => rfl)
    (detached : ∀ t : Station, t.Detached → (f t).Detached := by exact fun _ h => ⟨h.link, h.coord, h.revise⟩) :
    Carries s (s.modAll f) := by
  have hall := s.modAll_eq f
  refine .of_held (congrArg (·.count) hall) (congrArg (·.hl) hall) (congrArg (·.cs) hall) (fun j => ?_) (fun j => ?_) fun j h => ?_ <;>
    rw [State.modAll_st]
  · exact reported _
  · exact ⟨hold _, route _⟩
  · exact detached _ h

/-- Nothing but coordination, waiting orders and requests changes, and a FREE station without a REVISE keeps both. -/
theorem of_aside (h : Aside True s t) (rest : ∀ k : StationIx, (s.st k).coord = .free → (s.st k).revise = none →
    (t.st k).coord = .free ∧ (t.st k).revise = none) : Carries s t := by
  refine .of_held h.count h.hl h.cs (h.field Station.reported fun _ => rfl) (h.hold trivial) fun k ⟨hlink, hcoord, hrevise⟩ => ?_
  obtain ⟨hcoord', hrevise'⟩ := rest k hcoord hrevise
  exact ⟨(h.field (·.link) (fun _ => rfl) k).trans hlink, hcoord', hrevise'⟩

end Carries

variable (s : State)

/-! ## Records, events, frames and the request table -/

theorem State.emit_carries (b : EventBody) : Carries s (s.emit b) := by
  rw [State.emit_eq]
  exact .of_stations
theorem State.modEntry_carries (i : SlotIx) (f : Entry → Entry) : Carries s (s.modEntry i f) := .of_stations
theorem State.removeEntry_carries (i : SlotIx) : Carries s (s.removeEntry i) := .of_stations
theorem State.dropUrgent_carries (p : UrgentFrame → Bool) : Carries s (s.dropUrgent p) := .of_stations
theorem State.placeUrgent_carries (k : StationIx) (x : UrgentKind) : Carries s (s.placeUrgent k x) := .of_stations
theorem State.setLockout_carries (k : StationIx) (n : Nat) : Carries s (s.setLockout k n) := .modSt
theorem State.modModel_carries (k : StationIx) (f : CycleModel → CycleModel) : Carries s (s.modModel k f) := .modSt
theorem State.unsync_carries (k : StationIx) : Carries s (s.modSt k (·.unsynced)) := .modSt
theorem State.eachStation_carries {f : State → StationIx → State} (hf : ∀ s k, Carries s (f s k)) : Carries s (s.eachStation f) :=
  .foldl hf _ s

theorem State.addEntry_carries (mk : SlotIx → Entry) : Carries s (s.addEntry mk) := by
  obtain ⟨i, -, -, h⟩ | h := State.addEntry_cases s mk <;> rw [h]
  · exact .of_stations
  · exact .refl s

/-! ## Grants -/

theorem State.grantEntry_carries (e : Entry) (g : GrantKind) (b : Bool) : Carries s (s.grantEntry e g b) :=
  (s.modEntry_carries _ _).trans (State.emit_carries _ _)

/-- A station that is not coordinated is granted nothing (R119). -/
theorem State.evaluateTransit_carries (k : StationIx) : Carries s (s.evaluateTransit k) := by
  refine .of_aside (s.evaluateTransit_aside k) fun j hcoord hrevise => ?_
  by_cases hj : j = k
  · subst hj
    rw [State.evaluateTransit_of_uncoordinated (by simp [Station.coordinated, hcoord])]
    exact ⟨hcoord, hrevise⟩
  · rw [State.evaluateTransit_st_ne hj]
    exact ⟨hcoord, hrevise⟩

theorem State.withdrawGrant_carries (i : SlotIx) : Carries s (s.withdrawGrant i) := by
  unfold State.withdrawGrant
  split
  · split
    · exact (((s.modEntry_carries _ _).trans (State.setLockout_carries _ _ _)).trans (State.emit_carries _ _)).trans
        (State.evaluateTransit_carries _ _)
    · exact .refl s
  · exact .refl s

theorem State.foldLost_carries (f : Option Fold) : Carries s (s.foldLost f) := by
  cases f
  · exact .refl s
  · exact s.withdrawGrant_carries _

theorem State.foldDelivered_carries (f : Option Fold) : Carries s (s.foldDelivered f) := by
  cases f
  · exact .refl s
  · exact s.modEntry_carries _ _

theorem State.foldFirst_carries (k : StationIx) (p : Plan) (z : Tick) (ivs : List Nat) (l : List Entry) :
    Carries s (s.foldFirst k p z ivs l).1 := by
  induction l with
  | nil => exact .refl s
  | cons e es ih =>
    unfold State.foldFirst
    dsimp only
    split
    · exact s.grantEntry_carries _ _ _
    · exact ih
    · split
      · exact .refl s
      · exact (s.setLockout_carries _ _).trans (State.grantEntry_carries _ _ _ _)

theorem State.offerFold_carries (k : StationIx) (p : Plan) (z : Tick) (ivs : List Nat) : Carries s (s.offerFold k p z ivs).1 := by
  unfold State.offerFold
  split
  · exact s.foldFirst_carries _ _ _ _ _
  · exact .refl s

theorem State.refold_carries (k : StationIx) (p : Plan) (z : Tick) (ivs : List Nat) (f : Fold) : Carries s (s.refold k p z ivs f).1 := by
  unfold State.refold
  split
  · exact .refl s
  · dsimp only
    split
    · exact s.withdrawGrant_carries _
    · split
      · exact s.modEntry_carries _ _
      · exact (s.modEntry_carries _ _).trans (State.setLockout_carries _ _ _)

theorem State.refolded_carries (k : StationIx) (p : Plan) (z : Tick) (ivs : List Nat) (f : Option Fold) :
    Carries s (s.refolded k p z ivs f).1 := by
  cases f
  · exact s.offerFold_carries k p z ivs
  · exact s.refold_carries k p z ivs _

/-! ## Coordination states and holds -/

theorem State.withdrawOrder_carries (k : StationIx) : Carries s (s.withdrawOrder k) := by
  unfold State.withdrawOrder
  split
  · exact Carries.trans .modSt (State.foldLost_carries _ _)
  · exact .refl s

theorem State.clearRevise_carries (k : StationIx) : Carries s (s.clearRevise k) := by
  have hcleared : Carries s (s.modSt k fun t => { t with revise := none }) := .modSt (detached := fun h => ⟨h.link, h.coord, rfl⟩)
  exact hcleared.trans (State.dropUrgent_carries _ _)

theorem State.withdrawRevise_carries (k : StationIx) : Carries s (s.withdrawRevise k) := by
  unfold State.withdrawRevise
  split
  · exact (s.clearRevise_carries k).trans (State.withdrawGrant_carries _ _)
  · exact .refl s

/-- A detached station takes no coordination state but FREE. -/
theorem State.setCoord_carries {k : StationIx} {c : Coord} (x : StateCause) (h : (s.st k).Detached → c = .free) :
    Carries s (s.setCoord k c x) := by
  unfold State.setCoord
  split
  · exact .refl s
  · have hmoved : Carries s (s.modSt k fun t => { t with coord := c }) := .modSt (detached := fun hd => ⟨hd.link, h hd, hd.revise⟩)
    exact hmoved.trans (State.emit_carries _ _)

theorem State.uncoordinate_carries {k : StationIx} {c : Coord} (x : StateCause) (h : (s.st k).Detached → c = .free) :
    Carries s ((((s.setCoord k c x).modSt k (·.unsynced)).withdrawOrder k).withdrawRevise k) :=
  (((s.setCoord_carries x h).trans (State.unsync_carries _ k)).trans (State.withdrawOrder_carries _ k)).trans
    (State.withdrawRevise_carries _ k)

theorem State.enterFree_carries (k : StationIx) (x : StateCause) : Carries s (s.enterFree k x) := s.uncoordinate_carries x fun _ => rfl

theorem Station.Detached.uncoordinated {t : Station} (h : t.Detached) : t.coordinated = false := by
  rw [Station.coordinated, h.coord]; rfl

theorem State.leaveFree_carries (k : StationIx) (x : StateCause) : Carries s (s.leaveFree k x) := by
  unfold State.leaveFree
  dsimp only
  split
  · next h =>
    simp only [Bool.and_eq_true, decide_eq_true_eq] at h
    obtain ⟨⟨-, hlink⟩, -⟩ := h
    have hunsynced : Carries s (s.modSt k fun t => { t.unsynced with jump := true }) := .modSt
    refine hunsynced.trans (State.setCoord_carries _ x fun hd => ?_)
    have hlost := hd.link
    rw [State.st_modSt_same] at hlost
    exact absurd (hlink.symm.trans hlost) (by decide)
  · exact .refl s

theorem State.holdChanged_carries (k : StationIx) : Carries s (s.holdChanged k) := by
  unfold State.holdChanged
  dsimp only
  split
  · next h =>
    simp only [Bool.and_eq_true, decide_eq_true_eq] at h
    obtain ⟨-, hlink⟩ := h
    have honline {c : Coord} {u : State} (hu : (u.st k).link = .online) : (u.st k).Detached → c = .free := fun hd =>
      absurd (hu.symm.trans hd.link) (by decide)
    split
    · split
      · exact s.uncoordinate_carries _ (honline hlink)
      · exact .refl s
    · split
      · have hunsynced : Carries s (s.modSt k fun t => { t with synced := false, jump := true }) := .modSt
        exact hunsynced.trans (State.setCoord_carries _ _ (honline (by rw [State.st_modSt_same]; exact hlink)))
      · exact .refl s
  · exact .refl s

/-- The other stations keep their holds and route flags when one hold is recomputed (R53). -/
theorem State.rehold_held {j k : StationIx} (hj : j ≠ k) :
    ((s.rehold k).st j).hold = (s.st j).hold ∧ ((s.rehold k).st j).routeActive = (s.st j).routeActive := by
  unfold State.rehold
  dsimp only
  split
  · exact ⟨rfl, rfl⟩
  · have h := (State.holdChanged_aside (kept := True) (s.modSt k fun t => { t with hold := s.anySource k }) k).hold trivial j
    rwa [State.st_modSt_ne _ hj] at h

/-- One record changes where only its hold's sources may, and its hold is recomputed (R53). -/
theorem State.modSt_rehold_carries {k : StationIx} {f : Station → Station} (reported : (f (s.st k)).reported = (s.st k).reported)
    (detached : (s.st k).Detached → (f (s.st k)).Detached := by exact fun h => ⟨h.link, h.coord, h.revise⟩) :
    Carries s ((s.modSt k f).rehold k) := by
  have haside := (s.modSt k f).rehold_aside k
  have hst (j : StationIx) : (s.modSt k f).st j = if j = k then f (s.st k) else s.st j := by
    rw [State.st_modSt]; split
    · next h => rw [h]
    · rfl
  have hreported (j : StationIx) : (((s.modSt k f).rehold k).st j).reported = (s.st j).reported := by
    rw [haside.field Station.reported (fun _ => rfl), hst]
    split
    · next h => rw [h]; exact reported
    · rfl
  refine ⟨haside.count, haside.hl, haside.cs, hreported, fun j hj => ?_, fun j hd => ?_⟩
  · by_cases hjk : j = k
    · rw [hjk]; exact State.rehold_hold _ k
    · have hheld := (s.modSt k f).rehold_held hjk
      rw [State.st_modSt_ne _ hjk] at hheld
      obtain ⟨hhold, hroute⟩ := hheld
      rw [hhold, hj]
      exact (State.anySource_of_reported (s := s) haside.hl (hreported j) hroute).symm
  · have hd' : ((s.modSt k f).st j).Detached := by
      rw [hst]; split
      · next h => exact detached (h ▸ hd)
      · exact hd
    unfold State.rehold
    dsimp only
    split
    · exact hd'
    · refine (State.holdChanged_carries _ k).detached j ?_
      rw [State.st_modSt]
      split
      · exact ⟨hd'.link, hd'.coord, hd'.revise⟩
      · exact hd'

theorem State.rehold_carries (k : StationIx) : Carries s (s.rehold k) := by
  have h := s.modSt_rehold_carries (k := k) (f := id) rfl id
  rwa [s.modSt_self rfl] at h

theorem State.reholdAll_carries : Carries s s.reholdAll := s.eachStation_carries fun s k => s.rehold_carries k

/-! ## Departures and emergencies -/

theorem State.letGo_carries (e : Entry) : Carries s (s.letGo e) := by
  have hfold (u : State) : Carries u (u.modSt e.station fun t =>
      { t with order := t.order.map fun o => { o with body := o.body.map (·.dropFold e.slot) } }) := .modSt
  unfold State.letGo
  split
  · dsimp only
    split
    · exact (s.clearRevise_carries _).trans (hfold _)
    · exact hfold _
  · exact .refl s

theorem State.leave_carries (e : Entry) (o : ReqOutcome) : Carries s (s.leave e o) := by
  have hgone : Carries s ((s.emit (.requestEnd e.station o e.grant e.tag)).letGo e) :=
    (s.emit_carries _).trans (State.letGo_carries _ _)
  unfold State.leave
  dsimp only
  split
  · exact (hgone.trans (State.dropUrgent_carries _ _)).trans (State.removeEntry_carries _ _)
  · exact hgone.trans (State.removeEntry_carries _ _)

theorem State.routeEnded_carries (k : StationIx) : Carries s (s.routeEnded k) := s.modSt_rehold_carries rfl

theorem State.endEntry_carries (e : Entry) (o : ReqOutcome) : Carries s (s.endEntry e o) := by
  unfold State.endEntry
  dsimp only
  split
  · exact (s.leave_carries e o).trans (State.routeEnded_carries _ _)
  · exact s.leave_carries e o

theorem State.supersede_carries (k : StationIx) : Carries s (s.supersede k) := by
  unfold State.supersede
  split
  · exact s.endEntry_carries _ _
  · exact .refl s

theorem State.post_carries (e : Entry) : Carries s (s.post e) := (s.placeUrgent_carries _ _).trans (State.modEntry_carries _ _ _)

theorem State.unpost_carries (e : Entry) : Carries s (s.unpost e) := (s.dropUrgent_carries _).trans (State.modEntry_carries _ _ _)

theorem State.activateEmergency_carries (e : Entry) : Carries s (s.activateEmergency e) :=
  (s.supersede_carries _).trans (State.modEntry_carries _ _ _)

theorem State.takeUp?_carries {k : StationIx} {t : State} (h : s.takeUp? k = some t) : Carries s t := by
  unfold State.takeUp? at h
  split at h
  · split at h
    · cases h
    · split at h
      · cases h; exact s.activateEmergency_carries _
      · split at h
        · cases h; exact s.post_carries _
        · cases h
  · cases h

theorem State.takeUp_carries (k : StationIx) : Carries s (s.takeUp k) := by
  unfold State.takeUp
  cases h : s.takeUp? k with
  | none => exact .refl s
  | some t => exact s.takeUp?_carries h

theorem State.resume_carries (k : StationIx) (a b : Bool) : Carries s (s.resume k a b) := by
  unfold State.resume
  split
  · split
    · next h => exact s.takeUp?_carries h
    · exact s.evaluateTransit_carries k
  · split
    · exact s.takeUp_carries k
    · exact .refl s

theorem State.leaveSlot_carries (i : SlotIx) (o : ReqOutcome) : Carries s (s.leaveSlot i o) := by
  unfold State.leaveSlot
  split
  · exact s.leave_carries _ _
  · exact .refl s

theorem State.depart_carries (i : SlotIx) (o : ReqOutcome) : Carries s (s.depart i o) := by
  unfold State.depart
  split
  · exact (s.endEntry_carries _ _).trans (State.resume_carries _ _ _ _)
  · exact .refl s

theorem State.departAll_carries (p : Entry → Bool) (o : ReqOutcome) : Carries s (s.departAll p o) := by
  have hleft (l : List SlotIx) : Carries s (l.foldl (fun s i => s.leaveSlot i o) s) := .foldl (fun s i => s.leaveSlot_carries i o) l s
  refine ((hleft _).trans (State.eachStation_carries _ fun s k => ?_)).trans (State.eachStation_carries _ fun s k => s.resume_carries _ _ _)
  split
  · exact s.routeEnded_carries k
  · exact .refl s

theorem State.displace_carries (n : Nat) : Carries s (s.displace n) := .foldl (fun s i => s.depart_carries i _) _ s

end Sys2Proof.Machine
end

section
/-! SUPPORT. What running the corridor, the cycles of the stations and the parts of a reply carry through of the stations' records (R36,
R39 to R43, R47, R84 to R88, R96 to R107, R112, R116 to R129, R137). -/

-- One proof at a time: elaborated in parallel, each proof that waits for an earlier one holds a thread and its stack.
set_option Elab.async false

namespace Sys2Proof.Machine

variable (s : State)

/-! ## Running the corridor (R23, R36, R39 to R43) -/

theorem State.planEvaluation_carries : Carries s s.planEvaluation := by
  rw [State.planEvaluation_eq]
  exact .of_stations

/-- Stations behind an ONLINE link leave FREE alone (R40, R47). -/
theorem State.enterRunning_carries (r : Reason) : Carries s (s.enterRunning r) := by
  cases hx : s.slot s.governing with
  | none => rw [s.enterRunning_of_empty hx]; exact .refl s
  | some x =>
    have hunderway : Carries s (s.underway s.governing x.plan) := .of_stations
    have hjump (u : State) : Carries u (u.modAll fun t => { t with jump := true }) := .modAll
    have hring (u : State) : Carries u ((u.emptyRing).takeWeight x.plan) := .of_stations
    rw [State.enterRunning_eq hx]
    exact ((((hunderway.trans (State.emit_carries _ _)).trans (State.emit_carries _ _)).trans (hjump _)).trans (hring _)).trans
      (State.eachStation_carries _ fun s k => s.leaveFree_carries k .run)

theorem Station.enterMins_reported (t : Station) : t.enterMins.reported = t.reported := by
  rw [Station.enterMins_eq]; rfl

theorem State.rested_carries : Carries s s.rested := by
  have hidled : Carries s s.idled := .of_stations
  have hcleared (u : State) : Carries u (u.modAll fun t => t.enterMins.clearTarget) := by
    refine .modAll (fun t => t.enterMins_reported) (fun t => ?_) (fun t => ?_) fun t h => ?_ <;> rw [Station.enterMins_eq]
    exacts [rfl, rfl, ⟨h.link, h.coord, h.revise⟩]
  have hring (u : State) : Carries u u.emptyRing := .of_stations
  exact (((hidled.trans (hcleared _)).trans (hring _)).trans (State.emit_carries _ _)).trans (State.planEvaluation_carries _)

theorem State.enterIdle_carries : Carries s s.enterIdle := by
  rw [State.enterIdle_eq]
  split
  · exact s.rested_carries.trans (State.enterRunning_carries _ _)
  · exact s.rested_carries

theorem State.settle_carries : Carries s s.settle := by
  unfold State.settle
  split
  · exact s.enterIdle_carries
  · exact .refl s

theorem State.releaseStation_carries (k : StationIx) : Carries s (s.releaseStation k) := by
  unfold State.releaseStation
  split
  · exact .refl s
  · exact (s.withdrawOrder_carries k).trans .modSt

theorem State.enterStopping_carries (r : Reason) : Carries s (s.enterStopping r) := by
  have hhalted : Carries s (s.halted r) := by
    rw [State.halted, State.stage, State.emit_eq]
    exact .of_stations
  rw [State.enterStopping_eq]
  exact ((hhalted.trans (State.eachStation_carries _ fun s k => s.releaseStation_carries k)).trans
    (State.departAll_carries _ _ _)).trans (State.settle_carries _)

theorem State.evaluate_carries (r : Reason) : Carries s (s.evaluate r) := by
  have hplan := s.planEvaluation_carries
  unfold State.evaluate
  dsimp only
  split
  · split
    · exact hplan.trans (State.enterRunning_carries _ r)
    · exact hplan
  · split
    · exact hplan
    · exact hplan.trans (State.enterStopping_carries _ r)
  · exact hplan

theorem State.takeOver_carries (g : Nat) : Carries s (s.takeOver g) := by
  have hweight (u : State) (p : Plan) : Carries u (u.takeWeight p) := .of_stations
  have htaken : Carries s { s with ps := { s.ps with active := some g, staged := none }, tb := { s.tb with m := 0 } } := .of_stations
  have hcleared (u : State) : Carries u (u.modAll fun t => t.clearTarget.noteTakeOver) := .modAll
  have hring (u : State) : Carries u u.emptyRing := .of_stations
  have hnoted (b : EventBody) (u : State) : Carries u (((u.emit b).modAll fun t => t.clearTarget.noteTakeOver).emptyRing) :=
    ((u.emit_carries b).trans (hcleared _)).trans (hring _)
  unfold State.takeOver
  dsimp only
  split
  · exact (htaken.trans (hnoted _ _)).trans (hweight _ _)
  · exact htaken.trans (hnoted _ _)

/-! ## Local zeros and order points (R78, R84, R85, R88, R89) -/

theorem State.tidalEvaluation_carries : Carries s s.tidalEvaluation := by
  have hweight (u : State) (m : Measurement) : Carries u { u with mu := m } := .of_stations
  unfold State.tidalEvaluation
  dsimp only
  split
  · exact .refl s
  · split
    · exact (hweight s _).trans (State.emit_carries _ _)
    · exact .refl s

theorem State.tidalZero_carries : Carries s s.tidalZero := by
  have hcleared (u : State) (m : Measurement) : Carries u { u with mu := m } := .of_stations
  rw [State.tidalZero]
  dsimp only
  generalize (if s.mu.ring.length < 4 then s.mu.ring else s.mu.ring.drop (s.mu.ring.length - 3)) = ring
  split
  · exact (hcleared s _).trans (State.tidalEvaluation_carries _)
  · exact hcleared s _

theorem State.handOn_carries (k : StationIx) : Carries s (s.handOn k) := by
  have hage : Carries s (s.modSt k fun t => { t with age := min Config.sampleLife (t.age + 1) }) := .modSt
  have hend (u : State) : Carries u ((u.modSt k fun t => { t with lockout := t.lockout - 1 }).evaluateTransit k) :=
    Carries.trans .modSt (State.evaluateTransit_carries _ _)
  unfold State.handOn
  dsimp only
  split
  · exact (hage.trans (State.tidalZero_carries _)).trans (hend _)
  · exact hage.trans (hend _)

theorem State.takeZero_carries (k : StationIx) (m : CycleModel) (n : Byte) (t : Tick) : Carries s (s.takeZero k m n t) := by
  have hmodel : Carries s (s.modSt k fun x => { x with model := some (m.zero n t) }) := .modSt
  unfold State.takeZero
  dsimp only
  split
  · exact hmodel
  · exact hmodel.trans (State.handOn_carries _ _)

theorem State.modSt_enterMins_carries (k : StationIx) : Carries s (s.modSt k (·.enterMins)) := by
  refine .modSt (Station.enterMins_reported _) ?_ ?_ fun h => ?_ <;> rw [Station.enterMins_eq]
  exact ⟨h.link, h.coord, h.revise⟩

/-- An order point at a station that is not detached (R88, R89, R101). -/
theorem State.raiseOrderPoint_carries {k : StationIx} (n : Byte) (z : Tick) (h : ¬ (s.st k).Detached) :
    Carries s (s.raiseOrderPoint k n z) := by
  have hbuild (plan : Nat) (p : Plan) : Carries s (s.buildOrder k plan p n z) := by
    have haimed : Carries s (s.aimed k p) := by
      unfold State.aimed State.moveTarget
      exact (s.modSt_enterMins_carries k).trans .modSt
    have hattached : ¬ ((s.aimed k p).st k).Detached := fun hd => h (by
      have hst : ((s.aimed k p).st k).coord = (s.st k).coord ∧ ((s.aimed k p).st k).revise = (s.st k).revise := by
        unfold State.aimed State.moveTarget
        rw [State.st_modSt_same, State.st_modSt_same, Station.enterMins_eq]
        exact ⟨rfl, rfl⟩
      exact ⟨(haimed.field (·.link) (k := k)).symm.trans hd.link, hst.1.symm.trans hd.coord, hst.2.symm.trans hd.revise⟩)
    have hproject (u : State) (d : Nat) (tr : Transition) (hu : ¬ (u.st k).Detached) : Carries u (u.project k p d tr) := by
      refine Carries.trans .modSt (State.setCoord_carries _ _ fun hd => ?_)
      rw [State.st_modSt_same] at hd
      exact absurd ⟨hd.link, hd.coord, hd.revise⟩ hu
    obtain ⟨d, target, heq⟩ := s.buildOrder_eq k plan p n z
    rw [heq]
    exact ((haimed.trans (hproject _ d (transition p k ((s.aimed k p).st k).minsInForce d) hattached)).trans
      (State.offerFold_carries _ k p z _)).trans .modSt
  unfold State.raiseOrderPoint
  split
  · split
    · exact hbuild _ _
    · exact .refl s
  · exact s.modSt_enterMins_carries k

/-! ## Models and orders after a reply (R82, R83, R96 to R98, R107, R112) -/

theorem State.rebuildOrder_carries (k : StationIx) (o : WaitingOrder) (b : OrderBody) (p : Plan) (z : Tick) :
    Carries s (s.rebuildOrder k o b p z) := by
  obtain ⟨d, heq⟩ := s.rebuildOrder_eq k o b p z
  rw [heq]
  have hnoted (c : Option Correction) : Carries s (s.modSt k fun t => { t with lastError := some d, correction := c }) := .modSt
  exact ((hnoted _).trans (State.refolded_carries _ k p z _ _)).trans .modSt

theorem State.orderAfterResync_carries (k : StationIx) : Carries s (s.orderAfterResync k) := by
  unfold State.orderAfterResync
  dsimp only
  split
  · split
    · exact .refl s
    · have habsent : Carries s (s.modSt k fun t => { t with order := none }) := .modSt
      have hlate (n : Byte) (c : LateCause) (f : Option Fold) :
          Carries s (((s.modSt k fun t => { t with order := none }).emit (.orderLate k n c)).foldLost f) :=
        (habsent.trans (State.emit_carries _ _)).trans (State.foldLost_carries _ _)
      split
      · exact hlate _ _ _
      · split
        · exact .refl s
        · split
          · exact hlate _ _ _
          · split
            · exact .modSt
            · split
              · exact s.rebuildOrder_carries _ _ _ _ _
              · exact .refl s
  · exact .refl s

theorem State.reviseAfterResync_carries (k : StationIx) : Carries s (s.reviseAfterResync k) := by
  unfold State.reviseAfterResync
  dsimp only
  split
  · next r m hr hm =>
    split
    · exact s.withdrawRevise_carries k
    · exact .modSt (detached := fun h => absurd (hr.symm.trans h.revise) nofun)
  · exact .refl s

theorem State.resync_carries (k : StationIx) (m : CycleModel) (t : Tick) (n : Byte) (c : Nat) (w : Bool) :
    Carries s (s.resync k m t n c w) := by
  have hend (u : State) : Carries u (((((u.modSt k fun t => { t with synced := t.synced || t.coord = .seeking }).markResync k t)
      ).orderAfterResync k).reviseAfterResync k) := by
    have hsync : Carries u (u.modSt k fun t => { t with synced := t.synced || t.coord = .seeking }) := .modSt
    have hmark (v : State) : Carries v (v.markResync k t) := by
      unfold State.markResync
      split
      · exact .of_stations
      · exact .refl v
    exact ((hsync.trans (hmark _)).trans (State.orderAfterResync_carries _ k)).trans (State.reviseAfterResync_carries _ k)
  have hstepped : Carries s (if 0 < numberStep n m.number then s.takeZero k m n t
      else if numberStep n m.number < 0 then s.modModel k fun m => { m with number := n, next := none } else s) := by
    split
    · exact s.takeZero_carries k m n t
    · split
      · exact s.modModel_carries _ _
      · exact .refl s
  unfold State.resync
  dsimp only
  refine Carries.trans ?_ (hend _)
  split
  · exact (hstepped.trans (State.modModel_carries _ _ _)).trans (State.emit_carries _ _)
  · exact hstepped.trans (State.modModel_carries _ _ _)

theorem State.cyclePart_carries (k : StationIx) (t : Tick) (n : Byte) (c : Nat) (w : Bool) : Carries s (s.cyclePart k t n c w) := by
  have hcreated : Carries s (s.createModel k t n c) := by
    unfold State.createModel
    exact .modSt
  unfold State.cyclePart
  dsimp only
  split
  · exact hcreated
  · split
    · exact s.resync_carries k _ t n c w
    · exact .refl s

/-! ## Deliveries (R43, R86, R87, R104, R105, R109, R112, R127) -/

theorem State.clearOrder_carries (k : StationIx) (w : Bool) : Carries s (s.clearOrder k w) := by
  unfold State.clearOrder
  split
  · exact .modSt
  · exact .refl s

theorem State.deliverOrder_carries (k : StationIx) (o : WaitingOrder) (b : OrderBody) : Carries s (s.deliverOrder k o b) :=
  ((s.clearOrder_carries _ _).trans (State.modModel_carries _ _ _)).trans (State.foldDelivered_carries _ _)

theorem State.retimeOrder_carries (k : StationIx) : Carries s (s.retimeOrder k) := by
  obtain h | ⟨o, d, -, -, h⟩ := s.retimeOrder_cases k <;> rw [h]
  · exact .refl s
  · exact .modSt

theorem State.deliverRelease_carries (k : StationIx) (o : WaitingOrder) : Carries s (s.deliverRelease k o) := by
  have hcleared : Carries s ((s.clearOrder k (s.stillWaiting k o)).modModel k (·.released)) :=
    (s.clearOrder_carries _ _).trans (State.modModel_carries _ _ _)
  unfold State.deliverRelease
  dsimp only
  split
  · exact (hcleared.trans (State.enterFree_carries _ _ _)).trans (State.settle_carries _)
  · exact hcleared

theorem State.deliverRevise_carries (k : StationIx) (r : WaitingRevise) (f : UrgentFrame) : Carries s (s.deliverRevise k r f) := by
  have hclear : Carries s (if s.clc.urgent.contains f then s.clearRevise k else s) := by
    split
    · exact s.clearRevise_carries _
    · exact .refl s
  have hend (u : State) : Carries u (if (u.st k).model.any (·.number = r.number)
      then ((u.modModel k (·.revised r.course)).retimeOrder k).grantDelivered r.slot else u.withdrawGrant r.slot) := by
    split
    · exact ((u.modModel_carries _ _).trans (State.retimeOrder_carries _ _)).trans (State.modEntry_carries _ _ _)
    · exact u.withdrawGrant_carries _
  exact hclear.trans (hend _)

theorem State.deliverPreempt_carries (i : SlotIx) (f : UrgentFrame) (t : Tick) : Carries s (s.deliverPreempt i f t) := by
  have hroute (u : State) (k : StationIx) : Carries u ((u.modSt k fun t => { t with routeActive := true }).rehold k) :=
    u.modSt_rehold_carries rfl
  unfold State.deliverPreempt
  split
  · split
    · exact (((s.dropUrgent_carries _).trans (State.supersede_carries _ _)).trans (State.modEntry_carries _ _ _)).trans (hroute _ _)
    · exact .refl s
  · exact .refl s

theorem State.deliver_carries (x : Exchange) : Carries s (s.deliver x) := by
  unfold State.deliver
  split
  · exact .refl s
  · split
    · exact s.deliverOrder_carries _ _ _
    · exact s.deliverRelease_carries _ _
  · exact s.deliverRevise_carries _ _ _
  · exact s.deliverPreempt_carries _ _ _

theorem State.dropOrder_carries (k : StationIx) (o : WaitingOrder) : Carries s (s.dropOrder k o) := by
  have habsent : Carries s (s.modSt k fun t => { t with order := none }) := .modSt
  unfold State.dropOrder
  dsimp only
  split
  · exact (habsent.trans (State.emit_carries _ _)).trans (State.foldLost_carries _ _)
  · exact ((habsent.trans (State.emit_carries _ _)).trans (State.enterFree_carries _ _ _)).trans (State.settle_carries _)

/-! ## The parts of a reply that carry the records (R47, R116 to R129) -/

theorem State.linkReturn_carries (k : StationIx) (b : Bool) : Carries s (s.linkReturn k b) := by
  unfold State.linkReturn
  split
  · exact (s.leaveFree_carries k _).trans (State.takeUp_carries _ k)
  · exact .refl s

theorem State.transitNotice_carries (k : StationIx) (t : Tick) (n : Notice) : Carries s (s.transitNotice k t n) := by
  unfold State.transitNotice
  split
  · split
    · exact (s.addEntry_carries _).trans (State.evaluateTransit_carries _ _)
    · exact s.emit_carries _
  · exact .refl s

theorem State.enterEmergency_carries (k : StationIx) (t : Tick) (n : Notice) : Carries s (s.enterEmergency k t n) := by
  unfold State.enterEmergency
  dsimp only
  split
  · exact .refl s
  · split
    · exact s.addEntry_carries _
    · split
      · exact ((s.addEntry_carries _).trans (State.unpost_carries _ _)).trans (State.activateEmergency_carries _ _)
      · exact (s.addEntry_carries _).trans (State.activateEmergency_carries _ _)

theorem State.emergencyNotice_carries (k : StationIx) (t : Tick) (n : Notice) : Carries s (s.emergencyNotice k t n) := by
  unfold State.emergencyNotice
  split
  · exact s.enterEmergency_carries k t n
  · split
    · exact s.emit_carries _
    · exact (s.displace_carries _).trans (State.enterEmergency_carries _ k t n)

theorem State.takeNotice_carries (k : StationIx) (t : Tick) (n : Notice) : Carries s (s.takeNotice k t n) := by
  unfold State.takeNotice
  split
  · exact .refl s
  · split
    · exact s.transitNotice_carries k t n
    · exact s.emergencyNotice_carries k t n
    · exact .refl s

theorem State.checkOut_carries (k : StationIx) (tag : Word16) : Carries s (s.checkOut k tag) := by
  unfold State.checkOut
  split
  · exact s.depart_carries _ _
  · exact .refl s

theorem State.observePreempt_carries (k : StationIx) (b : Bool) : Carries s (s.observePreempt k b) := by
  unfold State.observePreempt
  split
  · split
    · exact s.modEntry_carries _ _
    · split
      · exact s.depart_carries _ _
      · exact .refl s
  · exact .refl s

theorem State.takePriority_carries (k : StationIx) (t : Tick) (r : Status) : Carries s (s.takePriority k t r) := by
  have hnotices : Carries s (r.notices.foldl (fun s n => s.takeNotice k t n) s) := .foldl (fun s n => s.takeNotice_carries k t n) _ s
  have houts (u : State) : Carries u (r.checkOuts.foldl (fun s tag => s.checkOut k tag) u) :=
    .foldl (fun s tag => s.checkOut_carries k tag) _ u
  exact (hnotices.trans (houts _)).trans (State.observePreempt_carries _ k _)

theorem State.unpostAt_carries (k : StationIx) : Carries s (s.unpostAt k) := by
  unfold State.unpostAt
  split
  · exact (s.unpost_carries _).trans (State.takeUp_carries _ k)
  · exact .refl s

theorem State.comeDue_carries (e : Entry) : Carries s (s.comeDue e) := by
  unfold State.comeDue
  split
  · exact s.post_carries e
  · exact (s.modEntry_carries _ _).trans (State.takeUp_carries _ _)

end Sys2Proof.Machine
end

section
/-! SUPPORT. The loss and the return of a link, the requests, the resets and the tick keep what the link law says of each station (R6, R8,
R47, R48, R112, R141, R142, R160), and so does every command. -/

-- One proof at a time: elaborated in parallel, each proof that waits for an earlier one holds a thread and its stack.
set_option Elab.async false

namespace Sys2Proof.Machine

/-- What the link law says of one station's record (R48, R112, R141). -/
def Station.LinkLaw (t : Station) : Prop := t.link = .lost → t.misses = 3 ∧ t.coord = .free ∧ t.revise = none

/-- From `s` to `t` every station that keeps the link law keeps it still. -/
def Tethers (s t : State) : Prop := ∀ k : StationIx, (s.st k).LinkLaw → (t.st k).LinkLaw

theorem Station.LinkLaw.of_online {t : Station} (h : t.link = .online) : t.LinkLaw := fun hl => absurd (h.symm.trans hl) (by decide)

theorem Station.LinkLaw.of_same {a b : Station} (link : b.link = a.link := by rfl) (misses : b.misses = a.misses := by rfl)
    (coord : b.coord = a.coord := by rfl) (revise : b.revise = a.revise := by rfl) (h : a.LinkLaw) : b.LinkLaw := by
  rw [Station.LinkLaw, link, misses, coord, revise]; exact h

theorem Station.LinkLaw.of_blank : Station.blank.LinkLaw := fun _ => ⟨rfl, rfl, rfl⟩

namespace Tethers

variable {s t u : State}

theorem trans (h : Tethers s t) (h' : Tethers t u) : Tethers s u := fun k => h' k ∘ h k

theorem of_stations (stations : t.stations = s.stations := by rfl) : Tethers s t := fun k hk => by rwa [State.st_congr stations]

theorem refl (s : State) : Tethers s s := of_stations

theorem modSt {k : StationIx} {f : Station → Station}
    (h : (s.st k).LinkLaw → (f (s.st k)).LinkLaw := by exact Station.LinkLaw.of_same) : Tethers s (s.modSt k f) := fun j hj => by
  rw [State.st_modSt]
  split
  · next hjk => subst hjk; exact h hj
  · exact hj

end Tethers

theorem Carries.tethers {s t : State} (h : Carries s t) : Tethers s t := fun k hk hlost => by
  rw [h.field (·.link)] at hlost
  obtain ⟨hmisses, hcoord, hrevise⟩ := hk hlost
  obtain ⟨-, hcoord', hrevise'⟩ := h.detached k ⟨hlost, hcoord, hrevise⟩
  exact ⟨(h.field (·.misses) (k := k)).trans hmisses, hcoord', hrevise'⟩

variable (s : State)

/-! ## The loss of a link (R48, R141) -/

/-- An entry to FREE leaves no REVISE waiting (R48, R112). -/
theorem State.enterFree_revise (k : StationIx) (x : StateCause) : ((s.enterFree k x).st k).revise = none := by
  refine State.withdrawRevise_revise ?_
  have hfree := (s.enterFree_free k x).1
  rw [State.enterFree, ((State.withdrawRevise_sameOrders _ k) k).1] at hfree
  rw [Station.coordinated, hfree]
  rfl

/-- The station whose link is gone is LOST, after three misses, FREE and without a REVISE, and the others keep the link law (R48, R141). -/
theorem State.linkGone_linkLaw (k : StationIx) (c : LossCause) :
    ((s.linkGone k c).st k).link = .lost ∧ ((s.linkGone k c).st k).misses = 3 ∧ ((s.linkGone k c).st k).Detached := by
  have hst : ((s.modSt k fun t => { t with link := .lost, misses := Config.missLimit }).emit (.linkLost k c)).st k
      = { s.st k with link := .lost, misses := Config.missLimit } := by rw [State.emit_st, State.st_modSt_same]
  unfold State.linkGone
  generalize (s.modSt k fun t => { t with link := .lost, misses := Config.missLimit }).emit (.linkLost k c) = u at hst
  have hcarries := u.enterFree_carries k .linkLost
  have hlink : ((u.enterFree k .linkLost).st k).link = .lost := by rw [hcarries.field (·.link), hst]
  have hmisses : ((u.enterFree k .linkLost).st k).misses = 3 := by rw [hcarries.field (·.misses), hst]; rfl
  rw [State.st_modSt_same]
  exact ⟨hlink, hmisses, hlink, (u.enterFree_free k .linkLost).1, u.enterFree_revise k .linkLost⟩

theorem State.linkGone_tethers (k : StationIx) (c : LossCause) : Tethers s (s.linkGone k c) := fun j hj => by
  by_cases hjk : j = k
  · subst hjk
    obtain ⟨-, hmisses, hdetached⟩ := s.linkGone_linkLaw j c
    exact fun _ => ⟨hmisses, hdetached.coord, hdetached.revise⟩
  · have hmodel (u : State) : Tethers u (u.modSt k fun t => { t with model := none }) := .modSt
    refine hmodel _ j ((State.enterFree_carries _ k .linkLost).tethers j ?_)
    rw [State.emit_st, State.st_modSt_ne _ hjk]
    exact hj

theorem State.dropFrames_carries (k : StationIx) : Carries s (s.dropFrames k) := by
  have horder : Carries s (s.modSt k fun t => { t with order := none }) := .modSt
  have hage (u : State) : Carries u (u.modSt k fun t => { t with age := Config.sampleLife }) := .modSt
  exact ((horder.trans (State.dropUrgent_carries _ _)).trans (State.settle_carries _)).trans (hage _)

/-- What follows the loss of a link at its station (R141). -/
theorem State.loseLink_carries (k : StationIx) (c : LossCause) : Carries (s.linkGone k c) (s.loseLink k c) := by
  have hall := ((s.linkGone k c).unpostAt_carries k).trans (State.dropFrames_carries _ k)
  have hring (u : State) : Carries u u.emptyRing := .of_stations rfl rfl
  rw [State.loseLink_eq]
  split
  · exact hall.trans (hring _)
  · exact hall

theorem State.loseLink_tethers (k : StationIx) (c : LossCause) : Tethers s (s.loseLink k c) :=
  (s.linkGone_tethers k c).trans (s.loseLink_carries k c).tethers

theorem State.linkReset_tethers (k : StationIx) (h : (s.st k).link = .lost) : Tethers s (s.linkReset k) := by
  have hlost : Tethers s (s.modSt k fun t =>
      { t with link := .lost, misses := Config.missLimit, ackMark := false, lastFailure := none }) := .modSt fun hk _ =>
    ⟨rfl, (hk h).2⟩
  exact hlost.trans .of_stations

theorem State.loseLink_lost (k : StationIx) (c : LossCause) : ((s.loseLink k c).st k).link = .lost :=
  ((s.loseLink_carries k c).field (·.link) (k := k)).trans (s.linkGone_linkLaw k c).1

/-- A reset link is LOST, by the loss of an ONLINE one (R8). -/
theorem State.resetLink_tethers (k : StationIx) (c : LossCause) : Tethers s (s.resetLink k c) := by
  rw [State.resetLink_eq]
  split
  · exact (s.loseLink_tethers k c).trans (State.linkReset_tethers _ k (s.loseLink_lost k c))
  · next h =>
    refine s.linkReset_tethers k ?_
    cases hl : (s.st k).link with
    | lost => rfl
    | online => exact absurd hl h

/-- A failed exchange leaves three misses at three, and loses the link at the third (R141). -/
theorem State.exchangeFailed_tethers (k : StationIx) (c : FailureCause) : Tethers s (s.exchangeFailed k c) := by
  have hnoted : Tethers s (s.modSt k fun t => { t with lastFailure := some c, ackMark := t.ackMark && !c.clearsMark }) := .modSt
  have hmiss (u : State) : Tethers u (u.modSt k fun t => { t with misses := min Config.missLimit (t.misses + 1) }) :=
    .modSt fun h hlost => by
      obtain ⟨hmisses, hrest⟩ := h hlost
      refine ⟨?_, hrest⟩
      show min 3 ((u.st k).misses + 1) = 3
      rw [hmisses]; decide
  unfold State.exchangeFailed
  dsimp only
  split
  · exact hnoted.trans (State.loseLink_tethers _ _ _)
  · exact hnoted.trans (hmiss _)

/-! ## A successful exchange (R137, R142) -/

/-- A successful exchange makes the link ONLINE (R137, R142). -/
theorem State.linkSuccess_tethers (k : StationIx) : Tethers s (s.linkSuccess k) := by
  have honline : Tethers s (s.modSt k fun t => { t with link := .online, misses := 0, ackMark := true }) := .modSt fun _ => .of_online rfl
  unfold State.linkSuccess
  dsimp only
  split
  · exact honline.trans (State.emit_carries _ _).tethers
  · exact honline

theorem State.takeFlags_tethers (k : StationIx) (r : Status) : Tethers s (s.takeFlags k r) := by
  have hflags : Tethers s (s.modSt k fun t => { t with manualFlag := r.manual, preemptFlag := r.preempt }) := .modSt
  exact hflags.trans (State.rehold_carries _ k).tethers

theorem State.takeMeasures_tethers (k : StationIx) (r : Status) : Tethers s (s.takeMeasures k r) := by
  have hsample : Tethers s (s.modSt k (·.takeSample r)) := .modSt fun h => by rw [Station.takeSample_eq]; exact h
  unfold State.takeMeasures State.takeCounts
  split
  · exact hsample.trans .of_stations
  · exact hsample

theorem State.exchangeSucceeded_tethers (x : Exchange) (r : Status) (a b : Bool) : Tethers s (s.exchangeSucceeded x r a b) := by
  have hreturn (u : State) (back : Bool) : Tethers u (if a then (u.linkReturn x.station back).takeFlags x.station r
      else (u.takeFlags x.station r).linkReturn x.station back) := by
    split
    · exact (u.linkReturn_carries _ _).tethers.trans (State.takeFlags_tethers _ _ _)
    · exact (u.takeFlags_tethers _ _).trans (State.linkReturn_carries _ _ _).tethers
  have hparts (u : State) (w : Bool) : Tethers u (if b then (u.takeMeasures x.station r).cyclePart x.station x.slotTick r.number r.time w
      else (u.cyclePart x.station x.slotTick r.number r.time w).takeMeasures x.station r) := by
    split
    · exact (u.takeMeasures_tethers _ _).trans (State.cyclePart_carries _ _ _ _ _ _).tethers
    · exact (u.cyclePart_carries _ _ _ _ _).tethers.trans (State.takeMeasures_tethers _ _ _)
  exact ((((s.deliver_carries x).tethers.trans (State.linkSuccess_tethers _ _)).trans (hreturn _ _)).trans (hparts _ _)).trans
    (State.takePriority_carries _ _ _ _).tethers

theorem State.endExchange_tethers (x : Exchange) (heard : List Byte) (a b : Bool) : Tethers s (s.endExchange x heard a b) := by
  have hcleared (u : State) : Tethers u u.clearExchange := .of_stations
  refine Tethers.trans ?_ (hcleared _)
  unfold State.takeResult
  split
  · exact .refl s
  · split
    · exact .refl s
    · split
      · exact s.exchangeFailed_tethers _ _
      · exact s.exchangeSucceeded_tethers x _ a b

theorem State.startSlot_tethers : Tethers s s.startSlot := by
  unfold State.startSlot
  split
  · exact .of_stations
  · split
    · exact .of_stations
    · exact .refl s

/-! ## The geometry requests (R6, R8) -/

theorem State.judgeAll_tethers : Tethers s s.judgeAll := fun k h => by rwa [State.judgeAll_st]

theorem State.defineCorridor_tethers (n : Nat) : Tethers s (s.defineCorridor n) := fun k _ => by
  rw [State.defineCorridor_eq]
  refine State.judgeAll_tethers _ k ?_
  rw [State.redefined_st]
  exact .of_blank

theorem State.loadStation_tethers (k : StationIx) (c : StationConfig) : Tethers s (s.loadStation k c) := by
  have hstored : Tethers s (s.stored k c) := .modSt fun h => by rw [Station.loadMinimums_eq]; exact h
  have hrelinked (u : State) (again : Bool) : Tethers u (u.relinked k again) := by
    unfold State.relinked
    split
    · exact u.resetLink_tethers k _
    · exact .refl u
  have hrestructured (u : State) (again : Bool) : Tethers u (u.restructured k again) := by
    unfold State.restructured
    split
    · exact .modSt
    · exact .refl u
  rw [State.loadStation_eq]
  exact (((hstored.trans (hrelinked _ _)).trans (hrestructured _ _)).trans (State.rehold_carries _ k).tethers).trans
    (State.judgeAll_tethers _)

/-! ## The requests of the host (R145 to R149) -/

/-- A request that is refused changes nothing. -/
theorem State.checked_tethers {l : List (Bool × Result)} {r : Result × State} (h : Tethers s r.2) : Tethers s (s.checked l r).2 := by
  unfold State.checked
  split
  · exact .refl s
  · exact h

theorem State.evaluate_tethers (r : Reason) : Tethers s (s.evaluate r) := (s.evaluate_carries r).tethers

theorem State.ownLoadStation_tethers (p : List Byte) : Tethers s (s.ownLoadStation p).2 := by
  unfold State.ownLoadStation
  split
  · exact .refl s
  · split
    · exact .refl s
    · split
      · exact .refl s
      · split
        · exact .refl s
        · exact s.checked_tethers (s.loadStation_tethers _ _)

theorem State.ownLoadPlan_tethers (p : List Byte) : Tethers s (s.ownLoadPlan p).2 := by
  unfold State.ownLoadPlan
  dsimp only
  split
  · exact .refl s
  · split
    · exact .refl s
    · exact s.checked_tethers .of_stations

theorem State.ownDeleteSchedule_tethers (p : List Byte) : Tethers s (s.ownDeleteSchedule p).2 := by
  refine s.checked_tethers ?_
  dsimp only
  split
  · exact .of_stations
  · exact .refl s

theorem State.ownSetClock_tethers (p : List Byte) : Tethers s (s.ownSetClock p).2 := by
  have hset (day time : Nat) : Tethers s (s.setClock day time) := .of_stations
  exact s.checked_tethers (((hset _ _).trans (State.emit_carries _ _).tethers).trans (State.evaluate_tethers _ _))

theorem State.enableRequest_tethers (on : Bool) (reason : Reason) : Tethers s (s.enableRequest on reason).2 := by
  have henable : Tethers s (s.setEnable on) := .of_stations
  exact henable.trans (State.evaluate_tethers _ _)

theorem State.setOverride_tethers (g : Option Nat) : Tethers s (s.setOverride g) := .of_stations

theorem State.ownSelectPlan_tethers (p : List Byte) : Tethers s (s.ownSelectPlan p).2 := by
  unfold State.ownSelectPlan
  dsimp only
  split
  · exact .refl s
  · split
    · exact .refl s
    · exact (s.setOverride_tethers _).trans (State.evaluate_tethers _ _)

theorem State.ownReleasePlan_tethers : Tethers s s.ownReleasePlan.2 := by
  unfold State.ownReleasePlan
  split
  · exact .refl s
  · exact (s.setOverride_tethers _).trans (State.evaluate_tethers _ _)

theorem State.ownHoldStation_tethers (p : List Byte) : Tethers s (s.ownHoldStation p).2 := by
  have hheld (k : StationIx) (on : Bool) : Tethers s (s.holdStation k on) := Tethers.trans .modSt (State.rehold_carries _ _).tethers
  unfold State.ownHoldStation
  dsimp only
  split
  · exact .refl s
  · split
    · exact .refl s
    · exact hheld _ _

theorem State.ownSetPriorityMask_tethers (p : List Byte) : Tethers s (s.ownSetPriorityMask p).2 := by
  have hmasked (k : StationIx) (a b : Bool) : Tethers s (s.setMasks k a b) := by
    have hmasks : Tethers s (s.modSt k fun t => { t with maskIn := a, maskOut := b }) := .modSt
    unfold State.setMasks
    exact hmasks.trans .of_stations
  unfold State.ownSetPriorityMask
  split
  · exact .refl s
  · split
    · exact .refl s
    · split
      · exact .refl s
      · exact s.checked_tethers (hmasked _ _ _)

theorem State.ownSetIncident_tethers (p : List Byte) : Tethers s (s.ownSetIncident p).2 := by
  have hset (x : Polarity) (gates : Nat) : Tethers s (s.setIncident x gates) := by
    have hpolarity : Tethers s { s with hl := { s.hl with polarity := x } } := .of_stations
    have hgates (u : State) : Tethers u (u.gatesSet gates) := fun k h => by rw [State.gatesSet_st]; exact .of_same (h := h)
    rw [State.setIncident_eq]
    exact (hpolarity.trans (hgates _)).trans (State.reholdAll_carries _).tethers
  unfold State.ownSetIncident
  refine s.checked_tethers ?_
  dsimp only
  exact hset _ _

theorem State.addRoute_carries (r : RouteFields) (l : List StationIx) : Carries s (s.addRoute r l).2 := by
  induction l generalizing s with
  | nil => exact .refl s
  | cons k ks ih =>
    unfold State.addRoute
    split
    · exact ih s
    · exact (s.addEntry_carries _).trans (ih _)

theorem State.ownRouteClear_tethers (p : List Byte) : Tethers s (s.ownRouteClear p).2 :=
  s.checked_tethers ((s.displace_carries _).trans (State.addRoute_carries _ _ _)).tethers

theorem State.ownCancelRequest_tethers (p : List Byte) : Tethers s (s.ownCancelRequest p).2 := by
  unfold State.ownCancelRequest
  dsimp only
  split
  · exact .refl s
  · exact (s.departAll_carries _ _).tethers

theorem State.transmit_tethers (f : TxFrame) : Tethers s (s.transmit f) := by
  rw [State.transmit_eq]
  exact .of_stations

theorem State.noticeReport_tethers : Tethers s s.noticeReport := by
  have harmed : Tethers s { s with hli := { s.hli with armed := false } } := .of_stations
  unfold State.noticeReport
  split
  · exact harmed.trans (State.transmit_tethers _ _)
  · exact .refl s

theorem State.ownSetNotice_tethers (p : List Byte) : Tethers s (s.ownSetNotice p).2 := by
  refine s.checked_tethers ?_
  have hset (on : Bool) : Tethers s { s with hli := { s.hli with notice := on, armed := on } } := .of_stations
  unfold State.setNotice
  dsimp only
  split
  · exact (hset _).trans (State.noticeReport_tethers _)
  · exact hset _

theorem State.ownSave_tethers : Tethers s s.ownSave.2 := by
  unfold State.ownSave
  split
  · exact .refl s
  · exact .of_stations

theorem State.ownReset_tethers : Tethers s s.ownReset.2 := by
  unfold State.ownReset
  split
  · exact .refl s
  · exact .of_stations

theorem State.owner_tethers (kind : Nat) (p : List Byte) : Tethers s (s.owner kind p).2 := by
  unfold State.owner
  split
  · exact s.checked_tethers (s.defineCorridor_tethers _)
  · exact s.ownLoadStation_tethers p
  · exact s.ownLoadPlan_tethers p
  · rw [State.ownQueryPlan_snd]; exact .refl s
  · exact s.checked_tethers .of_stations
  · exact s.ownDeleteSchedule_tethers p
  · exact s.ownSetClock_tethers p
  · exact s.enableRequest_tethers _ _
  · exact s.enableRequest_tethers _ _
  · exact s.ownSelectPlan_tethers p
  · exact s.ownReleasePlan_tethers
  · exact s.ownHoldStation_tethers p
  · exact s.ownSetPriorityMask_tethers p
  · exact s.ownSetIncident_tethers p
  · exact s.checked_tethers .of_stations
  · exact s.ownRouteClear_tethers p
  · exact s.ownCancelRequest_tethers p
  · exact .refl s
  · exact .refl s
  · exact .refl s
  · exact .of_stations
  · exact s.ownSetNotice_tethers p
  · exact s.ownSave_tethers
  · exact s.ownReset_tethers
  · exact .refl s

theorem State.takeFrame_tethers (f : HostFrame) : Tethers s (s.takeFrame f) := by
  have hclear (u : State) : Tethers u { u with hli := { u.hli with overrun := false } } := .of_stations
  have hserve : Tethers s (s.serve f).2 := by
    unfold State.serve
    split
    · exact .refl s
    · split
      · exact .refl s
      · exact s.owner_tethers _ _
  exact (hserve.trans (hclear _)).trans (State.transmit_tethers _ _)

theorem State.offer_tethers (f : HostFrame) : Tethers s (s.offer f) := by
  unfold State.offer
  split
  · exact s.takeFrame_tethers f
  · split <;> exact .of_stations

theorem State.hostFrame_tethers (kind echo : Byte) (p : List Byte) : Tethers s (s.hostFrame kind echo p) := by
  have hheard : Tethers s { s with hli := { s.hli with rx := .hunting } } := .of_stations
  unfold State.hostFrame
  split
  · exact .refl s
  · exact hheard.trans (State.offer_tethers _ _)

theorem State.takeWaiting_tethers : Tethers s s.takeWaiting := by
  unfold State.takeWaiting
  split
  · split
    · next rest _ _ =>
      have hrest : Tethers s { s with hli := { s.hli with received := rest } } := .of_stations
      exact hrest.trans (State.takeFrame_tethers _ _)
    · exact .refl s
  · exact .refl s

theorem State.frameSent_tethers : Tethers s s.frameSent := by
  have htail : Tethers s { s with hli := { s.hli with transmit := s.hli.transmit.tail } } := .of_stations
  have hbegun (u : State) : Tethers u u.beginHead := by
    rw [State.beginHead_eq]
    exact .of_stations
  exact htail.trans (hbegun _)

/-! ## The resets (R160) -/

/-- After a reset every link is LOST at three misses, and every station FREE (R136, R160). -/
theorem State.afterReset_tethers (image : Image) (tb : TimeBase) (level : Bool) : Tethers s (s.afterReset image tb level) := by
  rw [State.afterReset_eq]
  refine Tethers.trans (fun k _ => ?_) (State.evaluate_tethers _ _)
  rw [State.readied_st]
  exact fun _ => ⟨rfl, rfl, rfl⟩

/-! ## Every command -/

/-- A step of a command keeps the link law of every station. -/
abbrev Tethers.Outcome (s : State) (o : Host.Outcome State Fault Refusal) : Prop := ∀ t, o = .next t → Tethers s t

theorem Tethers.Outcome.next {s t : State} (h : Tethers s t) : Tethers.Outcome s (.next t) := fun _ ht => by cases ht; exact h

theorem Tethers.Outcome.ite {s t : State} {c : Prop} [Decidable c] (h : Tethers s t) :
    Tethers.Outcome s (if c then .next t else .next s) := by
  split
  · exact .next h
  · exact .next (.refl s)

/-- What a command does to the entry in a slot, if there is one, keeps the link law of every station. -/
theorem execAtEntry_tethers {o : Option Entry} {f : Entry → Host.Outcome State Fault Refusal} (hf : ∀ e, Tethers.Outcome s (f e)) :
    Tethers.Outcome s (match o with | some e => f e | none => .next s) := by
  cases o
  · exact .next (.refl s)
  · exact hf _

theorem execMasterBoundary_tethers : Tethers.Outcome s (execMasterBoundary s) := by
  have hnoted : Tethers s { s with tb := { s.tb with masterDue := false } } := .of_stations
  unfold execMasterBoundary
  split
  · dsimp only
    split
    · exact .next (hnoted.trans (State.takeOver_carries _ _).tethers)
    · exact .next hnoted
  · exact .next (.refl s)

theorem execIncidentChange_tethers (level : Bool) : Tethers.Outcome s (execIncidentChange level s) := by
  unfold execIncidentChange
  split
  · exact .next (.refl s)
  · have hlevel : Tethers s { s with hl := { s.hl with level } } := .of_stations
    exact .next (hlevel.trans (State.reholdAll_carries _).tethers)

theorem execLocalZero_tethers (k : StationIx) : Tethers.Outcome s (execLocalZero k s) := by
  unfold execLocalZero
  split
  · exact .next (.refl s)
  · split
    · exact .next (.refl s)
    · exact .ite (s.takeZero_carries _ _ _ _).tethers

/-- An order point is raised at a coordinated station alone (R88). -/
theorem execOrderPoint_tethers (k : StationIx) : Tethers.Outcome s (execOrderPoint k s) := by
  unfold execOrderPoint
  split
  · exact .next (.refl s)
  · split
    · exact .next (.refl s)
    · split
      · next h =>
        simp only [State.orderPointHolds, Bool.and_eq_true] at h
        obtain ⟨⟨hcoordinated, -⟩, -⟩ := h
        have hattached (f : CycleModel → CycleModel) : ¬ ((s.modModel k f).st k).Detached := fun hd => by
          have huncoordinated := hd.uncoordinated
          rw [State.modModel, State.st_modSt_same] at huncoordinated
          exact absurd (hcoordinated.symm.trans huncoordinated) (by decide)
        dsimp only
        split
        · exact .next ((s.modModel_carries k _).trans (State.raiseOrderPoint_carries _ _ _ (hattached _))).tethers
        · exact .next (s.modModel_carries k _).tethers
      · exact .next (.refl s)

theorem execHostFrameReceived_tethers (rest : List Byte) : Tethers.Outcome s (execHostFrameReceived rest s) := by
  have hheard : Tethers s { s with hli := { s.hli with rx := .hunting } } := .of_stations
  unfold execHostFrameReceived
  split
  · split
    · dsimp only
      split
      · exact .next (hheard.trans (State.offer_tethers _ _))
      · exact .next hheard
    · exact .next (.refl s)
  · exact .next (.refl s)
  · exact .next (.refl s)

theorem execHostFrameSent_tethers : Tethers.Outcome s (execHostFrameSent s) := by
  have hnoted (u : State) : Tethers u u.noteEmptied := .of_stations (by simp)
  unfold execHostFrameSent
  split
  · exact .next (.refl s)
  · split
    · exact .next (s.frameSent_tethers.trans (hnoted _))
    · exact .next (s.frameSent_tethers.trans (State.takeWaiting_tethers _))

theorem execWaitingFrameRefused_tethers : Tethers.Outcome s (execWaitingFrameRefused s) := by
  unfold execWaitingFrameRefused
  split
  · next rest _ =>
    have hrest : Tethers s { s with hli := { s.hli with received := rest } } := .of_stations
    have hclear (u : State) : Tethers u { u with hli := { u.hli with overrun := false } } := .of_stations
    exact .ite ((hrest.trans (hclear _)).trans (State.transmit_tethers _ _))
  · exact .next (.refl s)

theorem execSlotStart_tethers : Tethers.Outcome s (execSlotStart s) := by
  have hbegun : Tethers s { s with clc := { s.clc with slotOpen := false } } := .of_stations
  unfold execSlotStart
  split
  · dsimp only
    split
    · exact .next (hbegun.trans (State.startSlot_tethers _))
    · exact .next hbegun
  · exact .next (.refl s)

theorem exec_tethers (i : Instr) : Tethers.Outcome s (exec i s) := by
  have hdepart (slot : SlotIx) (o : ReqOutcome) : Tethers s (s.depart slot o) := (s.depart_carries slot o).tethers
  cases i with
  | powerOnReset level => exact .next (s.afterReset_tethers _ _ level)
  | tick => exact .next .of_stations
  | minuteBoundary =>
    have hnoted : Tethers s { s with tb := { s.tb with minuteDue := false } } := .of_stations
    exact .ite (hnoted.trans (State.evaluate_tethers _ _))
  | masterBoundary => exact execMasterBoundary_tethers s
  | incidentChange level => exact execIncidentChange_tethers s level
  | localZero k => exact execLocalZero_tethers s k
  | orderPoint k => exact execOrderPoint_tethers s k
  | orderDeadlinePassed k =>
    show Tethers.Outcome s (execOrderDeadlinePassed k s)
    unfold execOrderDeadlinePassed
    split
    · exact .ite (s.dropOrder_carries _ _).tethers
    · exact .next (.refl s)
  | reviseLatestTickPassed k =>
    show Tethers.Outcome s (execReviseLatestTickPassed k s)
    unfold execReviseLatestTickPassed
    split
    · exact .ite (s.withdrawRevise_carries k).tethers
    · exact .next (.refl s)
  | transitExpiry slot => exact execAtEntry_tethers s fun _ => .ite (hdepart _ _)
  | emergencyExpiry slot => exact execAtEntry_tethers s fun _ => .ite (hdepart _ _)
  | routeDue slot => exact execAtEntry_tethers s fun _ => .ite (s.comeDue_carries _).tethers
  | routeTooLate slot => exact execAtEntry_tethers s fun _ => .ite (hdepart _ _)
  | routeRefused slot => exact execAtEntry_tethers s fun _ => .ite (hdepart _ _)
  | slotStart => exact execSlotStart_tethers s
  | exchangeEnd heard a b =>
    show Tethers.Outcome s (execExchangeEnd heard a b s)
    unfold execExchangeEnd
    split
    · exact .next (s.endExchange_tethers _ heard a b)
    · exact .next (.refl s)
  | saveComplete passes =>
    have hended (t : Tick) : Tethers s (s.endSave t passes) := (s.emit_carries _).tethers.trans .of_stations
    show Tethers.Outcome s (execSaveComplete passes s)
    unfold execSaveComplete
    split
    · exact .ite (hended _)
    · exact .next (.refl s)
  | hostFrameReceived rest => exact execHostFrameReceived_tethers s rest
  | hostFrameAbandoned =>
    show Tethers.Outcome s (execHostFrameAbandoned s)
    unfold execHostFrameAbandoned
    split
    · exact .next .of_stations
    · exact .next (.refl s)
    · exact .next (.refl s)
  | hostFrameSent => exact execHostFrameSent_tethers s
  | badKind kind echo p =>
    show Tethers.Outcome s (execBadKind kind echo p s)
    unfold execBadKind
    split
    · exact .next (.refl s)
    · exact .next (s.hostFrame_tethers _ _ _)
  | waitingFrameRefused => exact execWaitingFrameRefused_tethers s
  | resetCarriedOut level =>
    show Tethers.Outcome s (execResetCarriedOut level s)
    unfold execResetCarriedOut
    exact .ite (s.afterReset_tethers _ _ level)
  | hostFrameBegun length =>
    show Tethers.Outcome s (execHostFrameBegun length s)
    unfold execHostFrameBegun
    exact .ite .of_stations
  | _ => exact .next (s.hostFrame_tethers _ _ _)

theorem step_tethers : Tethers.Outcome s (step s) := by
  unfold step
  split
  · exact .next (.refl s)
  · next c rest _ =>
    have htaken : Tethers s { s with pending := rest } := .of_stations
    exact fun t ht => htaken.trans (exec_tethers _ c t ht)

end Sys2Proof.Machine

open Sys2Proof.Machine

/-- Settles O6: every update of a step carries a station that is detached behind a LOST link, and a link is lost together with the entry
to FREE, which withdraws the REVISE. -/
theorem stepKeepsTheLinkLaw : Obligations.StepKeepsTheLinkLaw :=
  fun s t h hst k => step_tethers s t hst k (h k)
end

section
/-! SUPPORT. What the recomputation of one hold, and of every hold, leaves of each station (R49, R53, R56). -/

-- One proof at a time: elaborated in parallel, each proof that waits for an earlier one holds a thread and its stack.
set_option Elab.async false

namespace Sys2Proof.Machine

variable {s t : State} {k : StationIx}

/-- The coordination state that a station takes, or keeps, when its hold is recomputed as `new` (R49). -/
def State.coordUnder (s : State) (k : StationIx) (new : Bool) : Coord :=
  if s.ps.corridor = .running ∧ (s.st k).link = .online ∧ (s.st k).hold ≠ new then
    if new = true then (if (s.st k).coordinated = true then .held else (s.st k).coord)
    else if (s.st k).coord = .held then .seeking else (s.st k).coord
  else (s.st k).coord

theorem State.coordUnder_congr (corridor : t.ps.corridor = s.ps.corridor) (link : (t.st k).link = (s.st k).link)
    (hold : (t.st k).hold = (s.st k).hold) (coord : (t.st k).coord = (s.st k).coord) (new : Bool) :
    t.coordUnder k new = s.coordUnder k new := by
  unfold State.coordUnder Station.coordinated
  rw [corridor, link, hold, coord]

/-! ## The five sources (R53) -/

/-- The five sources of a station's hold stand where the station's record stands but for its coordination, and its route flag stands. -/
theorem Aside.sources {kept : Prop} (h : Aside kept s t) (hl : t.hl = s.hl) (route : (t.st k).routeActive = (s.st k).routeActive) :
    t.sources k = s.sources k := by
  have hhost := h.field (·.hostHold) (fun _ => rfl) k
  have hmanual := h.field (·.manualFlag) (fun _ => rfl) k
  have hpreempt := h.field (·.preemptFlag) (fun _ => rfl) k
  have hconfig := h.field (·.config) (fun _ => rfl) k
  simp only [State.sources, State.incidentActive, Station.honours, Station.gated, hl, hhost, hmanual, hpreempt, hconfig, route]

/-- A record that stands but for its coordination and its route flag, written with the fields that may have changed. -/
theorem Station.eq_of_core {a b : Station} (h : b.core = a.core) (route : b.routeActive = a.routeActive) : b = { a with
    hold := b.hold, coord := b.coord, synced := b.synced, lastError := b.lastError, correction := b.correction
    jump := b.jump, order := b.order, revise := b.revise, lockout := b.lockout } := by
  have hb : b = { b.core with
      hold := b.hold, coord := b.coord, synced := b.synced, lastError := b.lastError, correction := b.correction
      jump := b.jump, order := b.order, revise := b.revise, lockout := b.lockout, routeActive := b.routeActive } := rfl
  rw [h, route] at hb
  exact hb

theorem State.rehold_route (s : State) (k j : StationIx) : ((s.rehold k).st j).routeActive = (s.st j).routeActive := by
  unfold State.rehold
  dsimp only
  split
  · rfl
  · rw [((State.holdChanged_aside (kept := True) _ k).hold trivial j).2, State.st_modSt]
    split
    · next h => rw [h]
    · rfl

/-- A recomputed hold is the OR of the sources as they were (R53). -/
theorem State.rehold_hold_eq (s : State) (k : StationIx) : ((s.rehold k).st k).hold = s.anySource k := by
  have haside := s.rehold_aside k
  rw [State.rehold_hold, State.anySource, haside.sources haside.hl (s.rehold_route k k)]
  rfl

/-! ## The coordination state after one hold is recomputed (R49) -/

/-- A coordination state entered with its withdrawals is the station's alone. -/
theorem State.uncoordinate_coord (s : State) (k j : StationIx) (c : Coord) (x : StateCause) :
    (((((s.setCoord k c x).modSt k (·.unsynced)).withdrawOrder k).withdrawRevise k).st j).coord = if j = k then c else (s.st j).coord := by
  have hst (u : State) : ((u.modSt k (·.unsynced)).st j).coord = (u.st j).coord := by
    rw [State.st_modSt]; split
    · next h => rw [h]; rfl
    · rfl
  rw [(State.withdrawn_coord _ k j).1, hst, State.setCoord_st]
  split <;> rfl

theorem State.holdChanged_coord (s : State) (k j : StationIx) : ((s.holdChanged k).st j).coord =
    if j = k ∧ s.ps.corridor = .running ∧ (s.st k).link = .online then
      if (s.st k).hold = true then (if (s.st k).coordinated = true then .held else (s.st k).coord)
      else if (s.st k).coord = .held then .seeking else (s.st k).coord
    else (s.st j).coord := by
  by_cases hmoves : s.ps.corridor = .running ∧ (s.st k).link = .online
  · have hif : (decide (s.ps.corridor = .running) && decide ((s.st k).link = .online)) = true := by simpa using hmoves
    simp only [hmoves, and_true]
    unfold State.holdChanged
    dsimp only
    rw [if_pos hif]
    by_cases hj : j = k
    · subst hj
      simp only [if_true]
      split
      · split
        · rw [State.uncoordinate_coord, if_pos rfl]
        · rfl
      · split
        · rw [State.setCoord_st, if_pos rfl]
        · rfl
    · rw [if_neg hj]
      split
      · split
        · rw [State.uncoordinate_coord, if_neg hj]
        · rfl
      · split
        · rw [State.setCoord_st, if_neg hj, State.st_modSt_ne _ hj]
        · rfl
  · have hif : ¬ (decide (s.ps.corridor = .running) && decide ((s.st k).link = .online)) = true := by simpa using hmoves
    unfold State.holdChanged
    dsimp only
    rw [if_neg hif, if_neg fun h => hmoves h.2]

theorem State.rehold_coord (s : State) (k : StationIx) : ((s.rehold k).st k).coord = s.coordUnder k (s.anySource k) := by
  unfold State.rehold State.coordUnder
  dsimp only
  split
  · next h => rw [if_neg fun hc => hc.2.2 h]
  · next h =>
    rw [State.holdChanged_coord, State.st_modSt_same]
    simp only [true_and, Station.coordinated]
    exact if_congr ⟨fun hc => ⟨hc.1, hc.2, h⟩, fun hc => ⟨hc.1, hc.2.1⟩⟩ rfl rfl

theorem State.rehold_coord_ne {j : StationIx} (hj : j ≠ k) : ((s.rehold k).st j).coord = (s.st j).coord := by
  unfold State.rehold
  dsimp only
  split
  · rfl
  · rw [State.holdChanged_coord, if_neg fun h => hj h.1, State.st_modSt_ne _ hj]

/-- A coordinated station whose hold becomes set is HELD with nothing waiting (R49, R106, R112). -/
theorem State.rehold_atRest (hr : s.ps.corridor = .running) (hlink : (s.st k).link = .online) (hc : (s.st k).coordinated = true)
    (hold : (s.st k).hold = false) (hnew : s.anySource k = true) : ((s.rehold k).st k).AtRest := by
  have hset : s.rehold k = (s.modSt k fun t => { t with hold := true }).holdChanged k := by
    rw [State.rehold, hnew, if_neg (by rw [hold]; decide)]
  rw [hset, State.holdChanged, State.st_modSt_same]
  dsimp only
  rw [if_pos (by simp only [Bool.and_eq_true, decide_eq_true_eq]; exact ⟨hr, hlink⟩), if_pos rfl]
  rw [if_pos (show Station.coordinated { s.st k with hold := true } = true from hc)]
  exact State.uncoordinate_atRest _ k .hold

/-- A HELD station whose hold becomes clear is SEEKING, not synchronised, with its jump flag set (R49, R60). -/
theorem State.rehold_seeks (hr : s.ps.corridor = .running) (hlink : (s.st k).link = .online) (hc : (s.st k).coord = .held)
    (hold : (s.st k).hold = true) (hnew : s.anySource k = false) :
    (s.rehold k).st k = { s.st k with hold := false, synced := false, jump := true, coord := .seeking } := by
  have hclear : s.rehold k = (s.modSt k fun t => { t with hold := false }).holdChanged k := by
    rw [State.rehold, hnew, if_neg (by rw [hold]; decide)]
  rw [hclear, State.holdChanged, State.st_modSt_same]
  dsimp only
  rw [if_pos (by simp only [Bool.and_eq_true, decide_eq_true_eq]; exact ⟨hr, hlink⟩), if_neg (by decide), if_pos hc,
    State.setCoord_st, if_pos rfl, State.st_modSt_same,
    State.st_modSt_same]

/-! ## Every hold recomputed (R53, R56) -/

/-- From `s` to `t` the holds of the stations in `l` have been recomputed. -/
structure State.Reheld (s : State) (l : List StationIx) (t : State) : Prop where
  aside : Aside False s t
  route : ∀ k : StationIx, (t.st k).routeActive = (s.st k).routeActive
  within : ∀ k ∈ l, (t.st k).hold = s.anySource k ∧ (t.st k).coord = s.coordUnder k (s.anySource k)
  without : ∀ k ∉ l, (t.st k).hold = (s.st k).hold ∧ (t.st k).coord = (s.st k).coord

theorem State.Reheld.sources {l : List StationIx} (h : s.Reheld l t) (k : StationIx) : t.sources k = s.sources k :=
  h.aside.sources h.aside.hl (h.route k)

theorem State.rehold_reheld (s : State) (k : StationIx) : s.Reheld [k] (s.rehold k) where
  aside := s.rehold_aside k
  route := s.rehold_route k
  within j hj := by
    rw [List.mem_singleton.1 hj]
    exact ⟨s.rehold_hold_eq k, s.rehold_coord k⟩
  without j hj := by
    rw [List.mem_singleton] at hj
    exact ⟨(s.rehold_held hj).1, State.rehold_coord_ne hj⟩

theorem State.foldl_rehold (l : List StationIx) (hl : l.Nodup) (s : State) : s.Reheld l (l.foldl State.rehold s) := by
  induction l generalizing s with
  | nil => exact ⟨.refl s, fun _ => rfl, fun _ h => (by cases h), fun _ _ => ⟨rfl, rfl⟩⟩
  | cons i l ih =>
    obtain ⟨hi, hl⟩ := List.nodup_cons.1 hl
    have hfirst := s.rehold_reheld i
    have hrest := ih hl (s.rehold i)
    refine ⟨hfirst.aside.trans hrest.aside, fun k => (hrest.route k).trans (hfirst.route k), fun k hk => ?_, fun k hk => ?_⟩
    · by_cases hkl : k ∈ l
      · have hki : k ≠ i := fun e => hi (e ▸ hkl)
        obtain ⟨hhold, hcoord⟩ := hrest.within k hkl
        obtain ⟨hhold', hcoord'⟩ := hfirst.without k (by simpa using hki)
        have hsource : (s.rehold i).anySource k = s.anySource k := congrArg (List.any · id) (hfirst.sources k)
        rw [hsource] at hhold hcoord
        rw [State.coordUnder_congr (by rw [hfirst.aside.ps]) (hfirst.aside.field (·.link) (fun _ => rfl) k) hhold' hcoord'] at hcoord
        exact ⟨hhold, hcoord⟩
      · obtain rfl : k = i := (List.mem_cons.1 hk).resolve_right hkl
        obtain ⟨hhold, hcoord⟩ := hfirst.within k (List.mem_singleton.2 rfl)
        obtain ⟨hhold', hcoord'⟩ := hrest.without k hkl
        exact ⟨hhold'.trans hhold, hcoord'.trans hcoord⟩
    · obtain ⟨hki, hkl⟩ := not_or.1 (mt List.mem_cons.2 hk)
      obtain ⟨hhold, hcoord⟩ := hfirst.without k (by simpa using hki)
      obtain ⟨hhold', hcoord'⟩ := hrest.without k hkl
      exact ⟨hhold'.trans hhold, hcoord'.trans hcoord⟩

theorem State.reholdAll_reheld (s : State) : s.Reheld allStations s.reholdAll := State.foldl_rehold allStations allStations_nodup s

end Sys2Proof.Machine

open Sys2Proof Sys2Proof.Machine

/-- Settles O18: the level is taken, and each hold is then recomputed once, which moves its own station alone. -/
theorem incidentChangeRecomputesEveryHold : Obligations.IncidentChangeRecomputesEveryHold := by
  refine ⟨fun s level hne => ?_, fun s level heq => ?_⟩
  · have hheld := ({ s with hl := { s.hl with level } } : State).reholdAll_reheld
    generalize hu : ({ s with hl := { s.hl with level } } : State) = u at hheld
    have hrun : exec (.incidentChange level) s = .next u.reholdAll := by
      show execIncidentChange level s = _
      rw [execIncidentChange, if_neg hne, ← hu]
    have hst (k : StationIx) : u.st k = s.st k := by rw [← hu]; rfl
    have hframe := hheld.aside.frame
    refine ⟨u.reholdAll, hrun, ?_, ?_, fun k => ?_⟩
    · rw [hheld.aside.hl, ← hu]
    · rw [hheld.aside.hl]
      rwa [← hu] at hframe ⊢
    · obtain ⟨hhold, hcoord⟩ := hheld.within k (mem_allStations k)
      have hsource : u.reholdAll.anySource k = u.anySource k := congrArg (List.any · id) (hheld.sources k)
      refine ⟨by rw [hsource, hhold], ?_, hheld.sources k, ?_⟩
      · rw [← hst k]
        exact Station.eq_of_core (hheld.aside.station k) (hheld.route k)
      · rw [hcoord, hhold, State.coordUnder, hst, ← hu]
  · show execIncidentChange level s = _
    rw [execIncidentChange, if_pos heq]

/-- Settles O51: the host hold is set and the station's hold recomputed, which takes a coordinated station to HELD with nothing waiting, and
a HELD one back to SEEKING. -/
theorem holdStationSetsTheHostHold : Obligations.HoldStationSetsTheHostHold := by
  intro s echo i v h
  have unchanged {r : Result} (ho : s.heard.ownHoldStation [i, v] = (r, s.heard)) :
      exec (.holdStation echo [i, v]) s = .next (s.heard.answered 0x0C echo r) :=
    exec_unchanged (i := .holdStation echo [i, v]) (f := ⟨0x0C, echo, [i, v]⟩) h rfl rfl rfl (by rintro _ ⟨⟩; rfl) ho
  refine ⟨fun hno => ?_, fun k hik hcount => ?_⟩
  · have hnone : s.heard.stationOf (rd8 [i, v] 0) = none := by
      rw [Option.eq_none_iff_forall_ne_some]
      intro k hk
      obtain ⟨-, hlt⟩ := State.stationOf_eq_some.1 hk
      exact absurd (hno.symm.trans hlt) (by decide)
    exact unchanged (by rw [State.ownHoldStation, hnone])
  · have hk : s.heard.stationOf (rd8 [i, v] 0) = some k := State.stationOf_eq_some.2 ⟨hik.symm, hcount⟩
    have hvalue : rd8 [i, v] 1 = v.toNat := rfl
    refine ⟨fun hv => ?_, fun hv => ?_⟩
    · exact unchanged (by rw [State.ownHoldStation, hk, hvalue]; exact if_pos hv)
    · let w := s.heard.modSt k fun t => { t with hostHold := decide (v.toNat = 1) }
      have hw : w.st k = { s.st k with hostHold := decide (v.toNat = 1) } := State.st_modSt_same _ _ _
      have haside := w.rehold_aside k
      have hheld := w.rehold_reheld k
      have hfield {α : Type} (f : Station → α) (hf : ∀ x, f (Station.core x) = f x) : f ((w.rehold k).st k) = f (w.st k) :=
        haside.field f hf k
      have hquiet : Quiet s.heard (w.rehold k) := (s.heard.modSt_quiet k _).trans (w.rehold_quiet k)
      have hown : s.heard.ownHoldStation [i, v] = (.ok ((w.rehold k).holdBytes k), w.rehold k) := by
        rw [State.ownHoldStation, hk, hvalue]
        exact if_neg (by omega)
      refine ⟨w.rehold k, ?run, ?host, State.rehold_hold _ k, ?manual, ?preempt, ?route, ?config, haside.hl, ?set, ?clear, ?frame⟩
      case run =>
        exact exec_served (i := .holdStation echo [i, v]) (f := ⟨0x0C, echo, [i, v]⟩) h rfl rfl rfl (by rintro _ ⟨⟩; rfl) hown
          (hquiet.begun (State.heard_begun h))
      case host => rw [hfield (·.hostHold) fun _ => rfl, hw]
      case manual => rw [hfield (·.manualFlag) fun _ => rfl, hw]
      case preempt => rw [hfield (·.preemptFlag) fun _ => rfl, hw]
      case config => rw [hfield (·.config) fun _ => rfl, hw]
      case route => rw [hheld.route k, hw]
      case set =>
        intro hr hlink hc hclear hset
        rw [w.rehold_hold_eq k] at hset
        have hrest : ((w.rehold k).st k).AtRest :=
          State.rehold_atRest hr (by rw [hw]; exact hlink) (by rw [hw]; exact hc) (by rw [hw]; exact hclear) hset
        refine ⟨hrest.coord, hrest.synced, fun o ho => ?_⟩
        have hcycle := hrest.cycleOrder
        rw [Station.cycleOrder, ho] at hcycle
        exact hcycle
      case clear =>
        intro hr hlink hc hset hclear
        rw [w.rehold_hold_eq k] at hclear
        rw [State.rehold_seeks (s := w) hr (by rw [hw]; exact hlink) (by rw [hw]; exact hc) (by rw [hw]; exact hset) hclear]
        exact ⟨rfl, rfl, rfl⟩
      case frame => exact haside.frame
end

section
/-! SUPPORT. What the loss of a link leaves at its station, and the event it begins with (R48, R74, R81, R106, R112, R136, R141, R143). -/

-- One proof at a time: elaborated in parallel, each proof that waits for an earlier one holds a thread and its stack.
set_option Elab.async false

namespace Sys2Proof.Machine

variable {s : State} {k : StationIx}

/-! ## The end of a STOPPING corridor leaves the models and the frames (R43) -/

theorem State.planEvaluation_clc (s : State) : s.planEvaluation.clc = s.clc := by rw [State.planEvaluation_eq]

theorem State.enterRunning_spares (s : State) (k : StationIx) (r : Reason) :
    ((s.enterRunning r).st k).model = (s.st k).model ∧ (s.enterRunning r).clc = s.clc := by
  cases hx : s.slot s.governing with
  | none => rw [State.enterRunning_of_empty _ hx]; exact ⟨rfl, rfl⟩
  | some x =>
    refine ⟨?_, by rw [State.enterRunning_frame hx]; rfl⟩
    rw [State.enterRunning_st hx]
    split <;> rfl

theorem State.settle_spares (s : State) (k : StationIx) : (s.settle.st k).model = (s.st k).model ∧ s.settle.clc = s.clc := by
  have hrested : (s.rested.st k).model = (s.st k).model ∧ s.rested.clc = s.clc := by
    rw [State.rested_st, Station.enterMins_eq]
    refine ⟨rfl, ?_⟩
    rw [State.rested, State.planEvaluation_clc, State.emit_clc, State.emptyRing_clc, State.modAll_clc]
    rfl
  unfold State.settle
  split
  · rw [State.enterIdle_eq]
    split
    · obtain ⟨hmodel, hclc⟩ := s.rested.enterRunning_spares k .restart
      exact ⟨hmodel.trans hrested.1, hclc.trans hrested.2⟩
    · exact hrested
  · exact ⟨rfl, rfl⟩

/-! ## The loss of a link (R48, R141) -/

/-- The frames of a station are dropped: none is left in URGENT, and it has no order (R141). -/
theorem State.dropFrames_st (s : State) (k : StationIx) : ((s.dropFrames k).st k).order = none
    ∧ ((s.st k).synced = false → ((s.dropFrames k).st k).synced = false) ∧ ((s.dropFrames k).st k).model = (s.st k).model
    ∧ ((s.dropFrames k).st k).age = 3 ∧ ∀ f ∈ (s.dropFrames k).clc.urgent, f.station ≠ k := by
  let u := (s.modSt k fun t => { t with order := none }).dropUrgent (·.station = k)
  have hu : u.st k = { s.st k with order := none } := by
    rw [show u.st k = (s.modSt k fun t => { t with order := none }).st k from rfl, State.st_modSt_same]
  obtain ⟨horder, hsynced⟩ := u.settle_unsynced k
  obtain ⟨hmodel, hclc⟩ := u.settle_spares k
  rw [hu] at horder hsynced hmodel
  have hdropped : s.dropFrames k = u.settle.modSt k fun t => { t with age := Config.sampleLife } := rfl
  rw [hdropped, State.st_modSt_same]
  refine ⟨horder, hsynced, hmodel, rfl, fun f hf => ?_⟩
  rw [show (State.modSt _ _ _).clc = u.clc from hclc] at hf
  have hkept := List.of_mem_filter hf
  simpa using hkept

/-- A detached station that takes up no request stays unsynchronised without a model. -/
theorem State.unpostAt_st (s : State) (k : StationIx) (h : (s.st k).Detached) (hsynced : (s.st k).synced = false) :
    ((s.unpostAt k).st k).synced = false ∧ ((s.unpostAt k).st k).model = (s.st k).model := by
  refine ⟨?_, (s.unpostAt_aside k).field (·.model) (fun _ => rfl) k⟩
  have hstays := ((s.unpostAt_stays k).station k).synced fun hs => absurd (hsynced.symm.trans hs) (by decide)
  have huncoordinated := ((s.unpostAt_carries k).detached k h).uncoordinated
  by_contra hset
  exact absurd (huncoordinated.symm.trans (hstays (by simpa using hset))) (by decide)

theorem State.linkGone_st (s : State) (k : StationIx) (c : LossCause) :
    ((s.linkGone k c).st k).synced = false ∧ ((s.linkGone k c).st k).model = none
      ∧ ((s.linkGone k c).st k).lastFailure = (s.st k).lastFailure ∧ ((s.linkGone k c).st k).ackMark = (s.st k).ackMark := by
  have hst : ((s.modSt k fun t => { t with link := .lost, misses := Config.missLimit }).emit (.linkLost k c)).st k
      = { s.st k with link := .lost, misses := Config.missLimit } := by rw [State.emit_st, State.st_modSt_same]
  unfold State.linkGone
  generalize (s.modSt k fun t => { t with link := .lost, misses := Config.missLimit }).emit (.linkLost k c) = u at hst
  have hcarries := u.enterFree_carries k .linkLost
  rw [State.st_modSt_same]
  refine ⟨(u.enterFree_free k .linkLost).2, rfl, (hcarries.field (·.lastFailure) (k := k)).trans ?_,
    (hcarries.field (·.ackMark) (k := k)).trans ?_⟩ <;> rw [hst]

/-- What the station whose link is lost has left (R48, R81, R106, R112, R141). -/
structure Station.Unlinked (t : Station) : Prop where
  misses : t.misses = 3
  detached : t.Detached
  synced : t.synced = false
  model : t.model = none
  order : t.order = none
  age : t.age = 3

theorem State.loseLink_unlinked (s : State) (k : StationIx) (c : LossCause) :
    ((s.loseLink k c).st k).Unlinked ∧ ∀ f ∈ (s.loseLink k c).clc.urgent, f.station ≠ k := by
  let g := s.linkGone k c
  obtain ⟨-, hmisses, hdetached⟩ := s.linkGone_linkLaw k c
  have hcarries := s.loseLink_carries k c
  obtain ⟨hunsynced, hnone, -, -⟩ := s.linkGone_st k c
  obtain ⟨hsynced, hmodel⟩ := g.unpostAt_st k hdetached hunsynced
  obtain ⟨horder, hsynced', hmodel', hage, hurgent⟩ := (g.unpostAt k).dropFrames_st k
  have hst : (s.loseLink k c).st k = (((g.unpostAt k).dropFrames k).st k) ∧ (s.loseLink k c).clc = ((g.unpostAt k).dropFrames k).clc := by
    rw [State.loseLink_eq]
    have hring (u : State) : u.emptyRing.st k = u.st k ∧ u.emptyRing.clc = u.clc := ⟨rfl, rfl⟩
    split
    · exact hring _
    · exact ⟨rfl, rfl⟩
  have hmisses' : ((s.loseLink k c).st k).misses = 3 := (hcarries.field (·.misses) (k := k)).trans hmisses
  refine ⟨⟨hmisses', hcarries.detached k hdetached, ?_, ?_, ?_, ?_⟩, ?_⟩
  · rw [hst.1]; exact hsynced' hsynced
  · rw [hst.1]; exact hmodel'.trans (hmodel.trans hnone)
  · rw [hst.1]; exact horder
  · rw [hst.1]; exact hage
  · rw [hst.2]; exact hurgent

/-- The loss of a link writes LINK_LOST first (R141). -/
theorem State.loseLink_records (s : State) (k : StationIx) (c : LossCause) (hroom : s.eq.records.length < 32) :
    ∃ more, (s.loseLink k c).eq.records = s.eq.records ++ s.record (.linkLost k c) :: more := by
  let w := (s.modSt k fun t => { t with link := .lost, misses := Config.missLimit }).emit (.linkLost k c)
  have hunposted (u : State) : Quiet u (u.unpostAt k) := by
    unfold State.unpostAt
    split
    · exact (u.unpost_quiet _).trans (State.takeUp_quiet _ k)
    · exact .refl u
  have hdropped (u : State) : Quiet u (u.dropFrames k) :=
    (((u.modSt_quiet k _).trans (State.dropUrgent_quiet _ _)).trans (State.settle_quiet _)).trans (State.modSt_quiet _ _ _)
  have hgone : Quiet w (s.linkGone k c) := (w.enterFree_quiet k .linkLost).trans (State.modSt_quiet _ _ _)
  have hquiet : Quiet w (s.loseLink k c) := by
    rw [State.loseLink_eq]
    split
    · exact ((hgone.trans (hunposted _)).trans (hdropped _)).trans (State.emptyRing_quiet _)
    · exact (hgone.trans (hunposted _)).trans (hdropped _)
  obtain ⟨more, hmore⟩ := hquiet.records
  have hfirst : w.eq.records = s.eq.records ++ [s.record (.linkLost k c)] :=
    State.emit_records_of_room (s.modSt k fun t => { t with link := .lost, misses := Config.missLimit }) hroom (.linkLost k c)
  rw [hfirst, List.append_assoc] at hmore
  exact ⟨more, hmore.symm⟩

/-- The end of the exchange under way (R137). -/
theorem exec_exchangeEnd_of {s : State} {x : Exchange} (h : s.clc.exchange = some x) (heard : List Byte) (a b : Bool) :
    exec (.exchangeEnd heard a b) s = .next (s.takeResult x heard a b).clearExchange := by
  show execExchangeEnd heard a b s = _
  rw [execExchangeEnd, h]
  rfl

end Sys2Proof.Machine

open Sys2Proof Sys2Proof.Machine

/-- Settles O28: below two misses the station's record alone changes; at two, what follows the loss of the link carries the record, and the
frames of the station go before the corridor may enter IDLE. -/
theorem failedExchangesLoseTheLink : Obligations.FailedExchangesLoseTheLink := by
  refine ⟨fun s x cfg cause heard a b hx hd hcfg hreply => ?_, fun s x heard a b hx hd => ?_, fun s heard a b hx => ?_⟩
  · have hrun : exec (.exchangeEnd heard a b) s = .next (s.exchangeFailed x.station cause).clearExchange := by
      rw [exec_exchangeEnd_of hx, State.takeResult, hd, hcfg]
      dsimp only
      rw [hreply]
      rfl
    have hmark : (!cause.clearsMark) = (decide (cause = .noReply) || decide (cause = .address)) := by cases cause <;> rfl
    let n := s.modSt x.station fun t => { t with lastFailure := some cause, ackMark := t.ackMark && !cause.clearsMark }
    have hn : n.st x.station = { s.st x.station with
        lastFailure := some cause, ackMark := (s.st x.station).ackMark && !cause.clearsMark } := State.st_modSt_same _ _ _
    have hfailed : s.exchangeFailed x.station cause = if (n.st x.station).misses + 1 = 3 then n.loseLink x.station .misses
        else n.modSt x.station fun t => { t with misses := min 3 (t.misses + 1) } := rfl
    rw [hn] at hfailed
    refine ⟨fun hmisses => ?_, fun hmisses => ?_⟩
    · rw [if_neg (by simpa using hmisses)] at hfailed
      have hrecord : s.exchangeFailed x.station cause = s.modSt x.station fun t => { t with
          misses := min 3 (t.misses + 1), lastFailure := some cause
          ackMark := (s.st x.station).ackMark && (cause = .noReply || cause = .address) } := by
        rw [hfailed, State.modSt_modSt, ← hmark]
        exact State.modSt_congr rfl
      rw [hrun, hrecord]
      rfl
    · rw [if_pos (by simpa using hmisses)] at hfailed
      obtain ⟨hunlinked, hurgent⟩ := n.loseLink_unlinked x.station .misses
      obtain ⟨-, -, hlast, hack⟩ := n.linkGone_st x.station .misses
      have hcarries := n.loseLink_carries x.station .misses
      have hrecords := n.loseLink_records x.station .misses
      rw [hfailed] at hrun
      generalize n.loseLink x.station .misses = t at hrun hunlinked hurgent hcarries hrecords
      have hlast' : (t.st x.station).lastFailure = some cause :=
        (hcarries.field (·.lastFailure) (k := x.station)).trans (hlast.trans (by rw [hn]))
      have hack' : (t.st x.station).ackMark = ((s.st x.station).ackMark && (cause = .noReply || cause = .address)) :=
        (hcarries.field (·.ackMark) (k := x.station)).trans (hack.trans (by rw [hn, hmark]))
      exact ⟨t.clearExchange, hrun, hrecords, hunlinked.detached.link, hunlinked.misses, hlast', hack', hunlinked.detached.coord,
        hunlinked.synced, hunlinked.model, hunlinked.order, hunlinked.detached.revise, hunlinked.age, hurgent, rfl⟩
  · rw [exec_exchangeEnd_of hx, State.takeResult, hd]
    rfl
  · show execExchangeEnd heard a b s = _
    rw [execExchangeEnd, hx]
end

section
/-! SUPPORT. What a reply leaves of the records, of the queue age and of the tidal measurement (R47, R53, R55, R73, R77, R96 to R98, R107,
R112, R116 to R129, R137, R142). -/

-- One proof at a time: elaborated in parallel, each proof that waits for an earlier one holds a thread and its stack.
set_option Elab.async false

namespace Sys2Proof.Machine

variable (s : State) {k : StationIx}

/-! ## Folds and waiting orders after a resynchronisation stand aside (R107, R112, R120) -/

theorem State.foldFirst_aside {kept : Prop} (k : StationIx) (p : Plan) (z : Tick) (ivs : List Nat) (l : List Entry) :
    Aside kept s (s.foldFirst k p z ivs l).1 := by
  induction l with
  | nil => exact .refl s
  | cons e es ih =>
    unfold State.foldFirst
    dsimp only
    split
    · exact s.grantEntry_aside _ _ _
    · exact ih
    · split
      · exact .refl s
      · exact (s.setLockout_aside _ _).trans (State.grantEntry_aside _ _ _ _)

theorem State.refolded_aside {kept : Prop} (k : StationIx) (p : Plan) (z : Tick) (ivs : List Nat) (f : Option Fold) :
    Aside kept s (s.refolded k p z ivs f).1 := by
  cases f with
  | none =>
    show Aside kept s (s.offerFold k p z ivs).1
    unfold State.offerFold
    split
    · exact s.foldFirst_aside _ _ _ _ _
    · exact .refl s
  | some f =>
    show Aside kept s (s.refold k p z ivs f).1
    unfold State.refold
    split
    · exact .refl s
    · dsimp only
      split
      · exact s.withdrawGrant_aside _
      · split
        · exact s.modEntry_aside _ _
        · exact (s.modEntry_aside _ _).trans (State.setLockout_aside _ _ _)

theorem State.orderAfterResync_aside {kept : Prop} (k : StationIx) : Aside kept s (s.orderAfterResync k) := by
  have horder (u : State) (o : Option WaitingOrder) : Aside kept u (u.modSt k fun t => { t with order := o }) := .modSt_rest rfl rfl rfl rfl
  have hlate (n : Byte) (c : LateCause) (f : Option Fold) :
      Aside kept s (((s.modSt k fun t => { t with order := none }).emit (.orderLate k n c)).foldLost f) :=
    ((horder s none).trans (State.emit_aside _ _)).trans (State.foldLost_aside _ _)
  have hrebuilt (o : WaitingOrder) (b : OrderBody) (p : Plan) (z : Tick) : Aside kept s (s.rebuildOrder k o b p z) := by
    obtain ⟨d, heq⟩ := s.rebuildOrder_eq k o b p z
    rw [heq]
    have hnoted (c : Option Correction) : Aside kept s (s.modSt k fun t => { t with lastError := some d, correction := c }) :=
      .modSt_rest rfl rfl rfl rfl
    exact ((hnoted _).trans (State.refolded_aside _ k p z _ _)).trans (horder _ _)
  unfold State.orderAfterResync
  dsimp only
  split
  · split
    · exact .refl s
    · split
      · exact hlate _ _ _
      · split
        · exact .refl s
        · split
          · exact hlate _ _ _
          · split
            · exact horder _ _
            · split
              · exact hrebuilt _ _ _ _
              · exact .refl s
  · exact .refl s

theorem State.reviseAfterResync_aside {kept : Prop} (k : StationIx) : Aside kept s (s.reviseAfterResync k) := by
  unfold State.reviseAfterResync
  dsimp only
  split
  · split
    · exact s.withdrawRevise_aside k
    · exact .modSt_rest rfl rfl rfl rfl
  · exact .refl s

/-! ## A station that leaves FREE, and the request it takes up (R47, R125) -/

theorem State.leaveFree_aside (k : StationIx) (x : StateCause) {kept : Prop} : Aside kept s (s.leaveFree k x) := by
  unfold State.leaveFree
  dsimp only
  split
  · next h =>
    simp only [Bool.and_eq_true, decide_eq_true_eq] at h
    obtain ⟨⟨hr, -⟩, -⟩ := h
    have hjump : Aside kept s (s.modSt k fun t => { t.unsynced with jump := true }) :=
      .modSt rfl (fun hne => absurd hr hne) fun _ => ⟨rfl, rfl⟩
    exact hjump.trans (State.setCoord_aside _ _ _ _)
  · exact .refl s

theorem State.linkReturn_aside (k : StationIx) (back : Bool) : Aside False s (s.linkReturn k back) := by
  unfold State.linkReturn
  split
  · exact (s.leaveFree_aside k _).trans (State.takeUp_aside _ k)
  · exact .refl s

/-! ## What the reply reports (R55, R73, R137, R142) -/

/-- The record behind a successful exchange: ONLINE without misses, the mark set (R137, R142, R143). -/
def Station.acknowledge (t : Station) : Station := { t with link := .online, misses := 0, ackMark := true }

/-- The record under the flags of the reply (R55). -/
def Station.flagged (t : Station) (r : Status) : Station := { t with manualFlag := r.manual, preemptFlag := r.preempt }

theorem Station.acknowledge_congr {a b : Station} (h : a.reported = b.reported) : a.acknowledge.reported = b.acknowledge.reported := by
  simp only [Station.reported, Prod.mk.injEq] at h
  simp only [Station.reported, Station.acknowledge, h]

theorem Station.flagged_congr {a b : Station} (h : a.reported = b.reported) (r : Status) :
    (a.flagged r).reported = (b.flagged r).reported := by
  simp only [Station.reported, Prod.mk.injEq] at h
  simp only [Station.reported, Station.flagged, h]

theorem Station.takeSample_congr {a b : Station} (h : a.reported = b.reported) (r : Status) :
    (a.takeSample r).reported = (b.takeSample r).reported := by
  simp only [Station.reported, Prod.mk.injEq] at h
  obtain ⟨hconfig, hlink, hsources, hin, hout, hno⟩ := h
  unfold Station.takeSample
  rw [hno]
  split <;> simp only [Station.reported, hconfig, hlink, hsources, hin, hout, hno]

/-- From `s` to `t` the geometry, the configurations, the incident input and the image stand. -/
structure SameSetting (s t : State) : Prop where
  count : t.count = s.count := by rfl
  config : ∀ k : StationIx, (t.st k).config = (s.st k).config
  hl : t.hl = s.hl := by rfl
  cs : t.cs = s.cs := by rfl

theorem SameSetting.trans {s t u : State} (h : SameSetting s t) (h' : SameSetting t u) : SameSetting s u :=
  ⟨h'.count.trans h.count, fun k => (h'.config k).trans (h.config k), h'.hl.trans h.hl, h'.cs.trans h.cs⟩

theorem Carries.setting {s t : State} (h : Carries s t) : SameSetting s t := ⟨h.count, h.field (·.config), h.hl, h.cs⟩

theorem SameSetting.modSt {s : State} {f : Station → Station} (h : (f (s.st k)).config = (s.st k).config := by rfl) :
    SameSetting s (s.modSt k f) where
  config j := by
    rw [State.st_modSt]
    split
    · next hj => subst hj; exact h
    · rfl

/-- What a part of a reply makes of its station's record, and what it leaves. -/
structure Replied (k : StationIx) (f : Station → Station) (s t : State) : Prop where
  setting : SameSetting s t
  reported : (t.st k).reported = (f (s.st k)).reported

theorem Carries.replied {s t : State} (h : Carries s t) : Replied k id s t := ⟨h.setting, h.reported k⟩

theorem Replied.trans {s t u : State} {f g : Station → Station} (h : Replied k f s t) (h' : Replied k g t u)
    (hg : ∀ a b : Station, a.reported = b.reported → (g a).reported = (g b).reported) : Replied k (g ∘ f) s u :=
  ⟨h.setting.trans h'.setting, h'.reported.trans (hg _ _ h.reported)⟩

theorem State.linkSuccess_replied (k : StationIx) : Replied k Station.acknowledge s (s.linkSuccess k) := by
  have honline : Replied k Station.acknowledge s (s.modSt k Station.acknowledge) := ⟨.modSt, by rw [State.st_modSt_same]⟩
  unfold State.linkSuccess
  dsimp only
  split
  · exact honline.trans (State.emit_carries _ _).replied fun _ _ h => h
  · exact honline

/-- The flags are taken, and the hold recomputed from them (R53, R55). -/
theorem State.takeFlags_replied (k : StationIx) (r : Status) : Replied k (·.flagged r) s (s.takeFlags k r)
    ∧ ((s.takeFlags k r).st k).hold = (s.takeFlags k r).anySource k := by
  have hflags : Replied k (·.flagged r) s (s.modSt k (·.flagged r)) := ⟨.modSt, by rw [State.st_modSt_same]⟩
  exact ⟨hflags.trans (State.rehold_carries _ k).replied fun _ _ h => h, State.rehold_hold _ k⟩

/-- In either order the flags are taken and the link's return handled (R47, R53, R55). -/
theorem State.flagsTaken_replied (k : StationIx) (r : Status) (back a : Bool) : Replied k (·.flagged r) s (s.flagsTaken k r back a)
    ∧ ((s.flagsTaken k r back a).st k).hold = (s.flagsTaken k r back a).anySource k := by
  unfold State.flagsTaken
  split
  · obtain ⟨hflags, hhold⟩ := (s.linkReturn k back).takeFlags_replied k r
    exact ⟨(s.linkReturn_carries k back).replied.trans hflags fun _ _ h => Station.flagged_congr h r, hhold⟩
  · obtain ⟨hflags, hhold⟩ := s.takeFlags_replied k r
    have hreturn := (s.takeFlags k r).linkReturn_carries k back
    exact ⟨hflags.trans hreturn.replied fun _ _ h => h, hreturn.hold k hhold⟩

theorem State.takeMeasures_replied (k : StationIx) (r : Status) : Replied k (·.takeSample r) s (s.takeMeasures k r)
    ∧ ((s.st k).hold = s.anySource k → ((s.takeMeasures k r).st k).hold = (s.takeMeasures k r).anySource k) := by
  have hst : (s.takeMeasures k r).st k = (s.st k).takeSample r := by rw [State.takeMeasures_st, if_pos rfl]
  have hl : (s.takeMeasures k r).hl = s.hl := by rw [State.takeMeasures_eq]; rfl
  refine ⟨⟨⟨by rw [State.takeMeasures_eq]; rfl, fun j => ?_, hl, by rw [State.takeMeasures_eq]; rfl⟩, by rw [hst]⟩, fun h => ?_⟩
  · rw [State.takeMeasures_st, Station.takeSample_eq]
    split <;> rfl
  · have hsource : (s.takeMeasures k r).anySource k = s.anySource k := by
      refine State.anySource_congr hl ?_ ?_ ?_ ?_ ?_ <;> rw [hst, Station.takeSample_eq]
    rw [hsource, ← h, hst, Station.takeSample_eq]

/-- In either order the sample is taken and the cycle part handled (R73, R82, R83). -/
theorem State.partsTaken_replied (x : Exchange) (r : Status) (w b : Bool) :
    Replied x.station (·.takeSample r) s (s.partsTaken x r w b)
    ∧ ((s.st x.station).hold = s.anySource x.station →
        ((s.partsTaken x r w b).st x.station).hold = (s.partsTaken x r w b).anySource x.station) := by
  unfold State.partsTaken
  split
  · obtain ⟨hsample, hhold⟩ := s.takeMeasures_replied x.station r
    have hcycle := (s.takeMeasures x.station r).cyclePart_carries x.station x.slotTick r.number r.time w
    exact ⟨hsample.trans hcycle.replied fun _ _ h => h, fun h => hcycle.hold _ (hhold h)⟩
  · have hcycle := s.cyclePart_carries x.station x.slotTick r.number r.time w
    obtain ⟨hsample, hhold⟩ := (s.cyclePart x.station x.slotTick r.number r.time w).takeMeasures_replied x.station r
    exact ⟨hcycle.replied.trans hsample fun _ _ h => Station.takeSample_congr h r, fun h => hhold (hcycle.hold _ h)⟩

/-- A successful exchange takes the link, the flags and the sample of the reply, and its hold agrees with its sources (R53, R55, R73,
R137). -/
theorem State.replyTaken_replied (x : Exchange) (r : Status) (a b : Bool) :
    Replied x.station (fun t => (t.acknowledge.flagged r).takeSample r) s (s.replyTaken x r a b)
    ∧ ((s.replyTaken x r a b).st x.station).hold = (s.replyTaken x r a b).anySource x.station := by
  have hlinked := s.linkSuccess_replied x.station
  obtain ⟨hflags, hhold⟩ := (s.linkSuccess x.station).flagsTaken_replied x.station r ((s.st x.station).link = .lost) a
  let u := (s.linkSuccess x.station).flagsTaken x.station r ((s.st x.station).link = .lost) a
  obtain ⟨hparts, hhold'⟩ := u.partsTaken_replied x r (s.st x.station).synced b
  have hpriority := (u.partsTaken x r (s.st x.station).synced b).takePriority_carries x.station x.slotTick r
  refine ⟨?_, hpriority.hold _ (hhold' hhold)⟩
  exact ((hlinked.trans hflags fun _ _ h => Station.flagged_congr h r).trans hparts fun _ _ h => Station.takeSample_congr h r).trans
    hpriority.replied fun _ _ h => h

/-! ## The queue age and the tidal measurement (R73, R77) -/

/-- From `s` to `t` the Plan Store, the tidal measurement, and a station's queue age and sample number stand. -/
structure SameMeasure (k : StationIx) (s t : State) : Prop where
  ps : t.ps = s.ps := by rfl
  mu : t.mu = s.mu := by rfl
  age : (t.st k).age = (s.st k).age
  sampleNo : (t.st k).sampleNo = (s.st k).sampleNo

namespace SameMeasure

variable {s t u : State}

theorem trans (h : SameMeasure k s t) (h' : SameMeasure k t u) : SameMeasure k s u :=
  ⟨h'.ps.trans h.ps, h'.mu.trans h.mu, h'.age.trans h.age, h'.sampleNo.trans h.sampleNo⟩

theorem of_aside {kept : Prop} (h : Aside kept s t) : SameMeasure k s t where
  ps := h.ps
  mu := show t.core.mu = s.core.mu from congrArg State.mu h.core
  age := h.field (·.age) (fun _ => rfl) k
  sampleNo := h.field (·.sampleNo) (fun _ => rfl) k

theorem modSt {f : Station → Station} (age : (f (s.st k)).age = (s.st k).age := by rfl)
    (sampleNo : (f (s.st k)).sampleNo = (s.st k).sampleNo := by rfl) : SameMeasure k s (s.modSt k f) where
  age := by rw [State.st_modSt_same]; exact age
  sampleNo := by rw [State.st_modSt_same]; exact sampleNo

theorem refl (s : State) : SameMeasure k s s := of_aside (kept := True) (.refl s)

end SameMeasure

/-- Without a forward step the model's part of a reply takes no zero, and so leaves the age and the measurement (R74, R77, R97). -/
theorem State.cyclePart_measure {t : Tick} {n : Byte} {c : Nat} {w : Bool} (h : ∀ m ∈ (s.st k).model, numberStep n m.number ≤ 0) :
    SameMeasure k s (s.cyclePart k t n c w) := by
  have hmark (u : State) : SameMeasure k u (u.markResync k t) := by
    unfold State.markResync
    split
    · exact ⟨rfl, rfl, rfl, rfl⟩
    · exact .refl u
  have hend (u : State) : SameMeasure k u (((((u.modSt k fun t => { t with synced := t.synced || t.coord = .seeking }).markResync k t)
      ).orderAfterResync k).reviseAfterResync k) := by
    have hsync : SameMeasure k u (u.modSt k fun t => { t with synced := t.synced || t.coord = .seeking }) := .modSt
    exact ((hsync.trans (hmark _)).trans (.of_aside (State.orderAfterResync_aside (kept := True) _ k))).trans
      (.of_aside (State.reviseAfterResync_aside (kept := True) _ k))
  have hmodel (u : State) (f : CycleModel → CycleModel) : SameMeasure k u (u.modModel k f) := .modSt
  unfold State.cyclePart
  dsimp only
  split
  · unfold State.createModel
    exact .modSt
  · next m hm =>
    have hstep : ¬ 0 < numberStep n m.number := not_lt.2 (h m hm)
    split
    · unfold State.resync
      dsimp only
      rw [if_neg hstep]
      refine SameMeasure.trans ?_ (hend _)
      have hstepped : SameMeasure k s
          (if numberStep n m.number < 0 then s.modModel k fun m => { m with number := n, next := none } else s) := by
        split
        · exact hmodel _ _
        · exact .refl s
      split
      · exact (hstepped.trans (hmodel _ _)).trans (.of_aside (State.emit_aside (kept := True) _ _))
      · exact hstepped.trans (hmodel _ _)
    · exact .refl s

/-- The counts of the reply join the measurement at the tidal station of the active TIDAL plan (R77). -/
def State.counted (s : State) (k : StationIx) (r : Status) : Measurement :=
  if s.activePlan.any (·.tidalAt k) then { s.mu with
    accIn := min Config.countLimit (s.mu.accIn + r.countIn), accOut := min Config.countLimit (s.mu.accOut + r.countOut) } else s.mu

theorem State.takeMeasures_mu (k : StationIx) (r : Status) : (s.takeMeasures k r).mu = s.counted k r := by
  unfold State.takeMeasures State.takeCounts State.counted
  have hplan : (s.modSt k (·.takeSample r)).activePlan = s.activePlan := rfl
  rw [hplan]
  split <;> rfl

theorem State.counted_congr {s t : State} (h : SameMeasure k s t) (r : Status) : t.counted k r = s.counted k r := by
  have hplan : t.activePlan = s.activePlan := by simp only [State.activePlan, State.slot, h.ps]
  unfold State.counted
  rw [hplan, h.mu]

theorem Station.takeSample_age (t : Station) (r : Status) : (t.takeSample r).age = if t.sampleNo = some r.latched then t.age else 0 := by
  unfold Station.takeSample
  split <;> rfl

theorem State.partsTaken_measure {x : Exchange} {r : Status} {w b : Bool}
    (h : ∀ m ∈ (s.st x.station).model, numberStep r.number m.number ≤ 0) :
    ((s.partsTaken x r w b).st x.station).age = ((s.st x.station).takeSample r).age
      ∧ (s.partsTaken x r w b).mu = s.counted x.station r := by
  unfold State.partsTaken
  split
  · have hst : (s.takeMeasures x.station r).st x.station = (s.st x.station).takeSample r := by rw [State.takeMeasures_st, if_pos rfl]
    have hcycle := (s.takeMeasures x.station r).cyclePart_measure (k := x.station) (t := x.slotTick) (c := r.time) (w := w) (n := r.number)
      (by rw [hst, Station.takeSample_eq]; exact h)
    exact ⟨by rw [hcycle.age, hst], by rw [hcycle.mu, State.takeMeasures_mu]⟩
  · have hcycle := s.cyclePart_measure (k := x.station) (t := x.slotTick) (c := r.time) (w := w) h
    refine ⟨?_, by rw [State.takeMeasures_mu, State.counted_congr hcycle]⟩
    rw [State.takeMeasures_st, if_pos rfl, Station.takeSample_age, Station.takeSample_age, hcycle.age, hcycle.sampleNo]

theorem State.replyTaken_measure {x : Exchange} {r : Status} {a b : Bool}
    (h : ∀ m ∈ (s.st x.station).model, numberStep r.number m.number ≤ 0) :
    ((s.replyTaken x r a b).st x.station).age = ((s.st x.station).takeSample r).age
      ∧ (s.replyTaken x r a b).mu = s.counted x.station r := by
  let v := s.linkSuccess x.station
  let u := v.flagsTaken x.station r ((s.st x.station).link = .lost) a
  have hlinked : SameMeasure x.station s v ∧ (v.st x.station).model = (s.st x.station).model := by
    have honline : SameMeasure x.station s (s.modSt x.station Station.acknowledge) := .modSt
    show SameMeasure _ s (s.linkSuccess x.station) ∧ ((s.linkSuccess x.station).st x.station).model = _
    unfold State.linkSuccess
    dsimp only
    split
    · refine ⟨honline.trans (.of_aside (State.emit_aside (kept := True) _ _)), ?_⟩
      rw [State.emit_st, State.st_modSt_same]
    · exact ⟨honline, by rw [State.st_modSt_same]⟩
  have hflags (w : State) : SameMeasure x.station w (w.takeFlags x.station r)
      ∧ ((w.takeFlags x.station r).st x.station).model = (w.st x.station).model := by
    have hrehold := (w.modSt x.station (·.flagged r)).rehold_aside x.station
    have hflagged : SameMeasure x.station w (w.modSt x.station (·.flagged r)) := .modSt
    refine ⟨hflagged.trans (.of_aside hrehold), (hrehold.field (·.model) (fun _ => rfl) x.station).trans ?_⟩
    rw [State.st_modSt_same]; rfl
  have hreturn (w : State) (back : Bool) : SameMeasure x.station w (w.linkReturn x.station back)
      ∧ ((w.linkReturn x.station back).st x.station).model = (w.st x.station).model :=
    ⟨.of_aside (w.linkReturn_aside _ _), (w.linkReturn_aside _ _).field (·.model) (fun _ => rfl) _⟩
  have htaken : SameMeasure x.station v u ∧ (u.st x.station).model = (v.st x.station).model := by
    show SameMeasure _ v (v.flagsTaken _ r _ a) ∧ ((v.flagsTaken _ r _ a).st x.station).model = _
    unfold State.flagsTaken
    split
    · exact ⟨(hreturn v _).1.trans (hflags _).1, (hflags _).2.trans (hreturn v _).2⟩
    · exact ⟨(hflags v).1.trans (hreturn _ _).1, (hreturn _ _).2.trans (hflags v).2⟩
  obtain ⟨hage, hmu⟩ := u.partsTaken_measure (x := x) (r := r) (w := (s.st x.station).synced) (b := b)
    (by rw [htaken.2, hlinked.2]; exact h)
  have hsame := hlinked.1.trans htaken.1
  have hlast := (State.takePriority_beside (u.partsTaken x r (s.st x.station).synced b) x.station x.slotTick r).aside
  have hpriority : SameMeasure x.station _ _ := .of_aside hlast
  refine ⟨hpriority.age.trans (hage.trans ?_), hpriority.mu.trans (hmu.trans (State.counted_congr hsame r))⟩
  rw [Station.takeSample_age, Station.takeSample_age, hsame.age, hsame.sampleNo]

end Sys2Proof.Machine

open Sys2Proof Sys2Proof.Machine

/-- Settles O29: each part of a reply makes of its station's record what the reply reports, in either order, and what surrounds the parts
carries it. -/
theorem successfulExchangeTakesTheReply : Obligations.SuccessfulExchangeTakesTheReply := by
  intro s x cfg heard r a b hx hd hcfg hreply
  obtain ⟨⟨hsetting, hreported⟩, hhold⟩ := (s.deliver x).replyTaken_replied x r a b
  have hdelivered := s.deliver_carries x
  have hfields := hreported.trans (Station.takeSample_congr
    (Station.flagged_congr (Station.acknowledge_congr (hdelivered.reported x.station)) r) r)
  obtain ⟨hcount, hconfig, hhl, hcs⟩ := hdelivered.setting.trans hsetting
  have hmeasure := (s.deliver x).replyTaken_measure (x := x) (r := r) (a := a) (b := b)
  have hrun := exec_exchangeEnd (a := a) (b := b) (heard := heard) (cfg := cfg) ⟨hx, hd, hcfg, hreply⟩
  generalize (s.deliver x).replyTaken x r a b = t at hrun hreported hhold hfields hcount hconfig hhl hcs hmeasure
  have hlinked : (t.st x.station).link = .online ∧ (t.st x.station).misses = 0 ∧ (t.st x.station).ackMark = true
      ∧ (t.st x.station).lastFailure = (s.st x.station).lastFailure ∧ (t.st x.station).manualFlag = r.manual
      ∧ (t.st x.station).preemptFlag = r.preempt := by
    rw [Station.takeSample_eq] at hfields
    simp only [Station.reported, Station.flagged, Station.acknowledge, Prod.mk.injEq] at hfields
    obtain ⟨-, ⟨hlink, hmisses, hlast, hmark⟩, ⟨-, hmanual, hpreempt⟩, -⟩ := hfields
    exact ⟨hlink, hmisses, hmark, hlast, hmanual, hpreempt⟩
  obtain ⟨hlink, hmisses, hmark, hlast, hmanual, hpreempt⟩ := hlinked
  have hqueues (h : (s.st x.station).sampleNo = some r.latched) : (t.st x.station).sampleNo = some r.latched
      ∧ (t.st x.station).queueIn = (s.st x.station).queueIn ∧ (t.st x.station).queueOut = (s.st x.station).queueOut := by
    rw [Station.takeSample, if_pos (show ((s.st x.station).acknowledge.flagged r).sampleNo = _ from h)] at hfields
    simp only [Station.reported, Station.flagged, Station.acknowledge, Prod.mk.injEq] at hfields
    obtain ⟨-, -, -, hin, hout, hno⟩ := hfields
    exact ⟨hno.trans h, hin, hout⟩
  have hsample (h : (s.st x.station).sampleNo ≠ some r.latched) : (t.st x.station).sampleNo = some r.latched
      ∧ (t.st x.station).queueIn = min 60 r.queueIn ∧ (t.st x.station).queueOut = min 60 r.queueOut := by
    rw [Station.takeSample, if_neg (show ((s.st x.station).acknowledge.flagged r).sampleNo ≠ _ from h)] at hfields
    simp only [Station.reported, Prod.mk.injEq] at hfields
    obtain ⟨-, -, -, hin, hout, hno⟩ := hfields
    exact ⟨hno, hin, hout⟩
  refine ⟨t.clearExchange, hrun, rfl, hlink, hmisses, hmark, hlast, hmanual, hpreempt, hhold, ?_, fun h => (hqueues h).2,
    fun h => (hsample h).2, fun hpoll hstep => ?_, hconfig, hhl, hcount, hcs⟩
  · by_cases h : (s.st x.station).sampleNo = some r.latched
    · exact (hqueues h).1
    · exact (hsample h).1
  · have hsame : s.deliver x = s := by rw [State.deliver, hpoll]
    rw [hsame] at hmeasure
    obtain ⟨hage, hmu⟩ := hmeasure hstep
    refine ⟨hage.trans (Station.takeSample_age _ r), hmu.trans ?_⟩
    unfold State.counted
    refine if_congr ?_ rfl rfl
    simp [Plan.tidalAt, Option.any_eq_true]
end

section
/-! SUPPORT. The station whose link returns while RUNNING: it leaves FREE under the hold that the reported flags give, whichever of R47's
two orders is taken, and its model is created (R47, R49, R51, R53, R55, R60, R82, R83, R142). -/

-- One proof at a time: elaborated in parallel, each proof that waits for an earlier one holds a thread and its stack.
set_option Elab.async false

namespace Sys2Proof.Machine

variable {s : State} {k : StationIx}

/-! ## A station with nothing waiting, and without requests (R48, R125) -/

/-- A station with no cycle order and no REVISE has nothing withdrawn when it leaves the coordinated states (R49). -/
theorem State.uncoordinate_of_bare (horder : (s.st k).order = none) (hrevise : (s.st k).revise = none) (c : Coord) (x : StateCause) :
    (((s.setCoord k c x).modSt k (·.unsynced)).withdrawOrder k).withdrawRevise k = (s.setCoord k c x).modSt k (·.unsynced) := by
  let u := (s.setCoord k c x).modSt k (·.unsynced)
  have hu : (u.st k).order = none ∧ (u.st k).revise = none := by
    show (((s.setCoord k c x).modSt k (·.unsynced)).st k).order = none ∧ (((s.setCoord k c x).modSt k (·.unsynced)).st k).revise = none
    rw [State.st_modSt_same, State.setCoord_st, if_pos rfl]
    exact ⟨horder, hrevise⟩
  have hkept : u.withdrawOrder k = u := by rw [State.withdrawOrder, hu.1]; rfl
  show (u.withdrawOrder k).withdrawRevise k = u
  rw [hkept, State.withdrawRevise, hu.2]

theorem State.setCoord_table (s : State) (k : StationIx) (c : Coord) (x : StateCause) : (s.setCoord k c x).table = s.table := by
  unfold State.setCoord
  split
  · rfl
  · rw [State.emit_eq]; rfl

/-- No entry of the request table is the station's. -/
def State.Unrequested (s : State) (k : StationIx) : Prop := ∀ e ∈ s.table, e.station ≠ k

theorem State.Unrequested.activeEmergency (h : s.Unrequested k) : s.activeEmergency k = none := by
  rw [State.activeEmergency, List.find?_eq_none]
  intro e he
  simp [h e he]

theorem State.Unrequested.takeUp (h : s.Unrequested k) : s.takeUp k = s := by
  have hnone : s.pendingEmergencies k = [] := by
    have hfilter : (s.table.filter fun e => e.station = k && e.cls = .emergency && e.state = .pending) = [] :=
      List.filter_eq_nil_iff.2 fun e he => by simp [h e he]
    rw [State.pendingEmergencies, hfilter]
    rfl
  rw [State.takeUp, State.takeUp?, hnone]
  split <;> rfl

/-! ## Out of FREE under the reported flags (R47, R49, R53) -/

/-- A station that is back from FREE, as its hold has it (R47, R51, R60). -/
structure Station.Returned (t : Station) : Prop where
  coord : t.coord = t.joinedCoord
  synced : t.synced = false
  jump : t.jump = true

/-- What the return of a link may find at its station: a record that joins, or one that is back, with nothing waiting. -/
structure State.Returning (s : State) (k : StationIx) : Prop where
  running : s.ps.corridor = .running
  link : (s.st k).link = .online
  order : (s.st k).order = none
  revise : (s.st k).revise = none

theorem State.Returning.leaveFree (h : s.Returning k) (hfree : (s.st k).coord = .free) (x : StateCause) :
    (s.leaveFree k x).st k = (s.st k).joined ∧ (s.leaveFree k x).table = s.table ∧ Aside True s (s.leaveFree k x) := by
  have hjoins : (s.st k).joins = true := by simp [Station.joins, h.link, hfree]
  have haside := s.leaveFree_aside (kept := True) k x
  rw [State.leaveFree_of_joins h.running hjoins] at haside ⊢
  refine ⟨?_, ?_, haside⟩
  · rw [State.emit_st, State.st_modSt_same]
  · rw [State.emit_eq]; rfl

theorem Station.joined_returned (t : Station) : t.joined.Returned := ⟨rfl, rfl, rfl⟩

theorem State.Returning.modSt {f : Station → Station} (h : s.Returning k) (link : (f (s.st k)).link = (s.st k).link := by rfl)
    (order : (f (s.st k)).order = (s.st k).order := by rfl) (revise : (f (s.st k)).revise = (s.st k).revise := by rfl) :
    (s.modSt k f).Returning k := by
  refine ⟨h.running, ?_, ?_, ?_⟩ <;> rw [State.st_modSt_same]
  · exact link.trans h.link
  · exact order.trans h.order
  · exact revise.trans h.revise

/-- A FREE station's hold is recomputed and nothing else (R49, R53). -/
theorem State.rehold_of_free (hfree : (s.st k).coord = .free) : s.rehold k = s.modSt k fun t => { t with hold := s.anySource k } := by
  have hstays (u : State) (hu : (u.st k).coord = .free) : u.holdChanged k = u := by
    have hcoordinated : (u.st k).coordinated = false := by rw [Station.coordinated, hu]; rfl
    unfold State.holdChanged
    dsimp only
    rw [hcoordinated, hu]
    split
    · split <;> rfl
    · rfl
  unfold State.rehold
  dsimp only
  split
  · next h => exact (s.modSt_self (by rw [← h])).symm
  · exact hstays _ (by rw [State.st_modSt_same]; exact hfree)

/-- A station that is back stays so under its recomputed hold (R49, R53). -/
theorem State.Returning.rehold (h : s.Returning k) (hback : (s.st k).Returned) :
    ((s.rehold k).st k).Returned ∧ (s.rehold k).table = s.table := by
  by_cases hsame : (s.st k).hold = s.anySource k
  · rw [State.rehold_of_same hsame]; exact ⟨hback, rfl⟩
  · obtain ⟨hcoord, hsynced, hjump⟩ := hback
    let v := s.modSt k fun t => { t with hold := s.anySource k }
    have hv : v.st k = { s.st k with hold := s.anySource k } := by
      rw [show v.st k = (s.modSt k fun t => { t with hold := s.anySource k }).st k from rfl, State.st_modSt_same]
    have hmoves : (decide (v.ps.corridor = .running) && decide ((v.st k).link = .online)) = true := by
      rw [hv]; simp only [Bool.and_eq_true, decide_eq_true_eq]; exact ⟨h.running, h.link⟩
    have hrehold : s.rehold k = v.holdChanged k := if_neg hsame
    rw [hrehold, State.holdChanged]
    rw [if_pos hmoves]
    cases hnew : s.anySource k with
    | true =>
      have hseeking : (s.st k).coord = .seeking := by
        rw [hcoord, Station.joinedCoord, if_neg]; rwa [hnew] at hsame
      rw [if_pos (by rw [hv, hnew]), if_pos (by rw [hv]; simp [Station.coordinated, hseeking]),
        State.uncoordinate_of_bare (by rw [hv]; exact h.order) (by rw [hv]; exact h.revise)]
      refine ⟨?_, ?_⟩
      · rw [State.st_modSt_same, State.setCoord_st, if_pos rfl, hv, hnew]
        exact ⟨rfl, rfl, hjump⟩
      · show (v.setCoord k .held .hold).table = s.table
        rw [State.setCoord_table]; rfl
    | false =>
      have hheld : (s.st k).coord = .held := by
        rw [hcoord, Station.joinedCoord, if_pos]
        rw [hnew] at hsame
        simpa using hsame
      rw [if_neg (by rw [hv, hnew]; exact Bool.false_ne_true), if_pos (by rw [hv]; exact hheld)]
      refine ⟨?_, ?_⟩
      · rw [State.setCoord_st, if_pos rfl, State.st_modSt_same, hv, hnew]
        exact ⟨rfl, rfl, rfl⟩
      · rw [State.setCoord_table]; rfl

/-- What the flags and the return of the link leave at the station, in either order (R47, R49, R53, R55). -/
theorem State.Returning.flagsTaken (h : s.Returning k) (hfree : (s.st k).coord = .free) (hnone : s.Unrequested k) (r : Status) (a : Bool) :
    ((s.flagsTaken k r true a).st k).Returned ∧ (s.flagsTaken k r true a).table = s.table
      ∧ Aside False (s.modSt k (·.flagged r)) (s.flagsTaken k r true a) := by
  have hflagged := h.modSt (f := (·.flagged r))
  have hunrequested {t : State} (ht : t.table = s.table) : t.Unrequested k := fun e he => hnone e (ht ▸ he)
  unfold State.flagsTaken
  split
  · obtain ⟨hjoined, htable, haside⟩ := h.leaveFree hfree .linkBack
    have hreturn : s.linkReturn k true = s.leaveFree k .linkBack := (hunrequested htable).takeUp
    let v := s.leaveFree k .linkBack
    have hv : v.Returning k := by
      refine ⟨by rw [haside.ps]; exact h.running, ?_, ?_, ?_⟩ <;> rw [hjoined]
      exacts [h.link, h.order, h.revise]
    have hback : ((v.modSt k (·.flagged r)).st k).Returned := by
      rw [State.st_modSt_same, hjoined]
      exact ⟨rfl, rfl, rfl⟩
    obtain ⟨hreturned, hsame⟩ := (hv.modSt (f := (·.flagged r))).rehold hback
    rw [hreturn]
    have hcommute : Aside False (s.modSt k (·.flagged r)) (v.modSt k (·.flagged r)) := by
      refine ⟨haside.core, fun j => ?_, fun hne => absurd h.running hne, False.elim⟩
      rw [State.st_modSt, State.st_modSt]
      have hj := haside.station j
      split
      · exact congrArg (fun t : Station => { t with manualFlag := r.manual, preemptFlag := r.preempt }) hj
      · exact hj
    exact ⟨hreturned, hsame.trans htable, hcommute.trans (State.rehold_aside _ k)⟩
  · let v := s.modSt k (·.flagged r)
    have hvfree : (v.st k).coord = .free := by
      rw [show v.st k = (s.modSt k (·.flagged r)).st k from rfl, State.st_modSt_same]; exact hfree
    have hrehold : s.takeFlags k r = v.modSt k fun t => { t with hold := v.anySource k } := State.rehold_of_free hvfree
    have hu := hflagged.modSt (f := fun t => { t with hold := v.anySource k })
    have hufree : ((v.modSt k fun t => { t with hold := v.anySource k }).st k).coord = .free := by
      rw [State.st_modSt_same]; exact hvfree
    obtain ⟨hjoined, htable, haside⟩ := hu.leaveFree hufree .linkBack
    have hreturn : (s.takeFlags k r).linkReturn k true = (s.takeFlags k r).leaveFree k .linkBack := by
      rw [hrehold]; exact (hunrequested htable).takeUp
    rw [hreturn, hrehold]
    refine ⟨by rw [hjoined]; exact Station.joined_returned _, htable, ?_⟩
    have hheld : Aside False v (v.modSt k fun t => { t with hold := v.anySource k }) := .modSt rfl (fun _ => rfl) False.elim
    exact hheld.trans haside.weaken

/-! ## The model is created (R82, R83) -/

/-- In either order the sample is taken and the model created (R51, R73, R82). -/
theorem State.partsTaken_creates {x : Exchange} {r : Status} {p : Plan} {w b : Bool} (hr : s.ps.corridor = .running)
    (hplan : s.activePlan = some p) (hnone : (s.st x.station).model = none) :
    ((s.partsTaken x r w b).st x.station).model = some {
        zeroTick := tickAdd x.slotTick (-(r.time : Int)), number := r.number, lastZero := r.number
        basis := .plan (p.course x.station), mark := none, next := none }
      ∧ ((s.partsTaken x r w b).st x.station).coord = (s.st x.station).coord
      ∧ ((s.partsTaken x r w b).st x.station).synced = ((s.st x.station).synced || (s.st x.station).coord = .seeking)
      ∧ ((s.partsTaken x r w b).st x.station).jump = (s.st x.station).jump
      ∧ ((s.partsTaken x r w b).st x.station).hold = (s.st x.station).hold
      ∧ (s.partsTaken x r w b).table = s.table ∧ (s.partsTaken x r w b).ps = s.ps ∧ (s.partsTaken x r w b).tb = s.tb := by
  have hcreate (u : State) (hps : u.ps = s.ps) (hu : (u.st x.station).model = none) :
      u.cyclePart x.station x.slotTick r.number r.time w = u.modSt x.station fun t => { t with
        model := some {
          zeroTick := tickAdd x.slotTick (-(r.time : Int)), number := r.number, lastZero := r.number
          basis := .plan (p.course x.station), mark := none, next := none }
        synced := t.synced || t.coord = .seeking } := by
    have hactive : u.activePlan = some p := by rw [← hplan]; simp only [State.activePlan, State.slot, hps]
    rw [State.cyclePart]
    rw [hu, State.createModel, hps, hr, State.planBasis, hactive]
  unfold State.partsTaken
  split
  · have hst : (s.takeMeasures x.station r).st x.station = (s.st x.station).takeSample r := by rw [State.takeMeasures_st, if_pos rfl]
    rw [hcreate _ (by rw [State.takeMeasures_eq]; rfl) (by rw [hst, Station.takeSample_eq]; exact hnone), State.st_modSt_same, hst,
      Station.takeSample_eq, State.takeMeasures_eq]
    exact ⟨rfl, rfl, rfl, rfl, rfl, rfl, rfl, rfl⟩
  · rw [hcreate s rfl hnone, State.takeMeasures_st, if_pos rfl, State.st_modSt_same, Station.takeSample_eq, State.takeMeasures_eq]
    exact ⟨rfl, rfl, rfl, rfl, rfl, rfl, rfl, rfl⟩

/-- The events of a reply come behind that of the link's return (R142). -/
theorem State.replyTaken_records {x : Exchange} {r : Status} (hlost : (s.st x.station).link = .lost) (a b : Bool)
    (hroom : s.eq.records.length < 32) :
    ∃ more, (s.replyTaken x r a b).eq.records = s.eq.records ++ s.record (.linkBack x.station) :: more := by
  have hback : s.linkSuccess x.station = (s.acknowledged x.station).emit (.linkBack x.station) := by
    rw [State.linkSuccess, hlost]; rfl
  have hflags (u : State) (back : Bool) : Quiet u (u.flagsTaken x.station r back a) := by
    unfold State.flagsTaken
    split
    · exact (u.linkReturn_quiet _ _).trans (State.takeFlags_quiet _ _ _)
    · exact (u.takeFlags_quiet _ _).trans (State.linkReturn_quiet _ _ _)
  have hparts (u : State) (w : Bool) : Quiet u (u.partsTaken x r w b) := by
    unfold State.partsTaken
    split
    · exact (u.takeMeasures_quiet _ _).trans (State.cyclePart_quiet _ _ _ _ _ _)
    · exact (u.cyclePart_quiet _ _ _ _ _).trans (State.takeMeasures_quiet _ _ _)
  have hquiet : Quiet (s.linkSuccess x.station) (s.replyTaken x r a b) :=
    ((hflags _ _).trans (hparts _ _)).trans (State.takePriority_quiet _ _ _ _)
  obtain ⟨more, hmore⟩ := hquiet.records
  rw [hback, State.emit_records_of_room (s.acknowledged x.station) hroom, List.append_assoc] at hmore
  exact ⟨more, hmore.symm⟩

end Sys2Proof.Machine

open Sys2Proof Sys2Proof.Machine

/-- Settles O30: the flags and the return of the link leave the station as its hold has it, in either order, and the cycle part then finds
no model. -/
theorem returningLinkCreatesTheModel : Obligations.ReturningLinkCreatesTheModel := by
  intro s x cfg heard r p a b hx hpoll hd hcfg hreply hnotices houts hrunning hplan hlost hfree hmodel horder hrevise htable
  have hrun := exec_exchangeEnd (a := a) (b := b) (heard := heard) (cfg := cfg) ⟨hx, hd, hcfg, hreply⟩
  have hsame : s.deliver x = s := by rw [State.deliver, hpoll]
  rw [hsame] at hrun
  obtain ⟨-, hhold⟩ := s.replyTaken_replied x r a b
  let l := s.linkSuccess x.station
  have hl : l = (s.acknowledged x.station).emit (.linkBack x.station) := by
    show s.linkSuccess x.station = _
    rw [State.linkSuccess, hlost]; rfl
  have hlst : l.st x.station = (s.st x.station).acknowledge := by
    rw [hl, State.emit_st, State.acknowledged, State.st_modSt_same]; rfl
  have hlframe : l.ps = s.ps ∧ l.tb = s.tb ∧ l.table = s.table := by
    rw [hl, State.emit_eq]; exact ⟨rfl, rfl, rfl⟩
  obtain ⟨hlps, hltb, hltable⟩ := hlframe
  have hreturning : l.Returning x.station := by
    refine ⟨by rw [hlps]; exact hrunning, ?_, ?_, ?_⟩ <;> rw [hlst]
    exacts [rfl, horder, hrevise]
  have hunrequested : l.Unrequested x.station := fun e he => by
    rw [hltable] at he
    simpa using List.all_eq_true.1 htable e he
  obtain ⟨hback, htaken, haside⟩ := hreturning.flagsTaken (by rw [hlst]; exact hfree) hunrequested r a
  let u := l.flagsTaken x.station r true a
  have hups : u.ps = s.ps := haside.ps.trans hlps
  have humodel : (u.st x.station).model = none := by
    rw [haside.field (·.model) (fun _ => rfl) x.station, State.st_modSt_same, hlst]; exact hmodel
  have huplan : u.activePlan = some p := by rw [← hplan]; simp only [State.activePlan, State.slot, hups]
  obtain ⟨hmodel', hcoord, hsynced, hjump, hheld, hutable, hups', hutb⟩ := u.partsTaken_creates (x := x) (r := r)
    (w := (s.st x.station).synced) (b := b) (by rw [hups]; exact hrunning) huplan humodel
  have hquiet : s.replyTaken x r a b = u.partsTaken x r (s.st x.station).synced b := by
    have hreply : s.replyTaken x r a b
        = (u.partsTaken x r (s.st x.station).synced b).takePriority x.station x.slotTick r := by
      rw [State.replyTaken, hlost]; rfl
    rw [hreply]
    refine State.takePriority_of_quiet hnotices houts (State.Unrequested.activeEmergency fun e he => ?_)
    rw [hutable] at he
    exact hunrequested e (htaken ▸ he)
  have hrecords := State.replyTaken_records (r := r) hlost a b
  rw [hquiet] at hrun hhold hrecords
  have hheld' : (u.st x.station).hold = (u.partsTaken x r (s.st x.station).synced b).anySource x.station := hheld.symm.trans hhold
  refine ⟨_, hrun, hrecords, hmodel', ?_, ?_, hjump.trans hback.jump, hutable.trans (htaken.trans hltable), hups'.trans hups, ?_⟩
  · show ((u.partsTaken x r (s.st x.station).synced b).st x.station).coord
      = if (u.partsTaken x r (s.st x.station).synced b).anySource x.station = true then .held else .seeking
    rw [← hheld', hcoord, hback.coord, Station.joinedCoord]
  · show ((u.partsTaken x r (s.st x.station).synced b).st x.station).synced
      = !(u.partsTaken x r (s.st x.station).synced b).anySource x.station
    rw [← hheld', hsynced, hback.synced, hback.coord, Station.joinedCoord]
    cases (u.st x.station).hold <;> rfl
  · exact hutb.trans ((show u.core.tb = (l.modSt x.station (·.flagged r)).core.tb from congrArg State.tb haside.core).trans hltb)
end

section
/-! SUPPORT. What grants, withdrawals and folds leave of the stations and of the requests: the fields that a resynchronisation may change in
its order and its REVISE (R107, R112, R119 to R122). -/

-- One proof at a time: elaborated in parallel, each proof that waits for an earlier one holds a thread and its stack.
set_option Elab.async false

namespace Sys2Proof.Machine

variable {s t u : State} {k : StationIx}

/-! ## What identifies a request -/

/-- The fields of an entry that no grant and no withdrawal changes, among them those that find it. -/
def Entry.ident (e : Entry) : SlotIx × StationIx × ReqClass := (e.slot, e.station, e.cls)

/-- The identities of the requests, in their order. -/
def State.idents (s : State) : List (SlotIx × StationIx × ReqClass) := s.table.map (·.ident)

theorem State.modEntry_idents (s : State) (i : SlotIx) {f : Entry → Entry} (hf : ∀ e, (f e).ident = e.ident) :
    (s.modEntry i f).idents = s.idents := by
  simp only [State.idents, State.modEntry, List.map_map]
  refine List.map_congr_left fun e _ => ?_
  simp only [Function.comp_apply]
  split
  · exact hf e
  · rfl

theorem State.mem_of_idents (h : t.idents = s.idents) {b : Entry} (hb : b ∈ t.table) : ∃ a ∈ s.table, a.ident = b.ident := by
  have hmem : b.ident ∈ s.idents := h ▸ List.mem_map_of_mem hb
  exact List.mem_map.1 hmem

theorem State.entry_none_of_idents (h : t.idents = s.idents) {i : SlotIx} (hi : s.entry i = none) : t.entry i = none := by
  rw [State.entry_none] at hi ⊢
  intro b hb
  obtain ⟨a, ha, hident⟩ := State.mem_of_idents h hb
  have hslot : a.slot = b.slot := congrArg Prod.fst hident
  exact hslot ▸ hi a ha

/-- Where every request of a station is a TRANSIT request, it has no active emergency. -/
theorem State.activeEmergency_of_transit (h : t.idents = s.idents) (htransit : ∀ e ∈ s.table, e.station = k → e.cls = .transit) :
    t.activeEmergency k = none := by
  rw [State.activeEmergency, List.find?_eq_none]
  intro b hb
  obtain ⟨a, ha, hident⟩ := State.mem_of_idents h hb
  simp only [Entry.ident, Prod.mk.injEq] at hident
  obtain ⟨-, hstation, hcls⟩ := hident
  intro hfound
  simp only [Bool.and_eq_true, decide_eq_true_eq] at hfound
  obtain ⟨⟨hk, -⟩, hemergency⟩ := hfound
  have := htransit a ha (hstation.trans hk)
  rw [hcls, hemergency] at this
  cases this

/-! ## Grants and withdrawals (R119, R122) -/

/-- From `s` to `t` the stations keep all but their REVISE and lockout, a waiting REVISE stands, and so do the identities of the
requests. -/
structure Regrants (s t : State) : Prop where
  station : ∀ j : StationIx, t.st j = { s.st j with revise := (t.st j).revise, lockout := (t.st j).lockout }
  revise : ∀ (j : StationIx) (r : WaitingRevise), (s.st j).revise = some r → (t.st j).revise = some r
  idents : t.idents = s.idents

namespace Regrants

theorem trans (h : Regrants s t) (h' : Regrants t u) : Regrants s u where
  station j := by rw [h'.station j, h.station j]
  revise j r hr := h'.revise j r (h.revise j r hr)
  idents := h'.idents.trans h.idents

theorem of_stations (stations : t.stations = s.stations := by rfl) (idents : t.idents = s.idents := by rfl) : Regrants s t where
  station j := by rw [State.st_congr stations]
  revise j r hr := by rw [State.st_congr stations]; exact hr
  idents := idents

theorem refl (s : State) : Regrants s s := of_stations

end Regrants

theorem State.emit_regrants (s : State) (b : EventBody) : Regrants s (s.emit b) := by
  rw [State.emit_eq]; exact .of_stations

theorem State.modEntry_regrants (s : State) (i : SlotIx) {f : Entry → Entry}
    (hf : ∀ e, (f e).ident = e.ident := by exact fun _ => rfl) : Regrants s (s.modEntry i f) := .of_stations rfl (s.modEntry_idents i hf)

theorem State.setLockout_regrants (s : State) (k : StationIx) (n : Nat) : Regrants s (s.setLockout k n) where
  station j := by
    unfold State.setLockout
    rw [State.st_modSt]
    split <;> rfl
  revise j r hr := by
    unfold State.setLockout
    rw [State.st_modSt]
    split <;> exact hr
  idents := rfl

theorem State.grantEntry_regrants (s : State) (e : Entry) (g : GrantKind) (b : Bool) : Regrants s (s.grantEntry e g b) :=
  (s.modEntry_regrants e.slot).trans (State.emit_regrants _ _)

/-- A REVISE is built where none is waiting (R119). -/
theorem State.tryGrant_regrants {p : Plan} {m : CycleModel} {c : Course} {e : Entry} (h : s.tryGrant k p m c e = some t) :
    Regrants s t := by
  unfold State.tryGrant at h
  dsimp only at h
  split at h
  · cases h; exact s.grantEntry_regrants _ _ _
  · cases h
  · split at h
    · cases h
    · simp only [Option.map_eq_some_iff] at h
      obtain ⟨r, hbuilt, rfl⟩ := h
      have hnone : (s.st k).revise = none := by
        unfold State.buildRevise at hbuilt
        dsimp only at hbuilt
        split at hbuilt
        · next hfree => simp only [Bool.and_eq_true, Option.isNone_iff_eq_none] at hfree; exact hfree.1
        · cases hbuilt
      have hrevise : Regrants s ((s.modSt k fun t => { t with revise := some r }).placeUrgent k .revise) := by
        refine ⟨fun j => ?_, fun j r' hr' => ?_, rfl⟩ <;> rw [State.placeUrgent_st, State.st_modSt]
        · split <;> rfl
        · split
          · next hj => subst hj; exact absurd (hnone.symm.trans hr') nofun
          · exact hr'
      exact (hrevise.trans (State.setLockout_regrants _ _ _)).trans (State.grantEntry_regrants _ _ _ _)

theorem State.evaluateTransit_regrants (s : State) (k : StationIx) : Regrants s (s.evaluateTransit k) := by
  have hfirst (p : Plan) (m : CycleModel) (c : Course) (l : List Entry) : Regrants s (s.grantFirst k p m c l) := by
    induction l with
    | nil => exact .refl s
    | cons e es ih =>
      unfold State.grantFirst
      cases h : s.tryGrant k p m c e with
      | none => exact ih
      | some t => exact State.tryGrant_regrants h
  unfold State.evaluateTransit
  dsimp only
  split
  · split
    · split
      · exact hfirst _ _ _ _
      · exact .refl s
    · exact .refl s
  · exact .refl s

theorem State.withdrawGrant_regrants (s : State) (i : SlotIx) : Regrants s (s.withdrawGrant i) := by
  unfold State.withdrawGrant
  split
  · split
    · exact (((s.modEntry_regrants i).trans (State.setLockout_regrants _ _ _)).trans (State.emit_regrants _ _)).trans
        (State.evaluateTransit_regrants _ _)
    · exact .refl s
  · exact .refl s

theorem State.foldLost_regrants (s : State) (f : Option Fold) : Regrants s (s.foldLost f) := by
  cases f
  · exact .refl s
  · exact s.withdrawGrant_regrants _

/-! ## A station without candidates (R119) -/

/-- Every request of the station is ACTIVE, so that none is offered a grant. -/
def State.Uncontested (s : State) (k : StationIx) : Prop := ∀ e ∈ s.table, e.station = k → e.state = .active

theorem State.Uncontested.candidates (h : s.Uncontested k) (z : Tick) (L : Nat) : s.candidates k z L = [] := by
  have hnone : (s.table.filter fun e => e.station = k && e.cls = .transit && e.state = .pending && !e.masked
      && tickDiff e.eta z < (L : Int)) = [] := by
    refine List.filter_eq_nil_iff.2 fun e he => ?_
    by_cases hk : e.station = k
    · simp [h e he hk]
    · simp [hk]
  rw [State.candidates, hnone]
  rfl

theorem State.Uncontested.evaluateTransit (h : s.Uncontested k) : s.evaluateTransit k = s := by
  unfold State.evaluateTransit
  dsimp only
  split
  · split
    · split
      · rw [h.candidates]; rfl
      · rfl
    · rfl
  · rfl

theorem State.Uncontested.offerFold (h : s.Uncontested k) (p : Plan) (z : Tick) (ivs : List Nat) :
    s.offerFold k p z ivs = (s, ivs, none) := by
  unfold State.offerFold
  rw [h.candidates]
  split <;> rfl

/-! ## Events that open what follows (R156) -/

/-- From `s` to `t` the events `l` have been written, and others perhaps behind them. -/
def State.opens (s t : State) (l : List EventBody) : Prop := ∃ y : State, s.wrote y l ∧ Quiet y t

theorem State.emitAll_records (s : State) (l : List EventBody) (hroom : s.eq.records.length + l.length ≤ 32) :
    (s.emitAll l).eq.records = s.eq.records ++ l.map s.record := by
  induction l generalizing s with
  | nil => simp [State.emitAll]
  | cons b l ih =>
    rw [List.length_cons] at hroom
    have hfirst : (s.emit b).eq.records = s.eq.records ++ [s.record b] :=
      State.emit_records_of_room s (show s.eq.records.length < 32 by omega) b
    rw [State.emitAll_cons, ih _ (by rw [hfirst, List.length_append, List.length_singleton]; omega), hfirst]
    have hrecord : (s.emit b).record = s.record := funext fun b' => State.record_congr (by rw [State.emit_eq]) b'
    simp [hrecord]

theorem State.opens.records {l : List EventBody} (h : s.opens t l) (hroom : s.eq.records.length + l.length ≤ 32) :
    ∃ more, t.eq.records = s.eq.records ++ l.map s.record ++ more := by
  obtain ⟨y, ⟨heq, -⟩, hquiet⟩ := h
  obtain ⟨more, hmore⟩ := hquiet.records
  rw [heq, s.emitAll_records l hroom] at hmore
  exact ⟨more, hmore.symm⟩

theorem State.opens.trans {l : List EventBody} (h : s.opens t l) (h' : Quiet t u) : s.opens u l := by
  obtain ⟨y, hwrote, hquiet⟩ := h
  exact ⟨y, hwrote, hquiet.trans h'⟩

/-- An outstanding grant that is withdrawn is recorded first (R122). -/
theorem State.withdrawGrant_opens {i : SlotIx} {e : Entry} {l : List EventBody} (h : SameEvents (s.emitAll l) t)
    (he : t.entry i = some e) (ho : e.outstanding = true) (hk : e.station = k) :
    s.opens (t.withdrawGrant i) (l ++ [.grantWithdrawn k e.tag i]) := by
  refine ⟨t.ungranted k e.tag i, ?_, ?_⟩
  · have hbefore : SameEvents (s.emitAll l) ((t.modEntry i (·.ungranted)).setLockout k 0) := h.trans {}
    have hafter := hbefore.emit (.grantWithdrawn k e.tag i)
    rw [State.wrote, State.emitAll_append]
    exact ⟨hafter.eq, hafter.hli⟩
  · rw [State.withdrawGrant_outstanding he ho hk]
    exact State.evaluateTransit_quiet _ _

end Sys2Proof.Machine
end

section
/-! SUPPORT. A resynchronisation up to its order and its REVISE: the model takes the number and the zero tick of the reply, and DRIFT is
written from a synchronised station (R51, R84, R85, R96 to R98). -/

-- One proof at a time: elaborated in parallel, each proof that waits for an earlier one holds a thread and its stack.
set_option Elab.async false

namespace Sys2Proof.Machine

variable {s t u : State} {k : StationIx}

/-! ## What the moving model leaves -/

/-- What a station's record says beside its model, its link, its sample and its lockout, of what a resynchronisation reads. -/
def Station.resting (t : Station) : Coord × Bool × Option WaitingOrder × Option WaitingRevise × List Nat :=
  (t.coord, t.synced, t.order, t.revise, t.minsInForce)

/-- From `s` to `t` everything stands but the other stations, the station's model, link, sample and lockout, and the tidal measurement. -/
structure SameRest (k : StationIx) (s t : State) : Prop where
  station : (t.st k).resting = (s.st k).resting
  ps : t.ps = s.ps := by rfl
  tb : t.tb = s.tb := by rfl
  table : t.table = s.table := by rfl
  clc : t.clc = s.clc := by rfl
  eq : t.eq = s.eq := by rfl
  hli : t.hli = s.hli := by rfl

namespace SameRest

theorem refl (s : State) : SameRest k s s := ⟨rfl, rfl, rfl, rfl, rfl, rfl, rfl⟩

theorem trans (h : SameRest k s t) (h' : SameRest k t u) : SameRest k s u :=
  ⟨h'.station.trans h.station, h'.ps.trans h.ps, h'.tb.trans h.tb, h'.table.trans h.table, h'.clc.trans h.clc, h'.eq.trans h.eq,
    h'.hli.trans h.hli⟩

theorem modSt {f : Station → Station} (h : (f (s.st k)).resting = (s.st k).resting := by rfl) : SameRest k s (s.modSt k f) where
  station := by rw [State.st_modSt_same]; exact h

theorem activePlan (h : SameRest k s t) : t.activePlan = s.activePlan := by simp only [State.activePlan, State.slot, h.ps]

end SameRest

theorem State.acknowledged_rest (s : State) (k : StationIx) : SameRest k s (s.acknowledged k) := .modSt

theorem State.takeMeasures_rest (s : State) (k : StationIx) (r : Status) : SameRest k s (s.takeMeasures k r) := by
  rw [State.takeMeasures_eq]
  have hsample : SameRest k s (s.modSt k (·.takeSample r)) := .modSt (by rw [Station.takeSample_eq]; rfl)
  exact hsample.trans ⟨rfl, rfl, rfl, rfl, rfl, rfl, rfl⟩

/-- A zero handed on at a station that is offered no grant, and is not the tidal one (R85, R119). -/
theorem State.handOn_rest (hidle : (s.st k).synced = false ∨ s.Uncontested k) (htidal : ¬ s.activePlan.any (·.tidalAt k) = true) :
    SameRest k s (s.handOn k) ∧ ((s.handOn k).st k).model = (s.st k).model := by
  let u := (s.modSt k fun t => { t with age := min Config.sampleLife (t.age + 1) }).modSt k fun t => { t with lockout := t.lockout - 1 }
  have hu : s.handOn k = u.evaluateTransit k :=
    congrArg (fun v : State => (v.modSt k fun t => { t with lockout := t.lockout - 1 }).evaluateTransit k) (if_neg htidal)
  have hst : u.st k = { s.st k with age := min Config.sampleLife ((s.st k).age + 1), lockout := (s.st k).lockout - 1 } := by
    rw [show u.st k = (State.modSt _ k fun t => { t with lockout := t.lockout - 1 }).st k from rfl, State.st_modSt_same,
      State.st_modSt_same]
  have hsame : u.evaluateTransit k = u := by
    obtain hunsynced | hactive := hidle
    · rw [State.evaluateTransit, hst, hunsynced, Bool.and_false, Bool.false_and]
      rfl
    · exact State.Uncontested.evaluateTransit hactive
  rw [hu, hsame]
  exact ⟨⟨by rw [hst]; rfl, rfl, rfl, rfl, rfl, rfl, rfl⟩, by rw [hst]⟩

theorem State.takeZero_rest {m : CycleModel} {n : Byte} {z : Tick} (hidle : (s.st k).synced = false ∨ s.Uncontested k)
    (htidal : ¬ s.activePlan.any (·.tidalAt k) = true) :
    SameRest k s (s.takeZero k m n z) ∧ ((s.takeZero k m n z).st k).model = some (m.zero n z) := by
  let u := s.modSt k fun x => { x with model := some (m.zero n z) }
  have hrest : SameRest k s u := .modSt
  have hst : u.st k = { s.st k with model := some (m.zero n z) } := by
    rw [show u.st k = (s.modSt k fun x => { x with model := some (m.zero n z) }).st k from rfl, State.st_modSt_same]
  have hzero : s.takeZero k m n z = if n = m.lastZero then u else u.handOn k := rfl
  rw [hzero]
  split
  · exact ⟨hrest, by rw [hst]⟩
  · obtain ⟨hon, hmodel⟩ := State.handOn_rest (s := u) (by rw [hst]; exact hidle) htidal
    exact ⟨hrest.trans hon, hmodel.trans (by rw [hst])⟩

/-! ## The moved model (R97) -/

/-- The basis after the reply: a forward step adopts the ordered next for the new number (R97). -/
def CycleModel.adopted (m : CycleModel) (n : Byte) : Basis :=
  match m.next with
  | some nx => if 0 < numberStep n m.number ∧ nx.number = n then .order nx.course else m.basis
  | none => m.basis

/-- The model after a reply of the number `n` and of the time `c`, from the slot at `z`; `plan` is the basis that a NONE one takes (R97). -/
def CycleModel.moved (m : CycleModel) (plan : Basis) (z : Tick) (n : Byte) (c : Nat) : CycleModel where
  zeroTick := tickAdd z (-(c : Int))
  number := n
  basis := if m.adopted n = .none then plan else m.adopted n
  mark := m.mark
  lastZero := if 0 < numberStep n m.number then n else m.lastZero
  next := if numberStep n m.number = 0 then m.next else none

/-- The model stepped to the new number, before it takes the zero tick (R97). -/
def State.stepped (s : State) (k : StationIx) (m : CycleModel) (z : Tick) (n : Byte) : State :=
  if 0 < numberStep n m.number then s.takeZero k m n z
  else if numberStep n m.number < 0 then s.modModel k fun m => { m with number := n, next := none }
  else s

theorem numberStep_eq_zero {a b : Byte} (h : numberStep a b = 0) : a = b := by
  have hrange : ((a.toNat : Int) - b.toNat) % 256 = 0 := by
    simp only [numberStep, circDiff] at h
    split at h <;> omega
  have ha := a.isLt
  have hb := b.isLt
  exact BitVec.eq_of_toNat_eq (by omega)

/-- The stepped model, with its zero tick and its basis settled, is the moved one (R97). -/
theorem State.stepped_model {m : CycleModel} {z : Tick} {n : Byte} (hm : (s.st k).model = some m)
    (hidle : (s.st k).synced = false ∨ s.Uncontested k)
    (htidal : 0 < numberStep n m.number → ¬ s.activePlan.any (·.tidalAt k) = true) :
    SameRest k s (s.stepped k m z n) ∧ ∃ y : CycleModel, ((s.stepped k m z n).st k).model = some y
      ∧ ∀ (plan : Basis) (c : Nat), m.moved plan z n c
        = { y with zeroTick := tickAdd z (-(c : Int)), basis := if y.basis = .none then plan else y.basis } := by
  unfold State.stepped
  split
  · next h =>
    obtain ⟨hrest, hmodel⟩ := State.takeZero_rest (m := m) (n := n) (z := z) hidle (htidal h)
    refine ⟨hrest, _, hmodel, fun plan c => ?_⟩
    have hadopted : (m.zero n z).basis = m.adopted n := by
      unfold CycleModel.zero CycleModel.adopted
      cases m.next <;> simp [h]
    rw [CycleModel.moved, ← hadopted, if_pos h, if_neg (show ¬ numberStep n m.number = 0 by omega)]
    rfl
  · next h =>
    have hadopted : m.adopted n = m.basis := by
      unfold CycleModel.adopted
      cases m.next <;> simp [h]
    split
    · next hback =>
      refine ⟨.modSt, { m with number := n, next := none }, ?_, fun plan c => ?_⟩
      · rw [State.modModel, State.st_modSt_same, hm]; rfl
      · rw [CycleModel.moved, hadopted, if_neg h, if_neg (show ¬ numberStep n m.number = 0 by omega)]
    · next hback =>
      have hstep : numberStep n m.number = 0 := by omega
      refine ⟨.refl s, m, hm, fun plan c => ?_⟩
      rw [CycleModel.moved, hadopted, if_neg h, if_pos hstep, numberStep_eq_zero hstep]

/-! ## The state before the order and the REVISE are seen to -/

/-- From `s` to `v` the station has the model `m`, the events `l` are written, the resynchronisation is noted for the tick of the slot, and
the station is synchronised where it is SEEKING (R51, R97, R98). -/
structure State.Moved (s : State) (k : StationIx) (m : CycleModel) (l : List EventBody) (z : Tick) (v : State) : Prop where
  model : (v.st k).model = some m
  coord : (v.st k).coord = (s.st k).coord
  synced : (v.st k).synced = ((s.st k).synced || (s.st k).coord = .seeking)
  order : (v.st k).order = (s.st k).order
  revise : (v.st k).revise = (s.st k).revise
  mins : (v.st k).minsInForce = (s.st k).minsInForce
  ps : v.ps = s.ps
  tb : v.tb = s.tb
  table : v.table = s.table
  clc : v.clc = { s.clc with resynced := if z = s.now then some k else s.clc.resynced }
  events : SameEvents (s.emitAll l) v

/-- What ends a resynchronisation: the order, and then the REVISE (R107, R112). -/
def State.resettled (s : State) (k : StationIx) : State := (s.orderAfterResync k).reviseAfterResync k

theorem State.markResync_parts (s : State) (k : StationIx) (z : Tick) : s.markResync k z
    = { s with clc := { s.clc with resynced := if z = s.now then some k else s.clc.resynced } } := by
  unfold State.markResync
  split <;> rfl

/-- A resynchronisation moves the model, and then sees to the order and the REVISE (R96 to R98). -/
theorem State.cyclePart_moved {m : CycleModel} {z : Tick} {n : Byte} {c : Nat} {w : Bool} (hrest : SameRest k s u)
    (hm : (u.st k).model = some m)
    (hdiffers : numberStep n m.number ≠ 0 ∨ 3 < (m.timeDifference z c).natAbs
      ∨ ((s.st k).coord = .seeking ∧ (s.st k).synced = false) ∨ m.basis = .none ∧ s.activePlan ≠ none)
    (hidle : (s.st k).synced = false ∨ s.Uncontested k)
    (htidal : 0 < numberStep n m.number → ¬ s.activePlan.any (·.tidalAt k) = true) :
    ∃ v : State, u.cyclePart k z n c w = v.resettled k ∧ s.Moved k (m.moved (s.planBasis k) z n c)
      (if w then [.drift k (m.timeDifference z c) (numberStep n m.number)] else []) z v := by
  have hstation := hrest.station
  simp only [Station.resting, Prod.mk.injEq] at hstation
  obtain ⟨hcoord, hsynced, -, -, -⟩ := hstation
  have hcondition : (decide (numberStep n m.number ≠ 0) || decide (Config.driftTolerance < (m.timeDifference z c).natAbs)
      || (decide ((u.st k).coord = .seeking) && !(u.st k).synced) || (decide (m.basis = .none) && u.activePlan.isSome)) = true := by
    rw [hcoord, hsynced, hrest.activePlan]
    simp only [Bool.or_eq_true, Bool.and_eq_true, decide_eq_true_eq, Bool.not_eq_true', Option.isSome_iff_ne_none]
    exact (or_assoc.trans or_assoc).2 hdiffers
  have hidle' : (u.st k).synced = false ∨ u.Uncontested k := by
    rw [hsynced, State.Uncontested, hrest.table]; exact hidle
  obtain ⟨hstepped, y, hy, hmoved⟩ := State.stepped_model (z := z) (n := n) hm hidle' (by rw [hrest.activePlan]; exact htidal)
  have hafter := hrest.trans hstepped
  let a := (u.stepped k m z n).modModel k fun y => { y with
    zeroTick := tickAdd z (-(c : Int)), basis := if y.basis = .none then (u.stepped k m z n).planBasis k else y.basis }
  let b := if w then a.emit (.drift k (m.timeDifference z c) (numberStep n m.number)) else a
  let d := b.modSt k fun t => { t with synced := t.synced || t.coord = .seeking }
  refine ⟨d.markResync k z, ?_, ?_⟩
  · rw [State.cyclePart, hm]
    dsimp only
    rw [if_pos hcondition]
    rfl
  have hplan : (u.stepped k m z n).planBasis k = s.planBasis k := by rw [State.planBasis, hafter.activePlan]; rfl
  have ha : a.st k = { (u.stepped k m z n).st k with model := some (m.moved (s.planBasis k) z n c) } := by
    rw [show a.st k = (State.modSt _ k _).st k from rfl, State.st_modSt_same, hy, hplan, hmoved]
    rfl
  have hb : b.st k = a.st k ∧ b.ps = a.ps ∧ b.tb = a.tb ∧ b.table = a.table ∧ b.clc = a.clc := by
    show (ite _ _ _ : State).st k = a.st k ∧ _
    unfold b
    split
    · rw [State.emit_st, State.emit_eq]; exact ⟨rfl, rfl, rfl, rfl, rfl⟩
    · exact ⟨rfl, rfl, rfl, rfl, rfl⟩
  obtain ⟨hbst, hbps, hbtb, hbtable, hbclc⟩ := hb
  have hd : d.st k = { a.st k with synced := (a.st k).synced || (a.st k).coord = .seeking } := by
    rw [show d.st k = (State.modSt b k _).st k from rfl, State.st_modSt_same, hbst]
  have hlast : (d.markResync k z).st k = d.st k := by rw [State.markResync_parts]; rfl
  have hstation := hafter.station
  simp only [Station.resting, Prod.mk.injEq] at hstation
  obtain ⟨hcoord, hsynced, horder, hrevise, hmins⟩ := hstation
  have hnow : d.now = s.now := congrArg TimeBase.tick (hbtb.trans hafter.tb)
  refine ⟨?_, ?_, ?_, ?_, ?_, ?_, ?_, ?_, ?_, ?_, ?_⟩
  · rw [hlast, hd, ha]
  · rw [hlast, hd, ha]; exact hcoord
  · rw [hlast, hd, ha, ← hsynced, ← hcoord]
  · rw [hlast, hd, ha]; exact horder
  · rw [hlast, hd, ha]; exact hrevise
  · rw [hlast, hd, ha]; exact hmins
  · rw [State.markResync_parts]; exact hbps.trans hafter.ps
  · rw [State.markResync_parts]; exact hbtb.trans hafter.tb
  · rw [State.markResync_parts]; exact hbtable.trans hafter.table
  · have hclc : d.clc = s.clc := hbclc.trans hafter.clc
    rw [State.markResync_parts, hnow, hclc]
  · have hsame : SameEvents s a := ⟨hafter.eq, hafter.hli, congrArg TimeBase.clockSet hafter.tb, congrArg TimeBase.time hafter.tb⟩
    have hwritten : SameEvents (s.emitAll (if w then [.drift k (m.timeDifference z c) (numberStep n m.number)] else [])) b := by
      unfold b
      split
      · exact hsame.emit _
      · exact hsame
    rw [State.markResync_parts]
    exact hwritten.trans ⟨rfl, rfl, rfl, rfl⟩

end Sys2Proof.Machine
end

section
/-! SUPPORT. What a resynchronisation makes of the waiting order and of the waiting REVISE, case by case (R103, R105, R107, R112, R120). -/

-- One proof at a time: elaborated in parallel, each proof that waits for an earlier one holds a thread and its stack.
set_option Elab.async false

namespace Sys2Proof.Machine

variable {s t u : State} {k : StationIx} {m : CycleModel}

/-! ## The REVISE (R112) -/

/-- A waiting REVISE stands under the model `m`: it is for its cycle, and its recomputed latest tick is not past (R112). -/
def State.stands (s : State) (m : CycleModel) (r : WaitingRevise) : Bool :=
  r.number = m.number && 0 ≤ tickDiff (tickAdd m.zeroTick r.offset) s.now

/-- The station's REVISE, if one waits, stands or has no request whose grant its withdrawal would withdraw (R112, R122). -/
def State.Undisturbed (s : State) (k : StationIx) (m : CycleModel) : Prop :=
  ∀ r ∈ (s.st k).revise, s.stands m r = true ∨ s.entry r.slot = none

theorem State.reviseAfterResync_of_none (h : (s.st k).revise = none) : s.reviseAfterResync k = s := by
  rw [State.reviseAfterResync, h]

section
variable {r : WaitingRevise} (hm : (s.st k).model = some m) (hr : (s.st k).revise = some r)
include hm hr

theorem State.reviseAfterResync_eq : s.reviseAfterResync k = if s.stands m r = true then s.modSt k fun t => { t with
      revise := some { r with latest := tickAdd m.zeroTick r.offset } }
    else s.withdrawRevise k := by
  have hcondition : (decide (r.number ≠ m.number) || !reached (tickAdd m.zeroTick r.offset) s.now) = !s.stands m r := by
    simp only [State.stands, reached, Bool.not_and, ne_eq, decide_not]
  rw [State.reviseAfterResync, hr, hm]
  dsimp only
  rw [hcondition]
  cases s.stands m r <;> rfl

end

theorem State.withdrawRevise_of_gone {r : WaitingRevise} (hr : (s.st k).revise = some r) (h : s.entry r.slot = none) :
    s.withdrawRevise k = s.clearRevise k := by
  rw [State.withdrawRevise, hr]
  refine State.withdrawGrant_delivered fun e he => ?_
  have hnone : (s.clearRevise k).entry r.slot = none := h
  rw [hnone] at he
  cases he

/-- The REVISE's part leaves the station's record but for the REVISE and the lockout (R112, R122). -/
theorem State.reviseAfterResync_spared (s : State) (k : StationIx) :
    (s.reviseAfterResync k).st k = { s.st k with
        revise := ((s.reviseAfterResync k).st k).revise, lockout := ((s.reviseAfterResync k).st k).lockout }
      ∧ (s.reviseAfterResync k).idents = s.idents := by
  unfold State.reviseAfterResync
  dsimp only
  split
  · next r m hr hm =>
    split
    · have hwithdrawn := (s.clearRevise k).withdrawGrant_regrants r.slot
      have heq : s.withdrawRevise k = (s.clearRevise k).withdrawGrant r.slot := by rw [State.withdrawRevise, hr]
      rw [heq]
      refine ⟨?_, hwithdrawn.idents⟩
      have hst := hwithdrawn.station k
      rw [State.clearRevise_st] at hst
      exact hst
    · rw [State.st_modSt_same]
      exact ⟨rfl, rfl⟩
  · exact ⟨rfl, rfl⟩

/-- The REVISE's part writes nothing where no grant is withdrawn (R112). -/
theorem State.reviseAfterResync_undisturbed (hm : (s.st k).model = some m) (h : s.Undisturbed k m) :
    (s.reviseAfterResync k).st k = { s.st k with revise := ((s.reviseAfterResync k).st k).revise }
      ∧ (s.reviseAfterResync k).table = s.table ∧ (s.reviseAfterResync k).eq = s.eq ∧ (s.reviseAfterResync k).hli = s.hli := by
  cases hr : (s.st k).revise with
  | none => rw [State.reviseAfterResync_of_none hr]; exact ⟨rfl, rfl, rfl, rfl⟩
  | some r =>
    rw [State.reviseAfterResync_eq hm hr]
    split
    · rw [State.st_modSt_same]; exact ⟨rfl, rfl, rfl, rfl⟩
    · next hfallen =>
      rw [State.withdrawRevise_of_gone hr ((h r hr).resolve_left hfallen), State.clearRevise_st]
      exact ⟨rfl, rfl, rfl, rfl⟩

/-! ## The waiting cycle order (R107) -/

/-- The order absent, with its ORDER_LATE written (R105, R107). -/
def State.orderGone (s : State) (k : StationIx) (n : Byte) (c : LateCause) : State :=
  (s.modSt k fun t => { t with order := none }).emit (.orderLate k n c)

theorem State.orderGone_st (s : State) (k : StationIx) (n : Byte) (c : LateCause) :
    (s.orderGone k n c).st k = { s.st k with order := none } := by
  rw [State.orderGone, State.emit_st, State.st_modSt_same]

theorem State.orderGone_parts (s : State) (k : StationIx) (n : Byte) (c : LateCause) :
    (s.orderGone k n c).table = s.table ∧ (s.orderGone k n c).clc = s.clc ∧ (s.orderGone k n c).tb = s.tb := by
  rw [State.orderGone, State.emit_eq]
  exact ⟨rfl, rfl, rfl⟩

/-- The order with the error projected again, before its fold is seen to (R103, R107). -/
def State.reprojected (s : State) (k : StationIx) (d : Nat) (tr : Transition) : State :=
  s.modSt k fun t => { t with lastError := some d, correction := some tr.correction }

theorem State.orderAfterResync_of_none (h : (s.st k).cycleOrder = none) : s.orderAfterResync k = s := by
  unfold State.orderAfterResync
  dsimp only
  split
  · next o m ho hm =>
    rw [Station.cycleOrder, ho] at h
    rw [show o.body = none from h]
  · rfl

section
variable {o : WaitingOrder} {b : OrderBody} {zero : Tick} (hm : (s.st k).model = some m) (ho : (s.st k).order = some o)
  (hb : o.body = some b)
include hm ho hb

theorem State.orderAfterResync_overtaken (hn : o.number ≠ nextNumber m.number) :
    s.orderAfterResync k = (s.orderGone k o.number .overtaken).foldLost b.fold := by
  rw [State.orderAfterResync, ho, hm]
  dsimp only
  rw [hb]
  exact if_pos hn

variable (hn : o.number = nextNumber m.number) (hz : m.nextZero = some zero)
include hn hz

theorem State.orderAfterResync_next : s.orderAfterResync k
    = if tickDiff (tickAdd zero (-5)) s.now < 0 then (s.orderGone k o.number .deadline).foldLost b.fold
      else if b.takenOver then s.modSt k fun t => { t with order := some { o with deadline := tickAdd zero (-5) } }
      else match s.slot b.plan with
        | some x => s.rebuildOrder k o b x.plan zero
        | none => s := by
  rw [State.orderAfterResync, ho, hm]
  dsimp only
  rw [hb]
  dsimp only
  rw [if_neg (not_not.2 hn), hz]
  refine if_congr ?_ rfl rfl
  simp only [reached, Bool.not_eq_true', decide_eq_false_iff_not, not_le]
  rfl

theorem State.orderAfterResync_deadline (hpast : tickDiff (tickAdd zero (-5)) s.now < 0) :
    s.orderAfterResync k = (s.orderGone k o.number .deadline).foldLost b.fold := by
  rw [State.orderAfterResync_next hm ho hb hn hz, if_pos hpast]

variable (hin : 0 ≤ tickDiff (tickAdd zero (-5)) s.now)
include hin

theorem State.orderAfterResync_takenOver (hover : b.takenOver = true) :
    s.orderAfterResync k = s.modSt k fun t => { t with order := some { o with deadline := tickAdd zero (-5) } } := by
  rw [State.orderAfterResync_next hm ho hb hn hz, if_neg (not_lt.2 hin), if_pos hover]

theorem State.orderAfterResync_rebuilt {g : PlanSlot} (hover : b.takenOver = false) (hg : s.slot b.plan = some g) :
    let d := projectedError g.plan.cycle (g.plan.localCycle k) s.tb.m b.target (tickDiff zero s.now)
    let tr := transition g.plan k (s.st k).minsInForce d
    let r := (s.reprojected k d tr).refolded k g.plan zero tr.intervals b.fold
    s.orderAfterResync k = r.1.modSt k fun t => { t with order := some { o with
      body := some { b with course := .ofIntervals r.2.1, fold := r.2.2 }, deadline := tickAdd zero (-5) } } := by
  rw [State.orderAfterResync_next hm ho hb hn hz, if_neg (not_lt.2 hin), if_neg (by rw [hover]; exact Bool.false_ne_true), hg]
  dsimp only
  unfold State.rebuildOrder
  cases b.fold <;> rfl

end

/-- From `s` to `t` the station keeps all but its order with the error it was built from, its REVISE and its lockout; a waiting REVISE
stands, and so do the identities of the requests. -/
structure Reorders (k : StationIx) (s t : State) : Prop where
  station : t.st k = { s.st k with
    order := (t.st k).order, lastError := (t.st k).lastError, correction := (t.st k).correction
    revise := (t.st k).revise, lockout := (t.st k).lockout }
  revise : ∀ r : WaitingRevise, (s.st k).revise = some r → (t.st k).revise = some r
  idents : t.idents = s.idents

namespace Reorders

theorem refl (s : State) : Reorders k s s := ⟨rfl, fun _ => id, rfl⟩

theorem trans (h : Reorders k s t) (h' : Reorders k t u) : Reorders k s u where
  station := by rw [h'.station, h.station]
  revise r hr := h'.revise r (h.revise r hr)
  idents := h'.idents.trans h.idents

theorem of_regrants (h : Regrants s t) : Reorders k s t := ⟨by rw [h.station k], h.revise k, h.idents⟩

theorem order (s : State) (o : Option WaitingOrder) : Reorders k s (s.modSt k fun t => { t with order := o }) := by
  refine ⟨?_, fun r hr => ?_, rfl⟩ <;> rw [State.st_modSt_same]
  exact hr

theorem reprojected (s : State) (d : Nat) (tr : Transition) : Reorders k s (s.reprojected k d tr) := by
  unfold State.reprojected
  refine ⟨?_, fun r hr => ?_, rfl⟩ <;> rw [State.st_modSt_same]
  exact hr

end Reorders

theorem State.refolded_regrants (s : State) (k : StationIx) (p : Plan) (z : Tick) (ivs : List Nat) (f : Option Fold)
    (h : s.Uncontested k) : Regrants s (s.refolded k p z ivs f).1 := by
  cases f with
  | none =>
    show Regrants s (s.offerFold k p z ivs).1
    rw [h.offerFold]
    exact .refl s
  | some f =>
    show Regrants s (s.refold k p z ivs f).1
    unfold State.refold
    split
    · exact .refl s
    · dsimp only
      split
      · exact s.withdrawGrant_regrants _
      · split
        · exact s.modEntry_regrants _
        · exact (s.modEntry_regrants _).trans (State.setLockout_regrants _ _ _)

/-- The order's part leaves the station's record but for the order and what goes with it (R107). -/
theorem State.orderAfterResync_reorders (h : s.Uncontested k) : Reorders k s (s.orderAfterResync k) := by
  have hlate (n : Byte) (c : LateCause) (f : Option Fold) : Reorders k s ((s.orderGone k n c).foldLost f) :=
    ((Reorders.order s none).trans (.of_regrants (State.emit_regrants _ _))).trans (.of_regrants (State.foldLost_regrants _ _))
  have hrebuilt (o : WaitingOrder) (b : OrderBody) (p : Plan) (z : Tick) : Reorders k s (s.rebuildOrder k o b p z) := by
    obtain ⟨d, heq⟩ := s.rebuildOrder_eq k o b p z
    rw [heq]
    have hnoted := Reorders.reprojected (k := k) s d (transition p k (s.st k).minsInForce d)
    exact (hnoted.trans (.of_regrants (State.refolded_regrants _ k p z _ _ h))).trans (.order _ _)
  unfold State.orderAfterResync
  dsimp only
  split
  · split
    · exact .refl s
    · split
      · exact hlate _ _ _
      · split
        · exact .refl s
        · split
          · exact hlate _ _ _
          · split
            · exact .order _ _
            · split
              · exact hrebuilt _ _ _ _
              · exact .refl s
  · exact .refl s

/-! ## Folds without an outstanding grant (R120, R122) -/

/-- The fold has no request whose grant's frame is outstanding. -/
def State.Settled (s : State) (f : Option Fold) : Prop := ∀ f' ∈ f, ∀ e : Entry, s.entry f'.slot = some e → e.outstanding = false

theorem State.Settled.foldLost {f : Option Fold} (h : s.Settled f) : s.foldLost f = s := by
  cases f with
  | none => rfl
  | some f => exact State.withdrawGrant_delivered (h f rfl)

/-- A fold without an outstanding grant is taken again without a change of URGENT or a REVISE (R120). -/
theorem State.Settled.refolded {f : Option Fold} (h : s.Settled f) (hactive : s.Uncontested k) (p : Plan) (z : Tick) (ivs : List Nat) :
    (s.refolded k p z ivs f).1.clc = s.clc ∧ ((s.refolded k p z ivs f).1.st k).revise = (s.st k).revise := by
  cases f with
  | none =>
    show (s.offerFold k p z ivs).1.clc = _ ∧ ((s.offerFold k p z ivs).1.st k).revise = _
    rw [hactive.offerFold]
    exact ⟨rfl, rfl⟩
  | some f =>
    show (s.refold k p z ivs f).1.clc = _ ∧ ((s.refold k p z ivs f).1.st k).revise = _
    unfold State.refold
    split
    · exact ⟨rfl, rfl⟩
    · dsimp only
      split
      · rw [State.withdrawGrant_delivered (h f rfl)]
        exact ⟨rfl, rfl⟩
      · split
        · exact ⟨rfl, rfl⟩
        · refine ⟨rfl, ?_⟩
          rw [State.setLockout, State.st_modSt_same]
          rfl

/-- Where no grant of the order's fold is withdrawn, URGENT stands, and so does an absent REVISE (R107, R112). -/
theorem State.orderAfterResync_settled (hactive : s.Uncontested k)
    (h : ∀ (o : WaitingOrder) (b : OrderBody), (s.st k).order = some o → o.body = some b → s.Settled b.fold) :
    (s.orderAfterResync k).clc = s.clc ∧ ((s.orderAfterResync k).st k).revise = (s.st k).revise := by
  have hlate (n : Byte) (c : LateCause) {f : Option Fold} (hf : s.Settled f) :
      ((s.orderGone k n c).foldLost f).clc = s.clc ∧ (((s.orderGone k n c).foldLost f).st k).revise = (s.st k).revise := by
    obtain ⟨htable, hclc, -⟩ := s.orderGone_parts k n c
    have hgone : (s.orderGone k n c).Settled f := by
      intro f' hf' e he
      rw [State.entry, htable] at he
      exact hf f' hf' e he
    rw [hgone.foldLost, State.orderGone_st]
    exact ⟨hclc, rfl⟩
  have hrebuilt (o : WaitingOrder) (b : OrderBody) (p : Plan) (z : Tick) (hb : s.Settled b.fold) :
      (s.rebuildOrder k o b p z).clc = s.clc ∧ ((s.rebuildOrder k o b p z).st k).revise = (s.st k).revise := by
    obtain ⟨d, heq⟩ := s.rebuildOrder_eq k o b p z
    let n := s.reprojected k d (transition p k (s.st k).minsInForce d)
    obtain ⟨hclc, hrevise⟩ := State.Settled.refolded (s := n) (k := k) hb hactive p z (transition p k (s.st k).minsInForce d).intervals
    have hn : (n.st k).revise = (s.st k).revise := by
      rw [show n.st k = (State.modSt s k _).st k from rfl, State.st_modSt_same]
    rw [heq, State.st_modSt_same]
    exact ⟨hclc, hrevise.trans hn⟩
  unfold State.orderAfterResync
  dsimp only
  split
  · next o m ho hm =>
    split
    · exact ⟨rfl, rfl⟩
    · next b hb =>
      have hsettled := h o b ho hb
      split
      · exact hlate _ _ hsettled
      · split
        · exact ⟨rfl, rfl⟩
        · split
          · exact hlate _ _ hsettled
          · split
            · rw [State.st_modSt_same]; exact ⟨rfl, rfl⟩
            · split
              · exact hrebuilt _ _ _ _ hsettled
              · exact ⟨rfl, rfl⟩
  · exact ⟨rfl, rfl⟩

/-! ## A fold taken again (R102, R120) -/

section
variable {maxExt : Nat} {ivs mins : List Nat} {pos : Int}

theorem classify_extends (hlate : (ivs.headD 0 : Int) ≤ pos)
    (hroom : 1 ≤ extensionRoom maxExt ivs mins ∧ pos < ivs.headD 0 + extensionRoom maxExt ivs mins) :
    classify maxExt 0 ivs mins pos = .extend (min (pos - ivs.headD 0 + 20) (extensionRoom maxExt ivs mins)).toNat := by
  unfold classify
  dsimp only
  rw [if_neg (not_lt.2 hlate), if_neg (lt_irrefl 0), if_pos hroom]
  congr 1
  omega

theorem classify_early (hlate : (ivs.headD 0 : Int) ≤ pos)
    (hroom : ¬(1 ≤ extensionRoom maxExt ivs mins ∧ pos < ivs.headD 0 + extensionRoom maxExt ivs mins))
    (hfloor : max (pos - 20).toNat (earlyFloor ivs mins) < ivs.sum) :
    classify maxExt 0 ivs mins pos = .early (max (pos - 20).toNat (earlyFloor ivs mins)) := by
  unfold classify
  dsimp only
  rw [if_neg (not_lt.2 hlate), if_neg (lt_irrefl 0), if_neg hroom, if_pos hfloor]

theorem classify_passive (h : pos < ivs.headD 0
    ∨ ¬(1 ≤ extensionRoom maxExt ivs mins ∧ pos < ivs.headD 0 + extensionRoom maxExt ivs mins)
      ∧ ivs.sum ≤ max (pos - 20).toNat (earlyFloor ivs mins)) : classify maxExt 0 ivs mins pos = .passive := by
  unfold classify
  dsimp only
  by_cases hlate : pos < ivs.headD 0
  · rw [if_pos hlate]
  · obtain ⟨hroom, hfloor⟩ := h.resolve_left hlate
    rw [if_neg hlate, if_neg (lt_irrefl 0), if_neg hroom, if_neg (not_lt.2 hfloor)]

variable {p : Plan} {z : Tick} {f : Fold} {e : Entry} (he : s.entry f.slot = some e) (htransit : e.cls = .transit)
include he htransit

theorem State.refold_late (hlate : (ivs.sum : Int) ≤ tickDiff e.eta z) :
    s.refolded k p z ivs (some f) = (s.withdrawGrant f.slot, ivs, none) := by
  show s.refold k p z ivs f = _
  rw [State.refold, he, Option.filter, if_pos (by simpa using htransit)]
  exact if_pos hlate

theorem State.refold_within (hin : tickDiff e.eta z < (ivs.sum : Int)) : s.refolded k p z ivs (some f)
    = match (classify p.maxExtension 0 ivs (s.st k).minsInForce (tickDiff e.eta z)).fold ivs (s.st k).minsInForce with
      | some (kind, amount, ivs') =>
        (s.modEntry f.slot fun e => { e with grant := some kind.grant }, ivs', some { slot := f.slot, kind, amount })
      | none => ((s.modEntry f.slot fun e => { e with grant := some .passive, outstanding := false }).setLockout k 0, ivs, none) := by
  show s.refold k p z ivs f = _
  rw [State.refold, he, Option.filter, if_pos (by simpa using htransit)]
  exact if_neg (not_le.2 hin)

end

end Sys2Proof.Machine
end

section
/-! SUPPORT. The reply that moves a model, seen from the state before it: what stands, what is written, and what becomes of the waiting
order and of the waiting REVISE (R97, R98, R105, R107, R112, R120, R122). -/

-- One proof at a time: elaborated in parallel, each proof that waits for an earlier one holds a thread and its stack.
set_option Elab.async false

namespace Sys2Proof.Machine

/-! ## The state after the reply -/

/-- From `s` to `t` the exchange has ended, and of a station's record the sample alone has changed (R73, R137). -/
structure Resampled (k : StationIx) (s t : State) : Prop where
  station : t.st k = { s.st k with
    queueIn := (t.st k).queueIn, queueOut := (t.st k).queueOut, sampleNo := (t.st k).sampleNo, age := (t.st k).age }
  clc : t.clc = { s.clc with exchange := none } := by rfl
  table : t.table = s.table := by rfl
  eq : t.eq = s.eq := by rfl
  hli : t.hli = s.hli := by rfl
  pending : t.pending = s.pending := by rfl

theorem Resampled.of_cleared (s : State) (k : StationIx) : Resampled k s s.clearExchange where
  station := rfl

theorem Resampled.of_sampled (s : State) (k : StationIx) (r : Status) : Resampled k s (s.takeMeasures k r).clearExchange := by
  have hst : (s.takeMeasures k r).clearExchange.st k = (s.st k).takeSample r := by
    rw [show (s.takeMeasures k r).clearExchange.st k = (s.takeMeasures k r).st k from rfl, State.takeMeasures_st, if_pos rfl]
  refine ⟨?_, ?_, ?_, ?_, ?_, ?_⟩
  · rw [hst]; exact Station.takeSample_eq _ r
  all_goals rw [State.takeMeasures_eq]; rfl

/-- What follows the order's part, the state `w`, has led to `t` (R112). -/
structure State.Ends (k : StationIx) (m : CycleModel) (w t : State) : Prop where
  order : (t.st k).order = (w.st k).order
  lastError : (t.st k).lastError = (w.st k).lastError
  correction : (t.st k).correction = (w.st k).correction
  quiet : Quiet w t
  calm : w.Undisturbed k m → (t.st k).lockout = (w.st k).lockout ∧ t.table = w.table ∧ t.eq = w.eq ∧ t.hli = w.hli
  alone : (w.st k).revise = none → (t.st k).revise = none ∧ t.clc = { w.clc with exchange := none }

theorem State.ends {k : StationIx} {m : CycleModel} {w t : State} (hm : (w.st k).model = some m)
    (ht : Resampled k (w.reviseAfterResync k) t) : State.Ends k m w t := by
  obtain ⟨hspared, -⟩ := w.reviseAfterResync_spared k
  refine ⟨?_, ?_, ?_, ?_, fun hcalm => ?_, fun hnone => ?_⟩
  · rw [ht.station, hspared]
  · rw [ht.station, hspared]
  · rw [ht.station, hspared]
  · exact (w.reviseAfterResync_quiet k).host ht.pending ht.eq ht.hli
  · obtain ⟨hst, htable, heq, hhli⟩ := State.reviseAfterResync_undisturbed hm hcalm
    exact ⟨by rw [ht.station, hst], ht.table.trans htable, ht.eq.trans heq, ht.hli.trans hhli⟩
  · have hsame := State.reviseAfterResync_of_none hnone
    rw [hsame] at ht
    exact ⟨by rw [ht.station]; exact hnone, ht.clc⟩

/-! ## What follows the moved model -/

section
variable {s v t w : State} {k : StationIx} {m : CycleModel} {l : List EventBody} {z : Tick}
variable (h : s.Moved k m l z v) (ht : Resampled k (v.resettled k) t)
include h

theorem State.Moved.now : v.now = s.now := congrArg TimeBase.tick h.tb

theorem State.Moved.idents : v.idents = s.idents := by rw [State.idents, h.table]; rfl

theorem State.Moved.uncontested (hactive : s.Uncontested k) : v.Uncontested k := by
  rw [State.Uncontested, h.table]; exact hactive

/-- A REVISE that disturbs nothing before the reply disturbs nothing after the order's part, if it is the same one (R112). -/
theorem State.Moved.undisturbed (hrevise : (w.st k).revise = (v.st k).revise) (hidents : w.idents = v.idents) (htb : w.tb = v.tb)
    (hcalm : s.Undisturbed k m) : w.Undisturbed k m := by
  have hnow : w.now = s.now := (congrArg TimeBase.tick htb).trans h.now
  intro r hr
  rw [hrevise, h.revise] at hr
  obtain hstands | hgone := hcalm r hr
  · left
    rw [State.stands, hnow]
    exact hstands
  · exact .inr (State.entry_none_of_idents (hidents.trans h.idents) hgone)

/-- The order's part leaves a waiting REVISE as it is (R107). -/
theorem State.Moved.revise_after {r : WaitingRevise} (hactive : s.Uncontested k) (hr : (s.st k).revise = some r) :
    ∃ w : State, v.resettled k = w.reviseAfterResync k ∧ (w.st k).model = some m
    ∧ (w.st k).revise = some r ∧ w.idents = s.idents ∧ w.now = s.now := by
  have hreorders := State.orderAfterResync_reorders (h.uncontested hactive)
  have htb : (v.orderAfterResync k).tb = v.tb :=
    show (v.orderAfterResync k).core.tb = v.core.tb from congrArg State.tb (State.orderAfterResync_aside (kept := True) v k).core
  refine ⟨v.orderAfterResync k, rfl, ?_, hreorders.revise r (h.revise.trans hr), hreorders.idents.trans h.idents,
    (congrArg TimeBase.tick htb).trans h.now⟩
  rw [hreorders.station]
  exact h.model

include ht

theorem State.Moved.ends (hactive : s.Uncontested k) (hw : v.orderAfterResync k = w) : State.Ends k m w t := by
  subst hw
  refine State.ends ?_ ht
  rw [(State.orderAfterResync_reorders (h.uncontested hactive)).station]
  exact h.model

/-- The model, the coordination state and the synchronised flag (R51, R97). -/
theorem State.Moved.model_after (hactive : s.Uncontested k) : (t.st k).model = some m ∧ (t.st k).coord = (s.st k).coord
    ∧ (t.st k).synced = ((s.st k).synced || (s.st k).coord = .seeking) := by
  have hst : t.st k = { v.st k with
      order := (t.st k).order, lastError := (t.st k).lastError, correction := (t.st k).correction, revise := (t.st k).revise
      lockout := (t.st k).lockout, queueIn := (t.st k).queueIn, queueOut := (t.st k).queueOut, sampleNo := (t.st k).sampleNo
      age := (t.st k).age } := by
    rw [ht.station, State.resettled, ((v.orderAfterResync k).reviseAfterResync_spared k).1,
      (State.orderAfterResync_reorders (h.uncontested hactive)).station]
  rw [hst]
  exact ⟨h.model, h.coord, h.synced⟩

/-- Without a waiting cycle order the model moves alone (R97, R98). -/
theorem State.Moved.unordered (hactive : s.Uncontested k) (hno : (s.st k).cycleOrder = none) :
    (t.st k).order = (s.st k).order ∧ (s.Undisturbed k m → s.wrote t l ∧ t.table = s.table) := by
  have hends := h.ends ht hactive (State.orderAfterResync_of_none (by rw [Station.cycleOrder, h.order]; exact hno))
  refine ⟨hends.order.trans h.order, fun hcalm => ?_⟩
  obtain ⟨-, htable, heq, hhli⟩ := hends.calm (h.undisturbed rfl rfl rfl hcalm)
  exact ⟨⟨heq.trans h.events.eq, hhli.trans h.events.hli⟩, htable.trans h.table⟩

/-- An order without a fold that has come too late is absent, with its ORDER_LATE (R105, R107). -/
theorem State.Moved.late (hactive : s.Uncontested k) {n : Byte} {c : LateCause}
    (hw : v.orderAfterResync k = (v.orderGone k n c).foldLost none) :
    (t.st k).order = none ∧ (s.Undisturbed k m → s.wrote t (l ++ [.orderLate k n c])) := by
  have hends := h.ends ht hactive hw
  have hgone : ((v.orderGone k n c).foldLost none).st k = { v.st k with order := none } := v.orderGone_st k n c
  obtain ⟨htable, -, htb⟩ := v.orderGone_parts k n c
  refine ⟨hends.order.trans (by rw [hgone]), fun hcalm => ?_⟩
  have hidents : ((v.orderGone k n c).foldLost none).idents = v.idents := by
    show (v.orderGone k n c).idents = _
    rw [State.idents, htable]; rfl
  obtain ⟨-, -, heq, hhli⟩ := hends.calm (h.undisturbed (by rw [hgone]) hidents htb hcalm)
  have hwritten : SameEvents (s.emitAll l) (v.modSt k fun t => { t with order := none }) := h.events.trans {}
  have hafter := hwritten.emit (.orderLate k n c)
  rw [State.wrote, State.emitAll_append]
  exact ⟨heq.trans hafter.eq, hhli.trans hafter.hli⟩

/-- An order that has come too late is absent, with its ORDER_LATE and the withdrawal of its fold's grant (R105, R107, R122). -/
theorem State.Moved.late_withdrawn (hactive : s.Uncontested k) {n : Byte} {c : LateCause} {f : Fold} {e : Entry}
    (hw : v.orderAfterResync k = (v.orderGone k n c).foldLost (some f)) (he : s.entry f.slot = some e) (hk : e.station = k)
    (ho : e.outstanding = true) :
    (t.st k).order = none ∧ s.opens t (l ++ [.orderLate k n c] ++ [.grantWithdrawn k e.tag f.slot]) := by
  have hends := h.ends ht hactive hw
  obtain ⟨htable, -, -⟩ := v.orderGone_parts k n c
  refine ⟨hends.order.trans ?_, State.opens.trans (State.withdrawGrant_opens ?_ ?_ ho hk) hends.quiet⟩
  · show (((v.orderGone k n c).withdrawGrant f.slot).st k).order = none
    rw [((v.orderGone k n c).withdrawGrant_regrants f.slot).station k, State.orderGone_st]
  · have hwritten : SameEvents (s.emitAll l) (v.modSt k fun t => { t with order := none }) := h.events.trans {}
    rw [State.emitAll_append]
    exact hwritten.emit _
  · rw [State.entry, htable, h.table]; exact he

/-- Where no grant of the order's fold is withdrawn and no REVISE waits, URGENT stands but for the noted resynchronisation. -/
theorem State.Moved.untouched (hactive : s.Uncontested k)
    (hsettled : ∀ (o : WaitingOrder) (b : OrderBody), (s.st k).order = some o → o.body = some b → s.Settled b.fold)
    (hnone : (s.st k).revise = none) : (t.st k).revise = none
      ∧ t.clc = { s.clc with exchange := none, resynced := if z = s.now then some k else s.clc.resynced } := by
  have hends := h.ends ht hactive rfl
  obtain ⟨hclc, hrevise⟩ := State.orderAfterResync_settled (h.uncontested hactive) fun o b ho hb f hf e he => by
    rw [State.entry, h.table] at he
    exact hsettled o b (h.order ▸ ho) hb f hf e he
  obtain ⟨hnone', hclc'⟩ := hends.alone (hrevise.trans (h.revise.trans hnone))
  exact ⟨hnone', by rw [hclc', hclc, h.clc]⟩

/-! ## The order that is kept (R107) -/

/-- An order that another change of the station's record leaves in its place: nothing is written (R98, R107). -/
theorem State.Moved.kept (hactive : s.Uncontested k) (hw : v.orderAfterResync k = w) (hrevise : (w.st k).revise = (v.st k).revise)
    (hidents : w.idents = v.idents) (htb : w.tb = v.tb) (heq : w.eq = v.eq) (hhli : w.hli = v.hli) (hcalm : s.Undisturbed k m) :
    s.wrote t l ∧ t.table = w.table ∧ (t.st k).lockout = (w.st k).lockout := by
  obtain ⟨hlockout, htable, heq', hhli'⟩ := (h.ends ht hactive hw).calm (h.undisturbed hrevise hidents htb hcalm)
  exact ⟨⟨heq'.trans (heq.trans h.events.eq), hhli'.trans (hhli.trans h.events.hli)⟩, htable, hlockout⟩

theorem State.Moved.takenOver (hactive : s.Uncontested k) {o : WaitingOrder}
    (hw : v.orderAfterResync k = v.modSt k fun t => { t with order := some o }) :
    (t.st k).order = some o ∧ (s.Undisturbed k m → s.wrote t l ∧ t.table = s.table)
      ∧ ((s.st k).revise = none → (t.st k).revise = none
        ∧ t.clc = { s.clc with exchange := none, resynced := if z = s.now then some k else s.clc.resynced }) := by
  have hends := h.ends ht hactive hw
  have hst : (v.modSt k fun t => { t with order := some o }).st k = { v.st k with order := some o } := by rw [State.st_modSt_same]
  refine ⟨hends.order.trans (by rw [hst]), fun hcalm => ?_, fun hnone => ?_⟩
  · obtain ⟨hwrote, htable, -⟩ := h.kept ht hactive hw (by rw [hst]) rfl rfl rfl rfl hcalm
    exact ⟨hwrote, htable.trans h.table⟩
  · obtain ⟨hnone', hclc⟩ := hends.alone (by rw [hst]; exact h.revise.trans hnone)
    exact ⟨hnone', hclc.trans (by rw [State.modSt_clc, h.clc])⟩

/-! ## The waiting REVISE (R112) -/

section
variable {r : WaitingRevise} (hactive : s.Uncontested k) (hr : (s.st k).revise = some r)
include hactive hr

/-- A waiting REVISE that stands has its latest tick recomputed (R112). -/
theorem State.Moved.revise_stands (hs : s.stands m r = true) :
    (t.st k).revise = some { r with latest := tickAdd m.zeroTick r.offset } := by
  obtain ⟨w, hsame, hm, hw, -, hnow⟩ := h.revise_after hactive hr
  have hstands : w.stands m r = true := by rw [State.stands, hnow]; exact hs
  rw [ht.station, hsame, State.reviseAfterResync_eq hm hw, if_pos hstands, State.st_modSt_same]

/-- A waiting REVISE that has fallen and has no request is absent, and leaves URGENT (R112). -/
theorem State.Moved.revise_gone (hs : s.stands m r = false) (hgone : s.entry r.slot = none) :
    (t.st k).revise = none ∧ ∀ f ∈ t.clc.urgent, ¬(f.station = k ∧ f.kind = .revise) := by
  obtain ⟨w, hsame, hm, hw, hidents, hnow⟩ := h.revise_after hactive hr
  have hfallen : w.stands m r = false := by rw [State.stands, hnow]; exact hs
  have hcleared : v.resettled k = w.clearRevise k := by
    rw [hsame, State.reviseAfterResync_eq hm hw, hfallen, if_neg Bool.false_ne_true,
      State.withdrawRevise_of_gone hw (State.entry_none_of_idents hidents hgone)]
  rw [hcleared] at ht
  refine ⟨by rw [ht.station, State.clearRevise_st], fun f hf => ?_⟩
  rw [ht.clc] at hf
  have hkept := List.of_mem_filter hf
  exact fun hframe => by simp [UrgentFrame.isRevise, hframe.1, hframe.2] at hkept

end

/-- A waiting REVISE that has fallen has its grant withdrawn behind the DRIFT (R112, R122). -/
theorem State.Moved.revise_withdrawn {r : WaitingRevise} {e : Entry} (hr : (s.st k).revise = some r) (hs : s.stands m r = false)
    (hno : (s.st k).cycleOrder = none) (he : s.entry r.slot = some e) (hk : e.station = k) (ho : e.outstanding = true) :
    s.opens t (l ++ [.grantWithdrawn k e.tag r.slot]) := by
  have hfallen : v.stands m r = false := by rw [State.stands, h.now]; exact hs
  have hr' : (v.st k).revise = some r := h.revise.trans hr
  have hwithdrawn : v.resettled k = (v.clearRevise k).withdrawGrant r.slot := by
    rw [State.resettled, State.orderAfterResync_of_none (by rw [Station.cycleOrder, h.order]; exact hno),
      State.reviseAfterResync_eq h.model hr', hfallen, if_neg Bool.false_ne_true, State.withdrawRevise, hr']
  rw [hwithdrawn] at ht
  have hevents : SameEvents (s.emitAll l) (v.clearRevise k) := h.events.trans {}
  have hentry : (v.clearRevise k).entry r.slot = some e := by
    show v.entry r.slot = _
    rw [State.entry, h.table]; exact he
  exact (State.withdrawGrant_opens hevents hentry ho hk).trans (.same ht.pending ht.eq ht.hli)

end

/-! ## The order that is rebuilt (R107, R120) -/

section
variable {s v t : State} {k : StationIx} {m : CycleModel} {l : List EventBody} {z zero : Tick} {o : WaitingOrder} {b : OrderBody}
  {g : PlanSlot}

/-- What is rebuilt at the station: the error projected again with its correction, and the order with these intervals and this fold, in
its place (R103, R107). -/
def Station.Rebuilt (t : Station) (o : WaitingOrder) (b : OrderBody) (zero : Tick) (error : Nat) (tr : Transition) (ivs : List Nat)
    (fold : Option Fold) : Prop :=
  t.lastError = some error ∧ t.correction = some tr.correction ∧ t.order = some { o with
    deadline := tickAdd zero (-5), body := some { b with course := .ofIntervals ivs, fold := fold } }

variable (h : s.Moved k m l z v) (ht : Resampled k (v.resettled k) t) (hactive : s.Uncontested k)
variable {error : Nat} {tr : Transition} {x : State × List Nat × Option Fold}

/-- The order's part rebuilds the order from the state `x.1`, with the intervals and the fold of `x`. -/
def State.rebuiltFrom (k : StationIx) (o : WaitingOrder) (b : OrderBody) (zero : Tick) (x : State × List Nat × Option Fold) : State :=
  x.1.modSt k fun t => { t with order := some { o with
    body := some { b with course := .ofIntervals x.2.1, fold := x.2.2 }, deadline := tickAdd zero (-5) } }

theorem State.rebuiltFrom_st : (State.rebuiltFrom k o b zero x).st k = { x.1.st k with order := some { o with
    body := some { b with course := .ofIntervals x.2.1, fold := x.2.2 }, deadline := tickAdd zero (-5) } } := by
  rw [State.rebuiltFrom, State.st_modSt_same]

theorem State.reprojected_st (s : State) (k : StationIx) (d : Nat) (tr : Transition) :
    (s.reprojected k d tr).st k = { s.st k with lastError := some d, correction := some tr.correction } := by
  rw [State.reprojected, State.st_modSt_same]

include h

/-- The error is projected again under the clock and the minimums in force of the state before the reply (R90, R107). -/
theorem State.Moved.rebuilt_eq (ho : (s.st k).order = some o) (hb : o.body = some b) (hn : o.number = nextNumber m.number)
    (hz : m.nextZero = some zero) (hin : 0 ≤ tickDiff (tickAdd zero (-5)) s.now) (hover : b.takenOver = false)
    (hg : s.slot b.plan = some g) (herror : error = projectedError g.plan.cycle (g.plan.localCycle k) s.tb.m b.target (tickDiff zero s.now))
    (htr : tr = transition g.plan k (s.st k).minsInForce error) : v.orderAfterResync k
      = State.rebuiltFrom k o b zero ((v.reprojected k error tr).refolded k g.plan zero tr.intervals b.fold) := by
  have hslot : v.slot b.plan = some g := by rw [State.slot, h.ps]; exact hg
  have heq := State.orderAfterResync_rebuilt (s := v) h.model (h.order.trans ho) hb hn hz (by rw [h.now]; exact hin) hover hslot
  dsimp only at heq
  rw [h.mins, h.tb, h.now, ← herror, ← htr] at heq
  exact heq

include ht hactive

/-- An order without a fold is rebuilt from the error projected again, and nothing is written (R98, R107). -/
theorem State.Moved.rebuilt_plain
    (hw : v.orderAfterResync k = State.rebuiltFrom k o b zero ((v.reprojected k error tr).refolded k g.plan zero tr.intervals none)) :
    (t.st k).Rebuilt o b zero error tr tr.intervals none ∧ (s.Undisturbed k m → s.wrote t l) := by
  have huncontested : (v.reprojected k error tr).Uncontested k := h.uncontested hactive
  have hplain : (v.reprojected k error tr).refolded k g.plan zero tr.intervals none = (v.reprojected k error tr, tr.intervals, none) :=
    huncontested.offerFold _ _ _
  rw [hplain] at hw
  have hends := h.ends ht hactive hw
  refine ⟨⟨hends.lastError.trans ?_, hends.correction.trans ?_, hends.order.trans ?_⟩, fun hcalm => ?_⟩
  · rw [State.rebuiltFrom_st, State.reprojected_st]
  · rw [State.rebuiltFrom_st, State.reprojected_st]
  · rw [State.rebuiltFrom_st]
  · exact (h.kept ht hactive hw (by rw [State.rebuiltFrom_st, State.reprojected_st]) rfl rfl rfl rfl hcalm).1

section
variable {f : Fold} {e : Entry} (he : s.entry f.slot = some e) (htransit : e.cls = .transit)
  (hw : v.orderAfterResync k = State.rebuiltFrom k o b zero ((v.reprojected k error tr).refolded k g.plan zero tr.intervals (some f)))
include he htransit hw

/-- A fold whose request falls into a later cycle has its grant withdrawn (R120, R122). -/
theorem State.Moved.rebuilt_withdrawn (hk : e.station = k) (ho : e.outstanding = true)
    (hlate : (tr.intervals.sum : Int) ≤ tickDiff e.eta zero) :
    (t.st k).Rebuilt o b zero error tr tr.intervals none ∧ s.opens t (l ++ [.grantWithdrawn k e.tag f.slot]) := by
  have hentry : (v.reprojected k error tr).entry f.slot = some e := by
    show v.entry f.slot = _
    rw [State.entry, h.table]; exact he
  rw [State.refold_late hentry htransit hlate] at hw
  have hends := h.ends ht hactive hw
  have hwithdrawn := ((v.reprojected k error tr).withdrawGrant_regrants f.slot).station k
  have hevents : SameEvents (s.emitAll l) (v.reprojected k error tr) := h.events.trans {}
  refine ⟨⟨hends.lastError.trans ?_, hends.correction.trans ?_, hends.order.trans ?_⟩, ?_⟩
  · rw [State.rebuiltFrom_st, hwithdrawn, State.reprojected_st]
  · rw [State.rebuiltFrom_st, hwithdrawn, State.reprojected_st]
  · rw [State.rebuiltFrom_st]
  · have hplaced : Quiet ((v.reprojected k error tr).withdrawGrant f.slot)
        (State.rebuiltFrom k o b zero ((v.reprojected k error tr).withdrawGrant f.slot, tr.intervals, none)) := .same rfl rfl rfl
    exact (State.withdrawGrant_opens hevents hentry ho hk).trans (hplaced.trans hends.quiet)

/-- What a rebuilt order's fold that is kept leaves: the grant's kind in its request, and nothing written (R98, R120). -/
structure State.KeepsFold (s : State) (k : StationIx) (m : CycleModel) (l : List EventBody) (z : Tick) (i : SlotIx) (kind : GrantKind)
    (outstanding : Bool) (t : State) : Prop where
  revise : (s.st k).revise = none → (t.st k).revise = none
    ∧ t.clc = { s.clc with exchange := none, resynced := if z = s.now then some k else s.clc.resynced }
  wrote : s.Undisturbed k m → s.wrote t l
  table : s.Undisturbed k m → t.table = s.table.map fun y =>
    if y.slot = i then { y with grant := some kind, outstanding := outstanding } else y

/-- A fold that its request still has, in the same or the other kind, is rebuilt with it (R102, R120). -/
theorem State.Moved.rebuilt_folded (ho : e.outstanding = true) (hslots : s.slots.Nodup)
    {kind : FoldKind} {amount : Nat} {ivs : List Nat} (hin : tickDiff e.eta zero < (tr.intervals.sum : Int))
    (hfold : (classify g.plan.maxExtension 0 tr.intervals (s.st k).minsInForce (tickDiff e.eta zero)).fold tr.intervals
      (s.st k).minsInForce = some (kind, amount, ivs)) :
    (t.st k).Rebuilt o b zero error tr ivs (some { slot := f.slot, kind := kind, amount := amount })
      ∧ s.KeepsFold k m l z f.slot kind.grant true t := by
  have hentry : (v.reprojected k error tr).entry f.slot = some e := by
    show v.entry f.slot = _
    rw [State.entry, h.table]; exact he
  have hmins : ((v.reprojected k error tr).st k).minsInForce = (s.st k).minsInForce := by rw [State.reprojected_st]; exact h.mins
  rw [State.refold_within hentry htransit hin, hmins, hfold] at hw
  dsimp only at hw
  have hends := h.ends ht hactive hw
  let n := (v.reprojected k error tr).modEntry f.slot fun e => { e with grant := some kind.grant }
  have hn : n.st k = { v.st k with lastError := some error, correction := some tr.correction } := State.reprojected_st v k error tr
  have hrevise : ((State.rebuiltFrom k o b zero (n, ivs, some { slot := f.slot, kind := kind, amount := amount })).st k).revise
      = (v.st k).revise := by rw [State.rebuiltFrom_st, hn]
  have hidents : n.idents = v.idents := State.modEntry_idents _ _ fun _ => rfl
  refine ⟨⟨hends.lastError.trans ?_, hends.correction.trans ?_, hends.order.trans ?_⟩, fun hnone => ?_, fun hcalm => ?_,
    fun hcalm => ?_⟩
  · rw [State.rebuiltFrom_st, hn]
  · rw [State.rebuiltFrom_st, hn]
  · rw [State.rebuiltFrom_st]
  · obtain ⟨hnone', hclc⟩ := hends.alone (hrevise.trans (h.revise.trans hnone))
    exact ⟨hnone', hclc.trans (by rw [show (State.rebuiltFrom _ _ _ _ _).clc = v.clc from rfl, h.clc])⟩
  · exact (h.kept ht hactive hw hrevise hidents rfl rfl rfl hcalm).1
  · obtain ⟨-, htable, -⟩ := h.kept ht hactive hw hrevise hidents rfl rfl rfl hcalm
    refine htable.trans ?_
    show v.table.map (fun y => if y.slot = f.slot then { y with grant := some kind.grant } else y) = _
    rw [h.table]
    refine List.map_congr_left fun y hy => ?_
    split
    · next hslot =>
      have hsame := State.entry_of_mem hslots hy
      rw [hslot, he] at hsame
      cases hsame
      rw [← ho]
    · rfl

/-- A fold whose request has become PASSIVE is gone, with the lockout (R102, R120, R121). -/
theorem State.Moved.rebuilt_passive (hin : tickDiff e.eta zero < (tr.intervals.sum : Int))
    (hfold : classify g.plan.maxExtension 0 tr.intervals (s.st k).minsInForce (tickDiff e.eta zero) = .passive) :
    (t.st k).Rebuilt o b zero error tr tr.intervals none ∧ s.KeepsFold k m l z f.slot .passive false t
      ∧ (s.Undisturbed k m → (t.st k).lockout = 0) := by
  have hentry : (v.reprojected k error tr).entry f.slot = some e := by
    show v.entry f.slot = _
    rw [State.entry, h.table]; exact he
  have hmins : ((v.reprojected k error tr).st k).minsInForce = (s.st k).minsInForce := by rw [State.reprojected_st]; exact h.mins
  rw [State.refold_within hentry htransit hin, hmins, hfold] at hw
  dsimp only [Classified.fold] at hw
  have hends := h.ends ht hactive hw
  let n := ((v.reprojected k error tr).modEntry f.slot fun e => { e with grant := some .passive, outstanding := false }).setLockout k 0
  have hn : n.st k = { v.st k with lastError := some error, correction := some tr.correction, lockout := 0 } := by
    rw [show n.st k = (State.modSt _ k _).st k from rfl, State.st_modSt_same]
    exact congrArg (fun t : Station => { t with lockout := 0 }) (State.reprojected_st v k error tr)
  have hrevise : ((State.rebuiltFrom k o b zero (n, tr.intervals, none)).st k).revise = (v.st k).revise := by
    rw [State.rebuiltFrom_st, hn]
  have hidents : n.idents = v.idents := State.modEntry_idents (v.reprojected k error tr) f.slot fun _ => rfl
  refine ⟨⟨hends.lastError.trans ?_, hends.correction.trans ?_, hends.order.trans ?_⟩,
    ⟨fun hnone => ?_, fun hcalm => ?_, fun hcalm => ?_⟩, fun hcalm => ?_⟩
  · rw [State.rebuiltFrom_st, hn]
  · rw [State.rebuiltFrom_st, hn]
  · rw [State.rebuiltFrom_st]
  · obtain ⟨hnone', hclc⟩ := hends.alone (hrevise.trans (h.revise.trans hnone))
    exact ⟨hnone', hclc.trans (by rw [show (State.rebuiltFrom _ _ _ _ _).clc = v.clc from rfl, h.clc])⟩
  · exact (h.kept ht hactive hw hrevise hidents rfl rfl rfl hcalm).1
  · obtain ⟨-, htable, -⟩ := h.kept ht hactive hw hrevise hidents rfl rfl rfl hcalm
    refine htable.trans ?_
    show v.table.map (fun y => if y.slot = f.slot then { y with grant := some .passive, outstanding := false } else y) = _
    rw [h.table]
  · obtain ⟨-, -, hlockout⟩ := h.kept ht hactive hw hrevise hidents rfl rfl rfl hcalm
    rw [hlockout, State.rebuiltFrom_st, hn]

end

end

end Sys2Proof.Machine
end

section
/-! SUPPORT. The reply that moves a model, from its exchange to the state after it (R97, R107, R112, R137). -/

-- One proof at a time: elaborated in parallel, each proof that waits for an earlier one holds a thread and its stack.
set_option Elab.async false

namespace Sys2Proof.Machine

variable {s t v : State} {k : StationIx} {m : CycleModel} {l : List EventBody}

/-- The events that open what follows, the last of them named apart. -/
theorem State.opens.behind {b : EventBody} (h : s.opens t (l ++ [b])) (hroom : s.eq.records.length + l.length < 32) :
    ∃ more, t.eq.records = s.eq.records ++ l.map s.record ++ s.record b :: more := by
  obtain ⟨more, hmore⟩ := h.records (by rw [List.length_append, List.length_singleton]; omega)
  refine ⟨more, hmore.trans ?_⟩
  simp

/-- A steady reply to a POLL without requests moves the model, and then sees to the order and the REVISE; the sample is taken before or
after. -/
theorem exec_exchangeEnd_moved {x : Exchange} {cfg : StationConfig} {heard : List Byte} {r : Status} (a b : Bool)
    (hreplied : s.replied x cfg heard r) (hpoll : x.frame = .poll) (hsteady : s.steady x.station r) (hnotices : r.notices = [])
    (houts : r.checkOuts = []) (hm : (s.st x.station).model = some m)
    (hdiffers : numberStep r.number m.number ≠ 0 ∨ 3 < (m.timeDifference x.slotTick r.time).natAbs
      ∨ ((s.st x.station).coord = .seeking ∧ (s.st x.station).synced = false) ∨ m.basis = .none ∧ s.activePlan ≠ none)
    (hidle : (s.st x.station).synced = false ∨ s.Uncontested x.station)
    (htidal : 0 < numberStep r.number m.number → ¬ s.activePlan.any (·.tidalAt x.station) = true)
    (hquiet : ∀ (m : CycleModel) (l : List EventBody) (v : State), s.Moved x.station m l x.slotTick v →
      (v.resettled x.station).activeEmergency x.station = none) :
    ∃ v t : State, exec (.exchangeEnd heard a b) s = .next t ∧ Resampled x.station (v.resettled x.station) t
      ∧ s.Moved x.station (m.moved (s.planBasis x.station) x.slotTick r.number r.time)
        (if (s.st x.station).synced then [.drift x.station (m.timeDifference x.slotTick r.time) (numberStep r.number m.number)] else [])
        x.slotTick v := by
  have hdelivered : s.deliver x = s := by rw [State.deliver, hpoll]
  have hrun := exec_exchangeEnd (a := a) (b := b) hreplied
  rw [hdelivered, State.replyTaken_of_online hsteady.1, State.takeFlags_of_steady hsteady.acknowledged] at hrun
  have hrest := s.acknowledged_rest x.station
  have hmodel : ((s.acknowledged x.station).st x.station).model = some m := by rw [State.acknowledged_st]; exact hm
  cases b with
  | true =>
    have hsampled := hrest.trans (State.takeMeasures_rest _ x.station r)
    have hmodel' : (((s.acknowledged x.station).takeMeasures x.station r).st x.station).model = some m := by
      rw [State.takeMeasures_st, if_pos rfl, Station.takeSample_eq]; exact hmodel
    obtain ⟨v, hcycle, hv⟩ := State.cyclePart_moved (w := (s.st x.station).synced) hsampled hmodel' hdiffers hidle htidal
    have hparts : (s.acknowledged x.station).partsTaken x r (s.st x.station).synced true = v.resettled x.station := hcycle
    rw [hparts, State.takePriority_of_quiet hnotices houts (hquiet _ _ v hv)] at hrun
    exact ⟨v, _, hrun, .of_cleared _ _, hv⟩
  | false =>
    obtain ⟨v, hcycle, hv⟩ := State.cyclePart_moved (w := (s.st x.station).synced) hrest hmodel hdiffers hidle htidal
    have hparts : (s.acknowledged x.station).partsTaken x r (s.st x.station).synced false
        = (v.resettled x.station).takeMeasures x.station r := congrArg (·.takeMeasures x.station r) hcycle
    have hnone : ((v.resettled x.station).takeMeasures x.station r).activeEmergency x.station = none := by
      rw [State.takeMeasures_eq]; exact hquiet _ _ v hv
    rw [hparts, State.takePriority_of_quiet hnotices houts hnone] at hrun
    exact ⟨v, _, hrun, .of_sampled _ _ r, hv⟩

/-- Without a waiting cycle order and a REVISE nothing follows the moved model (R107, R112). -/
theorem State.resettled_of_bare (horder : (v.st k).cycleOrder = none) (hrevise : (v.st k).revise = none) : v.resettled k = v := by
  rw [State.resettled, State.orderAfterResync_of_none horder, State.reviseAfterResync_of_none hrevise]

/-- A resynchronisation leaves the identities of the requests (R107, R112). -/
theorem State.Moved.resettled_idents {z : Tick} (h : s.Moved k m l z v) (hactive : s.Uncontested k) :
    (v.resettled k).idents = s.idents :=
  ((v.orderAfterResync k).reviseAfterResync_spared k).2.trans
    ((State.orderAfterResync_reorders (h.uncontested hactive)).idents.trans h.idents)

/-- An order without a fold that is not too late writes nothing (R98, R107). -/
theorem State.Moved.inTime {z zero : Tick} {o : WaitingOrder} {d : OrderBody} (h : s.Moved k m l z v)
    (ht : Resampled k (v.resettled k) t) (hactive : s.Uncontested k) (ho : (s.st k).order = some o) (hd : o.body = some d)
    (hfold : d.fold = none) (hn : o.number = nextNumber m.number) (hz : m.nextZero = some zero)
    (hin : 0 ≤ tickDiff (tickAdd zero (-5)) s.now) (hcalm : s.Undisturbed k m) : s.wrote t l := by
  have ho' : (v.st k).order = some o := h.order.trans ho
  have hin' : 0 ≤ tickDiff (tickAdd zero (-5)) v.now := by rw [h.now]; exact hin
  cases hover : d.takenOver with
  | true => exact ((h.takenOver ht hactive (State.orderAfterResync_takenOver h.model ho' hd hn hz hin' hover)).2.1 hcalm).1
  | false =>
    cases hg : s.slot d.plan with
    | some g =>
      have hw := h.rebuilt_eq ho hd hn hz hin hover hg rfl rfl
      rw [hfold] at hw
      exact (h.rebuilt_plain ht hactive hw).2 hcalm
    | none =>
      have hw : v.orderAfterResync k = v := by
        have hslot : v.slot d.plan = none := by rw [State.slot, h.ps]; exact hg
        rw [State.orderAfterResync_next h.model ho' hd hn hz, if_neg (not_lt.2 hin'), hover, if_neg Bool.false_ne_true, hslot]
      exact (h.kept ht hactive hw rfl rfl rfl rfl rfl hcalm).1

/-- The waiting cycle order with its body (R104). -/
theorem waiting_iff {w : Option WaitingOrder} {o : WaitingOrder} {d : OrderBody} :
    (w.bind fun o => o.body.map fun d => (o, d)) = some (o, d) ↔ w = some o ∧ o.body = some d := by
  cases w with
  | none => simp
  | some w =>
    simp only [Option.bind_some, Option.map_eq_some_iff, Prod.mk.injEq, Option.some.injEq]
    exact ⟨fun ⟨_, hd, ho, heq⟩ => ⟨ho, heq ▸ ho ▸ hd⟩, fun ⟨ho, hd⟩ => ⟨d, ho ▸ hd, ho, rfl⟩⟩

theorem cycleOrder_of_not_waiting (h : ((s.st k).order.bind fun o => o.body.map fun d => (o, d)) = none) :
    (s.st k).cycleOrder = none := by
  rw [Station.cycleOrder]
  cases ho : (s.st k).order with
  | none => rfl
  | some o => simpa [ho] using h

theorem not_tidalAt {p : Option Plan} {k : StationIx} (h : ∀ q ∈ p, ¬(q.mode = .tidal ∧ q.tidal = some k.val)) :
    ¬ p.any (·.tidalAt k) = true := by
  rw [Option.any_eq_true]
  rintro ⟨q, hq, htidal⟩
  simp only [Plan.tidalAt, Bool.and_eq_true, decide_eq_true_eq] at htidal
  exact h q hq htidal

/-- A model with a basis keeps or adopts one (R97). -/
theorem CycleModel.adopted_course {c : Course} (h : m.basis.course = some c) (n : Byte) :
    ∃ c' : Course, (m.adopted n).course = some c' := by
  unfold CycleModel.adopted
  split
  · split
    · exact ⟨_, rfl⟩
    · exact ⟨c, h⟩
  · exact ⟨c, h⟩

theorem Basis.ne_none_of_course {b : Basis} {c : Course} (h : b.course = some c) : b ≠ .none := by
  rintro rfl
  cases h

end Sys2Proof.Machine

open Sys2Proof Sys2Proof.Machine

/-- Settles O32: the reply moves the model first, which leaves the order and the REVISE to be seen to in a state that differs in the
model, the events and the noted resynchronisation alone; each clause is then one case of the order's part, followed by the REVISE's. -/
theorem resynchronisationMovesTheModelAndItsOrders : Obligations.ResynchronisationMovesTheModelAndItsOrders := by
  refine ⟨?_, ?_⟩
  · intro s x cfg heard r m c a b hreplied hpoll hsteady hnotices houts hcoordinated hsynced hm hcourse htable hall k step difference
      hdiffers htidal basis moved zero deadline waiting stands quiet drift untouched
    have hactive : s.Uncontested k := fun e he hk => (hall e he hk).2
    obtain ⟨v, t, hrun, ht, hv⟩ := exec_exchangeEnd_moved a b hreplied hpoll hsteady hnotices houts hm (by tauto) (.inr hactive)
      (fun hstep => not_tidalAt (htidal hstep))
      fun m l v hv => State.activeEmergency_of_transit (hv.resettled_idents hactive) fun e he hk => (hall e he hk).1
    obtain ⟨c', hc'⟩ := CycleModel.adopted_course hcourse r.number
    have hmoved : m.moved (s.planBasis k) x.slotTick r.number r.time = moved := by
      unfold CycleModel.moved
      rw [if_neg (Basis.ne_none_of_course hc')]
      rfl
    rw [hsynced, if_pos rfl, hmoved] at hv
    have hc'' : basis.course = some c' := hc'
    have hz : moved.nextZero = some zero := by
      show basis.course.map (fun c => tickAdd moved.zeroTick c.length)
        = some (tickAdd moved.zeroTick ((basis.course.map (·.length)).getD 0))
      rw [hc'']
      rfl
    have hvorder {o : WaitingOrder} (ho : (s.st k).order = some o) : (v.st k).order = some o := hv.order.trans ho
    have hvnow : v.now = s.now := hv.now
    obtain ⟨hmodel, hcoord, hsync⟩ := hv.model_after ht hactive
    refine ⟨t, hrun, hmodel, by rw [hsync, hsynced]; rfl, hcoord, fun hnone => ?_, fun o d hod hfold => ?_,
      fun o d f e hod hfold he hk ho hq => ?_, fun hidle => ?_, fun r' hr' => ?_⟩
    · obtain ⟨horder, hcalm⟩ := hv.unordered ht hactive (cycleOrder_of_not_waiting hnone)
      exact ⟨horder, fun hq => (hcalm hq).1⟩
    · obtain ⟨horder, hbody⟩ := waiting_iff.1 hod
      refine ⟨fun hn => ?_, fun hn hpast => ?_, fun hn hin => ?_⟩
      · exact hv.late ht hactive (hfold ▸ State.orderAfterResync_overtaken hv.model (hvorder horder) hbody hn)
      · exact hv.late ht hactive (hfold ▸ State.orderAfterResync_deadline hv.model (hvorder horder) hbody hn hz (hvnow ▸ hpast))
      · refine ⟨hv.inTime ht hactive horder hbody hfold hn hz hin, fun hover => ?_, fun g hover hg => ?_⟩
        · exact (hv.takenOver ht hactive
            (State.orderAfterResync_takenOver hv.model (hvorder horder) hbody hn hz (hvnow ▸ hin) hover)).1
        · have hw := hv.rebuilt_eq horder hbody hn hz hin hover hg rfl rfl
          rw [hfold] at hw
          exact (hv.rebuilt_plain ht hactive hw).1
    · obtain ⟨horder, hbody⟩ := waiting_iff.1 hod
      refine ⟨fun hn => ?_, fun hn hpast => ?_, fun hn hin => ⟨fun hover => ?_, fun g hover hg => ?_⟩⟩
      · obtain ⟨hgone, hopens⟩ := hv.late_withdrawn ht hactive
          (hfold ▸ State.orderAfterResync_overtaken hv.model (hvorder horder) hbody hn) he hk ho
        exact ⟨hgone, hopens.behind⟩
      · obtain ⟨hgone, hopens⟩ := hv.late_withdrawn ht hactive
          (hfold ▸ State.orderAfterResync_deadline hv.model (hvorder horder) hbody hn hz (hvnow ▸ hpast)) he hk ho
        exact ⟨hgone, hopens.behind⟩
      · obtain ⟨hretimed, hcalm, hrest⟩ := hv.takenOver ht hactive
          (State.orderAfterResync_takenOver hv.model (hvorder horder) hbody hn hz (hvnow ▸ hin) hover)
        exact ⟨hrest, hretimed, (hcalm hq).2, (hcalm hq).1⟩
      · have htransit : e.cls = .transit := (hall e (State.entry_mem he).1 hk).1
        have hw := hv.rebuilt_eq horder hbody hn hz hin hover hg rfl rfl
        rw [hfold] at hw
        refine ⟨fun hlate => ?_, fun hwithin hopen hroom => ?_, fun hwithin hopen hroom hfloor => ?_, fun hwithin hshut => ?_⟩
        · obtain ⟨hrebuilt, hopens⟩ := hv.rebuilt_withdrawn ht hactive he htransit hw hk ho hlate
          exact ⟨hrebuilt, hopens.behind⟩
        · obtain ⟨hrebuilt, hkeeps⟩ := hv.rebuilt_folded ht hactive he htransit hw ho htable.2.1 hwithin
            (congrArg (Classified.fold · _ _) (classify_extends hopen hroom))
          exact ⟨⟨hkeeps.revise, hkeeps.wrote hq, hkeeps.table hq⟩, hrebuilt⟩
        · obtain ⟨hrebuilt, hkeeps⟩ := hv.rebuilt_folded ht hactive he htransit hw ho htable.2.1 hwithin
            (congrArg (Classified.fold · _ _) (classify_early hopen hroom hfloor))
          exact ⟨⟨hkeeps.revise, hkeeps.wrote hq, hkeeps.table hq⟩, hrebuilt⟩
        · obtain ⟨hrebuilt, hkeeps, hlockout⟩ := hv.rebuilt_passive ht hactive he htransit hw hwithin (classify_passive hshut)
          exact ⟨⟨hkeeps.revise, hkeeps.wrote hq, hkeeps.table hq⟩, hrebuilt, hlockout hq⟩
    · refine hv.untouched ht hactive fun o d ho hd f hf e he => ?_
      exact hidle o d f e (waiting_iff.2 ⟨ho, hd⟩) hf he
    · refine ⟨fun hstands => hv.revise_stands ht hactive hr' hstands,
        fun hfallen hgone => hv.revise_gone ht hactive hr' hfallen hgone, fun e hfallen he hk ho hnone hroom => ?_⟩
      obtain ⟨more, hmore⟩ := (hv.revise_withdrawn ht hr' hfallen (cycleOrder_of_not_waiting hnone) he hk ho).behind
        (by rw [List.length_singleton]; omega)
      exact ⟨more, hmore.trans (List.append_assoc _ _ _)⟩
  · intro s x cfg heard r m a b hreplied hpoll hsteady hnotices houts hsynced hm hno hrevise hcalm k step hdiffers htidal adopted
    have hbare {m : CycleModel} {l : List EventBody} {v : State} (hv : s.Moved k m l x.slotTick v) : v.resettled k = v :=
      State.resettled_of_bare (by rw [Station.cycleOrder, hv.order]; exact hno) (hv.revise.trans hrevise)
    obtain ⟨v, t, hrun, ht, hv⟩ := exec_exchangeEnd_moved a b hreplied hpoll hsteady hnotices houts hm (by tauto) (.inl hsynced)
      (fun hstep => not_tidalAt (htidal hstep)) fun m l v hv => by
        rw [hbare hv, State.activeEmergency, hv.table]; exact hcalm
    rw [hbare hv] at ht
    rw [hsynced, if_neg Bool.false_ne_true] at hv
    have hplan : s.planBasis k = (s.activePlan.map fun p => .plan (p.course k)).getD .none := by
      rw [State.planBasis]
      cases s.activePlan <;> rfl
    refine ⟨t, hrun, ?_, ?_, ?_, ?_, ?_, ht.table.trans hv.table, ht.eq.trans hv.events.eq, ht.hli.trans hv.events.hli⟩
    · rw [ht.station, ← hplan]
      exact hv.model
    · rw [ht.station]
      exact hv.synced.trans (by rw [hsynced, Bool.false_or])
    · rw [ht.station]; exact hv.coord
    · rw [ht.station]; exact hv.order
    · rw [ht.station]; exact hv.revise.trans hrevise
end
